-- ==== Sys2Proof/Word.lean ====
section
/-! DEFINITION. The names the manual numbers or lists: bytes, indices, lanes, kinds, ports, owners, and
small containers holding one value for each lane, kind, port or owner. -/

namespace Sys2Proof

/-- One character of a link (R170). -/
abbrev Byte := BitVec 8

/-- A 16-bit counter that wraps after 65,535: sale sequences and shift numbers (R30, R147). -/
abbrev Word16 := BitVec 16

/-- A denomination index, 0–11 (R1). -/
abbrev Denom := Fin 12

/-- A store, S0–S11 (R6). -/
abbrev StoreId := Fin 12

/-- A stroke slot of the Plan Pool, 0–39 (R95). -/
abbrev SlotId := Fin 40

/-- The 6-bit class code of an intake head (R4). -/
abbrev ClassCode := Fin 64

/-- The two lanes. -/
inductive Lane where
  | one
  | two
  deriving DecidableEq, Repr

/-- "The other lane." -/
def Lane.other : Lane → Lane
  | .one => .two
  | .two => .one

/-- COIN or NOTE: the kind of a denomination, store, head, cashbox or chute, and the coin or note path. -/
inductive Kind where
  | coin
  | note
  deriving DecidableEq, Repr

/-- The three link ports. -/
inductive Port where
  | lane (l : Lane)
  | office
  deriving DecidableEq, Repr

/-- The owner of a stroke (R97): a lane, or the office for skim work. -/
inductive Owner where
  | lane (l : Lane)
  | office
  deriving DecidableEq, Repr

/-- One value for each lane. -/
structure PerLane (α : Type) where
  one : α
  two : α
  deriving DecidableEq, Repr

/-- One value for each kind (or path). -/
structure PerKind (α : Type) where
  coin : α
  note : α
  deriving DecidableEq, Repr

/-- One value for each port, or for each owner. -/
structure PerParty (α : Type) where
  one : α
  two : α
  office : α
  deriving DecidableEq, Repr

def PerLane.get {α : Type} (t : PerLane α) : Lane → α
  | .one => t.one
  | .two => t.two

def PerLane.set {α : Type} (t : PerLane α) (l : Lane) (x : α) : PerLane α :=
  match l with
  | .one => { t with one := x }
  | .two => { t with two := x }

def PerKind.get {α : Type} (t : PerKind α) : Kind → α
  | .coin => t.coin
  | .note => t.note

def PerKind.set {α : Type} (t : PerKind α) (k : Kind) (x : α) : PerKind α :=
  match k with
  | .coin => { t with coin := x }
  | .note => { t with note := x }

def PerParty.get {α : Type} (t : PerParty α) : Port → α
  | .lane .one => t.one
  | .lane .two => t.two
  | .office => t.office

def PerParty.set {α : Type} (t : PerParty α) (p : Port) (x : α) : PerParty α :=
  match p with
  | .lane .one => { t with one := x }
  | .lane .two => { t with two := x }
  | .office => { t with office := x }

/-- The port on which an owner's master speaks. -/
def Owner.port : Owner → Port
  | .lane l => .lane l
  | .office => .office

def allLanes : List Lane := [.one, .two]

def allKinds : List Kind := [.coin, .note]

def allStores : List StoreId := [0, 1, 2, 3, 4, 5, 6, 7, 8, 9, 10, 11]

def allDenoms : List Denom := [0, 1, 2, 3, 4, 5, 6, 7, 8, 9, 10, 11]

/-- A table with every entry rewritten by one function. -/
def mapTable {α β : Type} {n : Nat} (f : α → β) (v : Vector α n) : Vector β n :=
  ⟨⟨v.toArray.toList.map f⟩, by simp⟩

/-- The table of one value for each store or denomination, from a function of the index. -/
def tabulate {α : Type} (f : Fin 12 → α) : Vector α 12 :=
  ⟨⟨[f 0, f 1, f 2, f 3, f 4, f 5, f 6, f 7, f 8, f 9, f 10, f 11]⟩, rfl⟩

/-- The requests of R177, each named as the manual names it. -/
inductive Request where
  | openSale | readTender | settle | cancelSale | haltPayout | collect | retractNotes
  | readCompletion | readStock
  | readPlan | setLaneMode | readNotices | enableNotice | disableNotice | dismissNotice
  | readStore | readTotals | readProfile
  | writeDenomination | writeClassEntry | assignStore | writeLimits | writeProfileEntry
  | commitProfile
  | skimToTarget | emptyStore | stopSkim | declareCount | clearJam | enableStore | disableStore
  | cashboxEmptied | closeShift | clearCurrency | restart
  deriving DecidableEq, Repr

end Sys2Proof
end

