-- ==== Sys2Proof/Config.lean ====
section
/-! DEFINITION. What the manual fixes for every part (times, limits) and the free values: constants with
no body, for the few values the manual leaves open. -/

namespace Sys2Proof.Config

/-- Re-homing of a path after start-up, ms (R111). -/
def rehomeMs : Nat := 400

/-- A diverter move, ms (R117). -/
def moveMs : Kind → Nat
  | .coin => 150
  | .note => 250

/-- The deadline of a stroke, ms, from its count at the start (R119). -/
def deadlineMs : Kind → Nat → Nat
  | .coin, count => 400 + 80 * count
  | .note, count => 1000 + 300 * count

/-- The after-run window, ms (R121). -/
def afterRunMs : Kind → Nat
  | .coin => 200
  | .note => 300

/-- The route window of a fill, ms (R63). -/
def routeWindowMs : Kind → Nat
  | .coin => 120
  | .note => 600

/-- The tender ceiling (R30, R56). -/
def tenderCeiling : Nat := 131071

/-- The most fills pending on one store (R57). -/
def maxPending : Nat := 4

/-- The most pieces a store can be set up to hold, and the highest mark (R6, R135). -/
def maxCapacity : Nat := 4095

/-- The most pieces a cashbox can be set up to hold (R19). -/
def maxBoxCapacity : Nat := 8000

/-- The headroom a cashbox keeps back from its space (R20). -/
def headroom : Kind → Nat
  | .coin => 0
  | .note => 30

/-- The highest face value (R1). -/
def maxValue : Nat := 50000

/-- The limit of the eight unsigned shift counters (R150). -/
def maxCounter : Nat := 4294967295

/-- The limit of ADJUSTED, either way (R150). -/
def maxAdjusted : Int := 2147483647

/-- The limit of a tally count (R105). -/
def maxTally : Nat := 65535

/-- The most retreats of a pass (R83). -/
def maxRetreats : Nat := 16

/-- The most attempts of one request (R92). -/
def maxAttempts : Nat := 3

/-- The most entries of a completion record's pieces list (R49). -/
def maxEntries : Nat := 10

/-- The frames a receive buffer holds (R172). -/
def bufferDepth : Nat := 2

/-- FREE VALUE (log 6): the byte at a position of a fixed-width reply field whose number does not fit the
field's width. The manual gives every field a range that fits and no byte for a number beyond it. -/
opaque unfitByte (width value position : Nat) : Byte

/-- FREE VALUE (log 7): the rank of a denomination among those of its value, where a pieces list must leave
one of them out (R49 says "the ten of those with the highest values" and no more). -/
opaque tiedRank (pieces : Vector Nat 12) (d : Denom) : Nat

end Sys2Proof.Config
end

