-- ==== Sys2Proof/Syntax.lean ====
section
/-! DEFINITION. The commands of the part: one constructor for each row of spec/opcode_table.json, in the
table's order. A request carries the port its frame arrives on and its payload bytes, in the layout of
R177; an event of the mechanism or of the link carries what it reports. -/

namespace Sys2Proof

inductive Instr where
  -- the requests (R177): a frame with a right check byte and this request's code completes on a port
  | openSale (p : Port) (payload : List Byte)
  | readTender (p : Port) (payload : List Byte)
  | settle (p : Port) (payload : List Byte)
  | cancelSale (p : Port) (payload : List Byte)
  | haltPayout (p : Port) (payload : List Byte)
  | collect (p : Port) (payload : List Byte)
  | retractNotes (p : Port) (payload : List Byte)
  | readCompletion (p : Port) (payload : List Byte)
  | readStock (p : Port) (payload : List Byte)
  | readPlan (p : Port) (payload : List Byte)
  | setLaneMode (p : Port) (payload : List Byte)
  | readNotices (p : Port) (payload : List Byte)
  | enableNotice (p : Port) (payload : List Byte)
  | disableNotice (p : Port) (payload : List Byte)
  | dismissNotice (p : Port) (payload : List Byte)
  | readStore (p : Port) (payload : List Byte)
  | readTotals (p : Port) (payload : List Byte)
  | readProfile (p : Port) (payload : List Byte)
  | writeDenomination (p : Port) (payload : List Byte)
  | writeClassEntry (p : Port) (payload : List Byte)
  | assignStore (p : Port) (payload : List Byte)
  | writeLimits (p : Port) (payload : List Byte)
  | writeProfileEntry (p : Port) (payload : List Byte)
  | commitProfile (p : Port) (payload : List Byte)
  | skimToTarget (p : Port) (payload : List Byte)
  | emptyStore (p : Port) (payload : List Byte)
  | stopSkim (p : Port) (payload : List Byte)
  | declareCount (p : Port) (payload : List Byte)
  | clearJam (p : Port) (payload : List Byte)
  | enableStore (p : Port) (payload : List Byte)
  | disableStore (p : Port) (payload : List Byte)
  | cashboxEmptied (p : Port) (payload : List Byte)
  | closeShift (p : Port) (payload : List Byte)
  | clearCurrency (p : Port) (payload : List Byte)
  | restart (p : Port) (payload : List Byte)
  -- the link
  /-- A frame with a wrong check byte or a code R177 does not list completes on a port: its bytes are
  the code and payload, and the check byte. -/
  | unknownCode (p : Port) (body : List Byte) (check : Byte)
  /-- The check byte of the frame in progress is received. -/
  | frameComplete (p : Port) (check : Byte)
  | interByteGapExpiry (p : Port)
  /-- The last byte of the reply in progress has been sent. -/
  | replyTransmitEnd (p : Port)
  -- the part
  | startUp
  | rehomeComplete (path : Kind)
  | managerKeyChange (l : Lane) (turned : Bool)
  -- the intake
  | headStrobe (l : Lane) (k : Kind) (code : ClassCode)
  | routeDecision (l : Lane) (k : Kind)
  | entryPulse (k : StoreId)
  | routeWindowExpiry (k : StoreId)
  -- the stores, the cashboxes and the paths
  | cassetteOut (k : StoreId)
  | cassetteIn (k : StoreId)
  | emptyLevelReport (k : StoreId)
  | piecePulse (k : StoreId)
  | afterRunWindowClose (k : StoreId)
  | strokeDeadlineExpiry (k : StoreId)
  | cashboxOut (k : Kind)
  | cashboxIn (k : Kind)
  | strokeStart (path : Kind)
  | diverterMoveComplete (path : Kind)
  /-- The coin cup (`coin`) or note presenter (`note`) of a lane reports occupied or empty. -/
  | chuteSensorChange (l : Lane) (k : Kind) (occupied : Bool)
  | presentTimerExpiry (l : Lane)
  | attemptCompletion
  | powerLoss
  | byteReceived (p : Port) (b : Byte) (stopError : Bool)
  | emptyLevelNotEmpty (k : StoreId)
  deriving DecidableEq, Repr

end Sys2Proof
end

