-- ==== Sys2Proof/Decode.lean ====
section
/-! DEFINITION. What a word or a byte of a link stands for. No row of spec/opcode_table.json has bits, so no
table word spells a command; the codes here are those of the link chapter (R176, R177). -/

namespace Sys2Proof

/-- The command a table word spells: the table gives no row any bits, so none. -/
def decodeTableWord (_nbits _w : Nat) : Option Instr := none

/-- The requests in the order of R177. -/
def allRequests : List Request :=
  [.openSale, .readTender, .settle, .cancelSale, .haltPayout, .collect, .retractNotes,
   .readCompletion, .readStock, .readPlan, .setLaneMode, .readNotices, .enableNotice,
   .disableNotice, .dismissNotice] ++
  [.readStore, .readTotals, .readProfile, .writeDenomination, .writeClassEntry, .assignStore,
   .writeLimits, .writeProfileEntry, .commitProfile, .skimToTarget, .emptyStore, .stopSkim,
   .declareCount, .clearJam, .enableStore, .disableStore, .cashboxEmptied, .closeShift,
   .clearCurrency, .restart]

/-- The code of a request (R177). -/
def Request.code : Request → Byte
  | .openSale => 0x01
  | .readTender => 0x02
  | .settle => 0x03
  | .cancelSale => 0x04
  | .haltPayout => 0x05
  | .collect => 0x06
  | .retractNotes => 0x07
  | .readCompletion => 0x08
  | .readStock => 0x09
  | .readPlan => 0x10
  | .setLaneMode => 0x11
  | .readNotices => 0x12
  | .enableNotice => 0x13
  | .disableNotice => 0x14
  | .dismissNotice => 0x15
  | .readStore => 0x20
  | .readTotals => 0x21
  | .readProfile => 0x22
  | .writeDenomination => 0x28
  | .writeClassEntry => 0x29
  | .assignStore => 0x2A
  | .writeLimits => 0x2B
  | .writeProfileEntry => 0x2C
  | .commitProfile => 0x2D
  | .skimToTarget => 0x30
  | .emptyStore => 0x31
  | .stopSkim => 0x32
  | .declareCount => 0x33
  | .clearJam => 0x34
  | .enableStore => 0x35
  | .disableStore => 0x36
  | .cashboxEmptied => 0x37
  | .closeShift => 0x38
  | .clearCurrency => 0x39
  | .restart => 0x3F

/-- The request of a code; none for a code R177 does not list (R173, step 2). -/
def requestOfCode (c : Byte) : Option Request :=
  allRequests.find? (fun r => r.code == c)

/-- The kinds of port a request is served on (R169, R177). -/
inductive Served where
  | lanesOnly
  | officeOnly
  | both
  deriving DecidableEq, Repr

/-- On which ports a request is served in a form (R169, R177). -/
def Request.served : Request → Served
  | .openSale | .readTender | .settle | .cancelSale | .haltPayout | .collect | .retractNotes
  | .readCompletion | .readStock => .lanesOnly
  | .readPlan | .setLaneMode | .readNotices | .enableNotice | .disableNotice
  | .dismissNotice => .both
  | .readStore | .readTotals | .readProfile | .writeDenomination | .writeClassEntry
  | .assignStore | .writeLimits | .writeProfileEntry | .commitProfile | .skimToTarget
  | .emptyStore | .stopSkim | .declareCount | .clearJam | .enableStore | .disableStore
  | .cashboxEmptied | .closeShift | .clearCurrency | .restart => .officeOnly

/-- The required level of a request on a lane port (R168). -/
def Request.laneLevel : Request → Nat
  | .haltPayout | .retractNotes => 1
  | r => if r.served = .officeOnly then 0 else 2

/-- The length of a request's payload on each kind of port (R177). -/
def Request.payloadLength (r : Request) (p : Port) : Nat :=
  match r with
  | .openSale => 3
  | .settle => 1
  | .readPlan => if p = .office then 1 else 0
  | .setLaneMode => if p = .office then 2 else 1
  | .enableNotice | .disableNotice | .dismissNotice => 1
  | .readStore => 1
  | .readTotals => 2
  | .readProfile => 1
  | .writeDenomination => 5
  | .writeClassEntry => 3
  | .assignStore => 5
  | .writeLimits => 9
  | .writeProfileEntry => 7
  | .emptyStore => 1
  | .declareCount => 3
  | .clearJam | .enableStore | .disableStore | .cashboxEmptied => 1
  | .readTender | .cancelSale | .haltPayout | .collect | .retractNotes | .readCompletion
  | .readStock | .readNotices | .commitProfile | .skimToTarget | .stopSkim | .closeShift
  | .clearCurrency | .restart => 0

/-- A big-endian number of bytes (R176). -/
def numberOf (bs : List Byte) : Nat := bs.foldl (fun n b => n * 256 + b.toNat) 0

/-- The `width` low bytes of a number, most significant first (R176). -/
def bigEndian : Nat → Nat → List Byte
  | 0, _ => []
  | w + 1, n => BitVec.ofNat 8 (n / 256 ^ w) :: bigEndian w n

/-- A number in a field of `width` bytes; a number that does not fit gives free bytes (log 6). -/
def field (width n : Nat) : List Byte :=
  if n < 256 ^ width then bigEndian width n
  else (List.range width).map (Config.unfitByte width n)

/-- A signed number in a field of `width` bytes, two's complement (R176). -/
def signedField (width : Nat) (n : Int) : List Byte :=
  if 0 ≤ n then
    (if n.toNat < 256 ^ width / 2 then bigEndian width n.toNat
     else (List.range width).map (Config.unfitByte width n.toNat))
  else
    (if (-n).toNat ≤ 256 ^ width / 2 then bigEndian width (256 ^ width - (-n).toNat)
     else (List.range width).map (Config.unfitByte width (-n).toNat))

/-- A flag byte (R176). -/
def flagByte (b : Bool) : Byte := if b then 1 else 0

/-- A flag byte as received: 0 or 1, any other value out of range (R176). -/
def readFlag (b : Byte) : Option Bool :=
  if b = 0 then some false else if b = 1 then some true else none

/-- A kind, path, table or cashbox byte as received (R176). -/
def readKind (b : Byte) : Option Kind :=
  if b = 0 then some .coin else if b = 1 then some .note else none

def Kind.code : Kind → Byte
  | .coin => 0
  | .note => 1

/-- An index or store number 0–11 as received (R176). -/
def readIndex (b : Byte) : Option (Fin 12) :=
  if h : b.toNat < 12 then some ⟨b.toNat, h⟩ else none

/-- A denomination byte where the field allows 0xFF for UNASSIGNED or REJECT (R176): the outer option is
the range. -/
def readIndexOrNone (b : Byte) : Option (Option Denom) :=
  if b = 0xFF then some none else (readIndex b).map some

/-- A byte of two flags, bit 0 and bit 1; any other bit set is out of range (R177). -/
def readTwoFlags (b : Byte) : Option (Bool × Bool) :=
  if b.toNat < 4 then some (b.getLsbD 0, b.getLsbD 1) else none

/-- A byte of two flags (R176): a bit the layout does not list is sent as 0 (DESIGN CHOICE, log 31). -/
def twoFlags (b0 b1 : Bool) : Byte := (if b0 then 1 else 0) + (if b1 then 2 else 0)

/-- A lane number as received on the office port (R28, R177). -/
def readLane (b : Byte) : Option Lane :=
  if b = 1 then some .one else if b = 2 then some .two else none

def Lane.code : Lane → Byte
  | .one => 1
  | .two => 2

/-- An owner byte as received (R108, R176). -/
def readOwner (b : Byte) : Option Owner :=
  if b = 1 then some (.lane .one)
  else if b = 2 then some (.lane .two)
  else if b = 3 then some .office
  else none

def Owner.code : Owner → Byte
  | .lane l => l.code
  | .office => 3

/-- The longest code and payload of a frame (R170). -/
def maxBody : Nat := 200

/-- The sum of every byte from the length byte to the check byte inclusive (R171). -/
def frameSum (body : List Byte) (check : Byte) : Byte :=
  BitVec.ofNat 8 body.length + body.foldl (· + ·) 0 + check

/-- The check byte that makes the sum 0 (R171). -/
def checkByteOf (body : List Byte) : Byte :=
  0 - (BitVec.ofNat 8 body.length + body.foldl (· + ·) 0)

end Sys2Proof
end

