-- ==== Sys2Proof/WellFormed.lean ====
section
/-! DEFINITION. Which commands can reach the part: a frame's length byte is 1–200 (R170), so a request's
payload has at most 199 bytes; and UNKNOWN_CODE is a frame with a wrong sum or an unlisted code (R173). -/

namespace Sys2Proof

/-- The bytes of a request command's frame: its port, its code and its payload. -/
def Instr.frame? : Instr → Option (Port × Request × List Byte)
  | .openSale p a => some (p, .openSale, a)
  | .readTender p a => some (p, .readTender, a)
  | .settle p a => some (p, .settle, a)
  | .cancelSale p a => some (p, .cancelSale, a)
  | .haltPayout p a => some (p, .haltPayout, a)
  | .collect p a => some (p, .collect, a)
  | .retractNotes p a => some (p, .retractNotes, a)
  | .readCompletion p a => some (p, .readCompletion, a)
  | .readStock p a => some (p, .readStock, a)
  | .readPlan p a => some (p, .readPlan, a)
  | .setLaneMode p a => some (p, .setLaneMode, a)
  | .readNotices p a => some (p, .readNotices, a)
  | .enableNotice p a => some (p, .enableNotice, a)
  | .disableNotice p a => some (p, .disableNotice, a)
  | .dismissNotice p a => some (p, .dismissNotice, a)
  | .readStore p a => some (p, .readStore, a)
  | .readTotals p a => some (p, .readTotals, a)
  | .readProfile p a => some (p, .readProfile, a)
  | .writeDenomination p a => some (p, .writeDenomination, a)
  | .writeClassEntry p a => some (p, .writeClassEntry, a)
  | .assignStore p a => some (p, .assignStore, a)
  | .writeLimits p a => some (p, .writeLimits, a)
  | .writeProfileEntry p a => some (p, .writeProfileEntry, a)
  | .commitProfile p a => some (p, .commitProfile, a)
  | .skimToTarget p a => some (p, .skimToTarget, a)
  | .emptyStore p a => some (p, .emptyStore, a)
  | .stopSkim p a => some (p, .stopSkim, a)
  | .declareCount p a => some (p, .declareCount, a)
  | .clearJam p a => some (p, .clearJam, a)
  | .enableStore p a => some (p, .enableStore, a)
  | .disableStore p a => some (p, .disableStore, a)
  | .cashboxEmptied p a => some (p, .cashboxEmptied, a)
  | .closeShift p a => some (p, .closeShift, a)
  | .clearCurrency p a => some (p, .clearCurrency, a)
  | .restart p a => some (p, .restart, a)
  | .unknownCode _ _ _ => none
  | .frameComplete _ _ => none
  | .interByteGapExpiry _ => none
  | .replyTransmitEnd _ => none
  | .startUp => none
  | .rehomeComplete _ => none
  | .managerKeyChange _ _ => none
  | .headStrobe _ _ _ => none
  | .routeDecision _ _ => none
  | .entryPulse _ => none
  | .routeWindowExpiry _ => none
  | .cassetteOut _ => none
  | .cassetteIn _ => none
  | .emptyLevelReport _ => none
  | .piecePulse _ => none
  | .afterRunWindowClose _ => none
  | .strokeDeadlineExpiry _ => none
  | .cashboxOut _ => none
  | .cashboxIn _ => none
  | .strokeStart _ => none
  | .diverterMoveComplete _ => none
  | .chuteSensorChange _ _ _ => none
  | .presentTimerExpiry _ => none
  | .attemptCompletion => none
  | .powerLoss => none
  | .byteReceived _ _ _ => none
  | .emptyLevelNotEmpty _ => none

/-- A code and payload that a frame can carry (R170). -/
def bodyFits (body : List Byte) : Bool :=
  decide (1 ≤ body.length) && decide (body.length ≤ maxBody)

/-- A frame that R173 refuses at step 1 or 2. -/
def notARequest (body : List Byte) (check : Byte) : Bool :=
  match body with
  | [] => false
  | c :: _ => decide (frameSum body check ≠ 0) || (requestOfCode c).isNone

/-- The well-formed commands. -/
def Instr.wellFormed (i : Instr) : Bool :=
  match i.frame? with
  | some (_, r, payload) => bodyFits (r.code :: payload)
  | none =>
    match i with
    | .unknownCode _ body check => bodyFits body && notARequest body check
    | _ => true

end Sys2Proof
end

