-- ==== Sys2Proof/Machine/State.lean ====
section
/-! DEFINITION. The state of the part as plain data: every table, record, queue, timer and line the manual
gives it, and the state right after reset. -/

namespace Sys2Proof.Machine

/-! ### Inventory Table -/

/-- A denomination entry (R1).  An entry of value 0 is unused. -/
structure Denomination where
  value : Nat
  kind : Kind
  enabled : Bool
  deriving DecidableEq, Repr

/-- The service states of a store (R8). -/
inductive StoreState where
  | ready
  | paying
  | jammed
  | uncertain
  | absent
  | disabled
  deriving DecidableEq, Repr

/-- The counter a fill is booked to (R62, R63). -/
inductive FillCounter where
  | accepted
  | loaded
  deriving DecidableEq, Repr

/-- An entry of a store's fill-pending list (R63). -/
structure Fill where
  denom : Denom
  counter : FillCounter
  windowMs : Nat
  deriving DecidableEq, Repr

/-- A Store Channel (section 6.2): IDLE, DRIVING the stroke of a slot against a deadline, or AFTER-RUN with
its window open. -/
inductive Channel where
  | idle
  | driving (slot : SlotId) (deadlineMs : Nat)
  | afterRun (slot : SlotId) (windowMs : Nat)
  deriving DecidableEq, Repr

/-- A store record (R6), its mark held during a stroke (R12) and its channel. -/
structure Store where
  denom : Option Denom
  capacity : Nat
  physical : Nat
  reserved : Nat
  state : StoreState
  pay : Bool
  fill : Bool
  fills : List Fill
  inFlight : Bool
  marked : Bool
  channel : Channel
  deriving DecidableEq, Repr

/-- The exchange stage of a cashbox (R22). -/
inductive Stage where
  | none
  | outSeen
  | exchanged
  deriving DecidableEq, Repr

/-- A cashbox record (R19). -/
structure Cashbox where
  counts : Vector Nat 12
  capacity : Nat
  promised : Nat
  present : Bool
  stage : Stage
  deriving DecidableEq, Repr

/-- The settings of WRITE LIMITS but for the cashbox capacities (R46, R76, R80). -/
structure Limits where
  coinLimit : Nat
  noteLimit : Nat
  roundingUnit : Nat
  presentTimeout : Nat
  deriving DecidableEq, Repr

/-! ### Lane Controllers -/

/-- Lane modes (R26). -/
inductive Mode where
  | closed
  | serve
  | load
  deriving DecidableEq, Repr

/-- Sale states (R30). -/
inductive SaleState where
  | idle
  | tendering
  | planning
  | paying
  | presented
  deriving DecidableEq, Repr

inductive TargetKind where
  | none
  | change
  | refund
  deriving DecidableEq, Repr

inductive SettleResult where
  | none
  | exact
  | short
  | noExact
  | stockChanged
  deriving DecidableEq, Repr

/-- The present timer (R46). -/
inductive PresentTimer where
  | stopped
  | running (seconds : Nat)
  | expired
  deriving DecidableEq, Repr

/-- The sale context (R30), with the mark that notes were retracted (R47). -/
structure Sale where
  state : SaleState
  sequence : Word16
  due : Nat
  tendered : Nat
  autoSettle : Bool
  acceptShort : Bool
  targetKind : TargetKind
  target : Nat
  paid : Nat
  overpay : Nat
  shortfall : Nat
  owed : Nat
  coinsCommitted : Nat
  notesCommitted : Nat
  pieces : Vector Nat 12
  lastResult : SettleResult
  cancelPending : Bool
  haltPending : Bool
  timer : PresentTimer
  retracted : Bool
  deriving DecidableEq, Repr

/-- Outcomes of a sale (R48). -/
inductive SaleOutcome where
  | paid
  | short
  | refunded
  | halted
  | cancelled
  | interrupted
  deriving DecidableEq, Repr

/-- A completion record (R49); its lane is the lane whose slot holds it. -/
structure Completion where
  sequence : Word16
  outcome : SaleOutcome
  due : Nat
  tendered : Nat
  target : Nat
  paid : Nat
  overpay : Nat
  shortfall : Nat
  pieces : List (Denom × Nat)
  deriving DecidableEq, Repr

/-- A Lane Controller: mode, sale context and completion slot. -/
structure LaneControl where
  mode : Mode
  sale : Sale
  slot : Option Completion
  deriving DecidableEq, Repr

/-! ### Intake Router -/

/-- A route answer (R54). -/
inductive Answer where
  | store (k : StoreId)
  | cashbox
  | giveBack
  deriving DecidableEq, Repr

/-- An intake head: its latch (R52), FULL while it holds a class code, and the answer last driven to it. -/
structure Head where
  latch : Option ClassCode
  answer : Option Answer
  deriving DecidableEq, Repr

/-! ### Change Planner -/

/-- The kinds of a lane request (R71). -/
inductive LaneRequest where
  | settle
  | refund
  | makeup
  deriving DecidableEq, Repr

/-- The kinds of a skim request (R71). -/
inductive SkimRequest where
  | toTarget
  | emptyStore (k : StoreId)
  deriving DecidableEq, Repr

/-- A request with its owner. -/
inductive Job where
  | lane (l : Lane) (r : LaneRequest)
  | skim (r : SkimRequest)
  deriving DecidableEq, Repr

/-- What a snapshot records of a store (R74). -/
structure SnapStore where
  state : StoreState
  denom : Option Denom
  pay : Bool
  free : Nat
  deriving DecidableEq, Repr

/-- What a snapshot records of a denomination (R74). -/
structure SnapDenom where
  value : Nat
  kind : Kind
  enabled : Bool
  low : Nat
  target : Nat
  deriving DecidableEq, Repr

/-- The snapshot of an attempt (R74).  The fields from `target` on are a lane request's; a skim's hold 0,
clear and the empty list. -/
structure Snapshot where
  stores : Vector SnapStore 12
  denoms : Vector SnapDenom 12
  space : PerKind Nat
  target : Nat
  acceptShort : Bool
  coinsCommitted : Nat
  notesCommitted : Nat
  busy : List StoreId
  deriving DecidableEq, Repr

/-- The request in work: its attempt number (R92), its stopped mark (R75) and its snapshot. -/
structure Work where
  job : Job
  attempt : Nat
  stopped : Bool
  snap : Snapshot
  deriving DecidableEq, Repr

/-- The Change Planner: the waiting set (R72), the request in work (none while FREE) and the last-served
lane (R73). -/
structure Planner where
  waitingLane : PerLane (Option LaneRequest)
  waitingSkim : Option SkimRequest
  work : Option Work
  lastServed : Lane
  deriving DecidableEq, Repr

/-! ### Plan Pool -/

inductive Dest where
  | cup (l : Lane)
  | pres (l : Lane)
  | coinBox
  | noteBox
  deriving DecidableEq, Repr

inductive Origin where
  | main
  | makeup
  deriving DecidableEq, Repr

inductive StrokeState where
  | waiting
  | running
  | done
  | dropped
  deriving DecidableEq, Repr

/-- A stroke record (R97) in its slot.  Its `next` is computed from the chain (log 14). -/
structure Stroke where
  slot : SlotId
  owner : Owner
  path : Kind
  store : StoreId
  count : Nat
  delivered : Nat
  dest : Dest
  origin : Origin
  state : StrokeState
  deriving DecidableEq, Repr

/-- A chain's tally (R105). -/
structure Tally where
  done : Nat
  cutShort : Nat
  dropped : Nat
  delivered : Nat
  deriving DecidableEq, Repr

/-- The Plan Pool: the free list, top first (R95); the records in the planning order (R96), whose
restriction to an owner and a path is that chain in link order (R99); and the tallies. -/
structure Pool where
  free : List SlotId
  records : List Stroke
  tallies : PerParty (PerKind Tally)
  deriving DecidableEq, Repr

/-! ### Path Arbiters -/

/-- The grant of a path (R110). -/
inductive Grant where
  | none
  | laneRun (l : Lane)
  | officeStroke
  deriving DecidableEq, Repr

inductive Availability where
  | rehoming (ms : Nat)
  | available
  deriving DecidableEq, Repr

/-- A diverter move in progress (R117). -/
structure Move where
  dest : Dest
  ms : Nat
  deriving DecidableEq, Repr

/-- A next-stroke latch that holds a record (R104). -/
structure Latch where
  slot : SlotId
  store : StoreId
  dest : Dest
  deriving DecidableEq, Repr

/-- A Path Arbiter (R110) with its next-stroke latch (R104).  A position `none` is UNKNOWN. -/
structure Arbiter where
  availability : Availability
  grant : Grant
  position : Option Dest
  move : Option Move
  latch : Option Latch
  lastGranted : Lane
  openingUsed : PerLane Bool
  deriving DecidableEq, Repr

/-! ### Profile Unit and Totals Unit -/

/-- The marks of one denomination (R135). -/
structure Marks where
  low : Nat
  target : Nat
  high : Nat
  deriving DecidableEq, Repr

/-- The nine counters of one denomination (R147). -/
structure Counters where
  accepted : Nat
  loaded : Nat
  paid : Nat
  retracted : Nat
  skimmed : Nat
  emptied : Nat
  removed : Nat
  unplaced : Nat
  adjusted : Int
  deriving DecidableEq, Repr

/-- One denomination of the previous-shift record (R154). -/
structure ShiftLine where
  counters : Counters
  opening : Nat
  holdings : Nat
  value : Nat
  deriving DecidableEq, Repr

structure ShiftRecord where
  shift : Word16
  inexact : Bool
  lines : Vector ShiftLine 12
  deriving DecidableEq, Repr

/-- The Totals Unit (R147, R154). -/
structure Totals where
  shift : Word16
  inexact : Bool
  counters : Vector Counters 12
  opening : Vector Nat 12
  previous : ShiftRecord
  deriving DecidableEq, Repr

/-! ### Notice Unit -/

/-- The office's notices in priority order (R160). -/
inductive OfficeNotice where
  | recovered | jam | cassette | cashboxFull | shiftInexact | stockLow | skimAdvised
  | profileSwitched
  deriving DecidableEq, Repr

/-- A lane's notices in priority order (R161). -/
inductive LaneNotice where
  | completionReady | presentOverdue | settleRefused | chuteOccupied | pieceReturned
  | tenderReached | lowChange
  deriving DecidableEq, Repr

/-- One bit for each office notice. -/
structure OfficeBits where
  recovered : Bool
  jam : Bool
  cassette : Bool
  cashboxFull : Bool
  shiftInexact : Bool
  stockLow : Bool
  skimAdvised : Bool
  profileSwitched : Bool
  deriving DecidableEq, Repr

/-- One bit for each notice of a lane. -/
structure LaneBits where
  completionReady : Bool
  presentOverdue : Bool
  settleRefused : Bool
  chuteOccupied : Bool
  pieceReturned : Bool
  tenderReached : Bool
  lowChange : Bool
  deriving DecidableEq, Repr

/-- The office port's flags, enables and line (R160, R162). -/
structure OfficeNotices where
  flags : OfficeBits
  enables : OfficeBits
  line : Bool
  deriving DecidableEq, Repr

/-- A lane port's flags, enables and line (R161, R162). -/
structure LaneNotices where
  flags : LaneBits
  enables : LaneBits
  line : Bool
  deriving DecidableEq, Repr

/-! ### Link Ports -/

/-- The receiver of a port (R170), with the bytes of the frame in progress. -/
inductive Receiver where
  | hunt
  | length
  | body (length : Nat) (taken : List Byte)
  | check (taken : List Byte)
  deriving DecidableEq, Repr

/-- A complete frame: its code and payload, and its check byte (R171).  Its length byte is the length of
`body`. -/
structure Frame where
  body : List Byte
  check : Byte
  deriving DecidableEq, Repr

/-- Reply statuses (R174). -/
inductive Status where
  | ok
  | accepted
  | overrun
  | check
  | unknown
  | level
  | range
  | state
  | unread
  | notEnough
  | holdsStock
  deriving DecidableEq, Repr

/-- A reply being sent: the bytes of its frame (R174); `thenStartUp` marks the reply to a RESTART that was
admitted (R175). -/
structure Reply where
  frame : List Byte
  thenStartUp : Bool
  deriving DecidableEq, Repr

/-- A Link Port: receiver, receive buffer (oldest first), overrun-pending flag (R172) and the reply being
sent. -/
structure LinkPort where
  receiver : Receiver
  buffer : List Frame
  overrun : Bool
  sending : Option Reply
  deriving DecidableEq, Repr

/-! ### Retained Memory -/

/-- What Retained Memory holds of a store (R184). -/
structure RetainedStore where
  denom : Option Denom
  capacity : Nat
  pay : Bool
  fill : Bool
  physical : Nat
  state : StoreState
  inFlight : Bool
  fills : List (Denom × FillCounter)
  deriving DecidableEq, Repr

/-- What Retained Memory holds of a cashbox (R184). -/
structure RetainedBox where
  counts : Vector Nat 12
  capacity : Nat
  stage : Stage
  deriving DecidableEq, Repr

/-- A lane's open-sale record (R30, R184). -/
structure OpenSale where
  sequence : Word16
  state : SaleState
  due : Nat
  tendered : Nat
  target : Nat
  paid : Nat
  pieces : Vector Nat 12
  deriving DecidableEq, Repr

/-- Retained Memory (R184). -/
structure Retained where
  denoms : Vector Denomination 12
  classes : PerKind (Vector (Option Denom) 64)
  stores : Vector RetainedStore 12
  boxes : PerKind RetainedBox
  limits : Limits
  active : Vector Marks 12
  totals : Totals
  sales : PerLane OpenSale
  deriving DecidableEq, Repr

/-! ### The part -/

/-- The level sensors and switches as they report. -/
structure Pins where
  cassetteIn : Vector Bool 12
  levelEmpty : Vector Bool 12
  boxIn : PerKind Bool
  chuteOccupied : PerLane (PerKind Bool)
  keyTurned : PerLane Bool
  deriving DecidableEq, Repr

/-- Whether the part is unpowered, in start-up after a RESTART, or running (R186, log 10). -/
inductive Phase where
  | off
  | startingUp
  | running
  deriving DecidableEq, Repr

/-- The state of the part, and the queue of the commands that wait, first in first out. -/
structure State where
  pending : List Instr
  phase : Phase
  pins : Pins
  denoms : Vector Denomination 12
  classes : PerKind (Vector (Option Denom) 64)
  stores : Vector Store 12
  boxes : PerKind Cashbox
  limits : Limits
  lanes : PerLane LaneControl
  heads : PerLane (PerKind Head)
  planner : Planner
  pool : Pool
  paths : PerKind Arbiter
  presenterOpen : PerLane Bool
  active : Vector Marks 12
  pendingMarks : Vector Marks 12
  armed : Bool
  totals : Totals
  officeNotices : OfficeNotices
  laneNotices : PerLane LaneNotices
  ports : PerParty LinkPort
  retained : Retained
  deriving DecidableEq, Repr

/-- Where the model stops.  Raised by ATTEMPT_COMPLETION alone. -/
inductive Fault where
  /-- Raised by ATTEMPT_COMPLETION when a plan has more strokes than the pool has free slots.  R103 says
  that this does not happen and that the planner does not test for it, so the manual gives no effect.
  Safe: the model stops where nothing is said (log 17). -/
  | poolExhausted
  deriving DecidableEq, Repr

/-- Why a command has no meaning. -/
inductive Refusal where
  /-- Raised by exec for a command that has no meaning yet (none is left).  Safe. -/
  | notModelled (mnemonic : String)
  deriving DecidableEq, Repr

/-! ### The values after start-up on a Retained Memory that has never held a value -/

/-- A sale context while the sale is IDLE (R30). -/
def Sale.idle (sequence : Word16) : Sale :=
  { state := .idle, sequence := sequence, due := 0, tendered := 0, autoSettle := false,
    acceptShort := false, targetKind := .none, target := 0, paid := 0, overpay := 0,
    shortfall := 0, owed := 0, coinsCommitted := 0, notesCommitted := 0,
    pieces := Vector.replicate 12 0, lastResult := .none, cancelPending := false,
    haltPending := false, timer := .stopped, retracted := false }

/-- An unused denomination entry (R184). -/
def Denomination.unused : Denomination := { value := 0, kind := .coin, enabled := false }

def Marks.zero : Marks := { low := 0, target := 0, high := 0 }

def Tally.zero : Tally := { done := 0, cutShort := 0, dropped := 0, delivered := 0 }

def Counters.zero : Counters :=
  { accepted := 0, loaded := 0, paid := 0, retracted := 0, skimmed := 0, emptied := 0,
    removed := 0, unplaced := 0, adjusted := 0 }

/-- Retained Memory before the first write (R184). -/
def Retained.factory : Retained :=
  { denoms := Vector.replicate 12 Denomination.unused
    classes := { coin := Vector.replicate 64 none, note := Vector.replicate 64 none }
    stores := Vector.replicate 12
      { denom := none, capacity := 1, pay := false, fill := false, physical := 0,
        state := .disabled, inFlight := false, fills := [] }
    boxes :=
      { coin := { counts := Vector.replicate 12 0, capacity := 8000, stage := .none }
        note := { counts := Vector.replicate 12 0, capacity := 8000, stage := .none } }
    limits := { coinLimit := 25, noteLimit := 10, roundingUnit := 1, presentTimeout := 45 }
    active := Vector.replicate 12 Marks.zero
    totals :=
      { shift := 0, inexact := false, counters := Vector.replicate 12 Counters.zero,
        opening := Vector.replicate 12 0,
        previous :=
          { shift := 0, inexact := false,
            lines := Vector.replicate 12
              { counters := Counters.zero, opening := 0, holdings := 0, value := 0 } } }
    sales :=
      { one := { sequence := 0, state := .idle, due := 0, tendered := 0, target := 0, paid := 0,
                 pieces := Vector.replicate 12 0 }
        two := { sequence := 0, state := .idle, due := 0, tendered := 0, target := 0, paid := 0,
                 pieces := Vector.replicate 12 0 } } }

/-- The sensors and switches at reset: cassettes and cashboxes in, chutes empty, keys not turned
(DESIGN CHOICE, log 5, unsafe). -/
def Pins.atReset : Pins :=
  { cassetteIn := Vector.replicate 12 true
    levelEmpty := Vector.replicate 12 false
    boxIn := { coin := true, note := true }
    chuteOccupied := { one := { coin := false, note := false },
                       two := { coin := false, note := false } }
    keyTurned := { one := false, two := false } }

/-- The free list after start-up: 0 on top, 39 at the bottom (R95). -/
def freeSlots : List SlotId :=
  [0, 1, 2, 3, 4, 5, 6, 7, 8, 9, 10, 11, 12, 13, 14, 15, 16, 17, 18, 19] ++
  [20, 21, 22, 23, 24, 25, 26, 27, 28, 29, 30, 31, 32, 33, 34, 35, 36, 37, 38, 39]

/-- The Plan Pool after start-up (R109). -/
def Pool.atStartUp : Pool :=
  { free := freeSlots, records := [],
    tallies := { one := { coin := Tally.zero, note := Tally.zero }
                 two := { coin := Tally.zero, note := Tally.zero }
                 office := { coin := Tally.zero, note := Tally.zero } } }

/-- The Change Planner after start-up (R94). -/
def Planner.atStartUp : Planner :=
  { waitingLane := { one := none, two := none }, waitingSkim := none, work := none,
    lastServed := .two }

/-- A Path Arbiter at start-up (R110, R111). -/
def Arbiter.atStartUp : Arbiter :=
  { availability := .rehoming Config.rehomeMs, grant := .none, position := none, move := none,
    latch := none, lastGranted := .two, openingUsed := { one := false, two := false } }

/-- A Link Port after start-up (R183). -/
def LinkPort.atStartUp : LinkPort :=
  { receiver := .hunt, buffer := [], overrun := false, sending := none }

def OfficeBits.all (b : Bool) : OfficeBits :=
  { recovered := b, jam := b, cassette := b, cashboxFull := b, shiftInexact := b, stockLow := b,
    skimAdvised := b, profileSwitched := b }

def LaneBits.all (b : Bool) : LaneBits :=
  { completionReady := b, presentOverdue := b, settleRefused := b, chuteOccupied := b,
    pieceReturned := b, tenderReached := b, lowChange := b }

/-- An intake head after start-up (R52); no answer has been driven (DESIGN CHOICE, log 19). -/
def Head.atStartUp : Head := { latch := none, answer := none }

/-- The part right after reset: the end of a start-up on a Retained Memory that has never held a value
(R184, R186–R189; log 22). -/
def State.reset : State :=
  { pending := []
    phase := .running
    pins := Pins.atReset
    denoms := Vector.replicate 12 Denomination.unused
    classes := { coin := Vector.replicate 64 none, note := Vector.replicate 64 none }
    stores := Vector.replicate 12
      { denom := none, capacity := 1, physical := 0, reserved := 0, state := .disabled,
        pay := false, fill := false, fills := [], inFlight := false, marked := false,
        channel := .idle }
    boxes :=
      { coin := { counts := Vector.replicate 12 0, capacity := 8000, promised := 0,
                  present := true, stage := .none }
        note := { counts := Vector.replicate 12 0, capacity := 8000, promised := 0,
                  present := true, stage := .none } }
    limits := Retained.factory.limits
    lanes := { one := { mode := .closed, sale := Sale.idle 0, slot := none }
               two := { mode := .closed, sale := Sale.idle 0, slot := none } }
    heads := { one := { coin := Head.atStartUp, note := Head.atStartUp }
               two := { coin := Head.atStartUp, note := Head.atStartUp } }
    planner := Planner.atStartUp
    pool := Pool.atStartUp
    paths := { coin := Arbiter.atStartUp, note := Arbiter.atStartUp }
    presenterOpen := { one := false, two := false }
    active := Vector.replicate 12 Marks.zero
    pendingMarks := Vector.replicate 12 Marks.zero
    armed := false
    totals := Retained.factory.totals
    officeNotices :=
      { flags := { OfficeBits.all false with recovered := true }
        enables := OfficeBits.all true
        line := true }
    laneNotices :=
      { one := { flags := LaneBits.all false, enables := LaneBits.all true, line := false }
        two := { flags := LaneBits.all false, enables := LaneBits.all true, line := false } }
    ports := { one := LinkPort.atStartUp, two := LinkPort.atStartUp,
               office := LinkPort.atStartUp }
    retained := Retained.factory }

end Sys2Proof.Machine
end

