-- ==== Sys2Proof/Machine/Ops.lean ====
section
/-! DEFINITION. The shared operations: reading and writing each piece of state, the stock figures, the
bookings of the Totals Unit, raising and clearing notices, and the durable copy. -/

namespace Sys2Proof.Machine

/-! ### One home for each piece of state -/

def State.store (s : State) (k : StoreId) : Store := s.stores[k]

def State.setStore (s : State) (k : StoreId) (x : Store) : State :=
  { s with stores := s.stores.set k.val x k.isLt }

def State.modStore (s : State) (k : StoreId) (f : Store → Store) : State :=
  s.setStore k (f (s.store k))

def State.box (s : State) (k : Kind) : Cashbox := s.boxes.get k

def State.setBox (s : State) (k : Kind) (x : Cashbox) : State :=
  { s with boxes := s.boxes.set k x }

def State.modBox (s : State) (k : Kind) (f : Cashbox → Cashbox) : State :=
  s.setBox k (f (s.box k))

def State.lane (s : State) (l : Lane) : LaneControl := s.lanes.get l

def State.setLane (s : State) (l : Lane) (x : LaneControl) : State :=
  { s with lanes := s.lanes.set l x }

def State.mode (s : State) (l : Lane) : Mode := (s.lane l).mode

def State.setMode (s : State) (l : Lane) (m : Mode) : State :=
  s.setLane l { s.lane l with mode := m }

def State.slot (s : State) (l : Lane) : Option Completion := (s.lane l).slot

def State.setSlot (s : State) (l : Lane) (c : Option Completion) : State :=
  s.setLane l { s.lane l with slot := c }

def State.sale (s : State) (l : Lane) : Sale := (s.lane l).sale

def State.setSale (s : State) (l : Lane) (x : Sale) : State :=
  s.setLane l { s.lane l with sale := x }

def State.modSale (s : State) (l : Lane) (f : Sale → Sale) : State :=
  s.setSale l (f (s.sale l))

def State.head (s : State) (l : Lane) (k : Kind) : Head := (s.heads.get l).get k

def State.setHead (s : State) (l : Lane) (k : Kind) (x : Head) : State :=
  { s with heads := s.heads.set l ((s.heads.get l).set k x) }

def State.path (s : State) (k : Kind) : Arbiter := s.paths.get k

def State.setPath (s : State) (k : Kind) (x : Arbiter) : State :=
  { s with paths := s.paths.set k x }

def State.modPath (s : State) (k : Kind) (f : Arbiter → Arbiter) : State :=
  s.setPath k (f (s.path k))

def State.port (s : State) (p : Port) : LinkPort := s.ports.get p

def State.setPort (s : State) (p : Port) (x : LinkPort) : State :=
  { s with ports := s.ports.set p x }

def State.modPort (s : State) (p : Port) (f : LinkPort → LinkPort) : State :=
  s.setPort p (f (s.port p))

def State.denom (s : State) (d : Denom) : Denomination := s.denoms[d]

def State.setDenom (s : State) (d : Denom) (x : Denomination) : State :=
  { s with denoms := s.denoms.set d.val x d.isLt }

/-- The face value of a denomination; 0 marks it unused (R1). -/
def State.value (s : State) (d : Denom) : Nat := (s.denom d).value

/-- Used (R1). -/
def State.used (s : State) (d : Denom) : Bool := (s.denom d).value != 0

/-- Used and enabled; an unused entry is treated as disabled everywhere (R1, R3). -/
def State.enabled (s : State) (d : Denom) : Bool := s.used d && (s.denom d).enabled

/-- The active marks of a denomination (R135). -/
def State.marks (s : State) (d : Denom) : Marks := s.active[d]

/-- The pieces paid of a denomination (R30). -/
def Sale.paidPieces (x : Sale) (d : Denom) : Nat := x.pieces[d]

def Sale.setPieces (x : Sale) (d : Denom) (n : Nat) : Sale :=
  { x with pieces := x.pieces.set d.val n d.isLt }

/-- The count of a denomination in a cashbox (R19). -/
def Cashbox.countOf (b : Cashbox) (d : Denom) : Nat := b.counts[d]

def Cashbox.setCount (b : Cashbox) (d : Denom) (n : Nat) : Cashbox :=
  { b with counts := b.counts.set d.val n d.isLt }

/-! ### Stock figures -/

/-- The kind of a store is fixed by its number (section 1.3). -/
def storeKind (k : StoreId) : Kind := if k.val < 8 then .coin else .note

/-- Fill pending: the entries on the store's list (R63). -/
def Store.pending (x : Store) : Nat := x.fills.length

/-- The free count (R7). -/
def Store.free (x : Store) : Nat :=
  match x.state with
  | .ready | .paying => x.physical - x.reserved
  | .jammed | .uncertain | .absent | .disabled => 0

/-- The count of a cashbox: the sum over denominations (R19). -/
def Cashbox.count (b : Cashbox) : Nat := (allDenoms.map b.countOf).sum

/-- The space of a cashbox (R19, R20): 0 while absent, and the note cashbox keeps back its headroom. -/
def State.space (s : State) (k : Kind) : Nat :=
  if (s.box k).present then
    (s.box k).capacity - (s.box k).count - (s.box k).promised - Config.headroom k
  else 0

/-- A store holds a denomination's pieces. -/
def State.holds (s : State) (k : StoreId) (d : Denom) : Bool := (s.store k).denom == some d

/-- Usable for a plan: READY, PAY role on, denomination enabled (R7). -/
def State.usable (s : State) (k : StoreId) : Bool :=
  (s.store k).state == .ready && (s.store k).pay &&
    (match (s.store k).denom with
     | some d => s.enabled d
     | none => false)

/-- The free stock of a denomination: the sum of the free counts of its usable stores (R24, R140). -/
def State.freeStock (s : State) (d : Denom) : Nat :=
  ((allStores.filter (fun k => s.holds k d && s.usable k)).map (fun k => (s.store k).free)).sum

/-- The holdings of a denomination (R149). -/
def State.holdings (s : State) (d : Denom) : Nat :=
  ((allStores.filter (fun k => s.holds k d)).map (fun k => (s.store k).physical)).sum +
    (s.box (s.denom d).kind).countOf d

/-- The summed capacity of a denomination (R136). -/
def State.summedCapacity (s : State) (d : Denom) : Nat :=
  ((allStores.filter (fun k => s.holds k d)).map (fun k => (s.store k).capacity)).sum

/-- Both lanes are CLOSED (R26). -/
def State.bothClosed (s : State) : Bool := s.mode .one == .closed && s.mode .two == .closed

/-- Both sales are IDLE. -/
def State.bothIdle (s : State) : Bool :=
  (s.sale .one).state == .idle && (s.sale .two).state == .idle

/-! ### Chains and planner requests, as other blocks read them -/

/-- The chain of an owner on a path, from head to tail: its records in the planning order (R96, R99;
log 14). -/
def Pool.chain (p : Pool) (o : Owner) (k : Kind) : List Stroke :=
  p.records.filter (fun r => r.owner == o && r.path == k)

def State.chainEmpty (s : State) (o : Owner) (k : Kind) : Bool := (s.pool.chain o k).isEmpty

/-- A stroke of the path is RUNNING. -/
def State.pathRunning (s : State) (k : Kind) : Bool :=
  s.pool.records.any (fun r => r.path == k && r.state == .running)

/-- The record in a slot. -/
def State.record? (s : State) (x : SlotId) : Option Stroke :=
  s.pool.records.find? (fun r => r.slot == x)

/-- The job in work, if the planner is WORKING (R73). -/
def State.jobInWork (s : State) : Option Job := s.planner.work.map (·.job)

/-- A make-up of the lane is waiting or in work (R41). -/
def State.makeupLive (s : State) (l : Lane) : Bool :=
  s.planner.waitingLane.get l == some .makeup || s.jobInWork == some (.lane l .makeup)

/-- A skim request is in work. -/
def State.skimInWork (s : State) : Bool :=
  match s.jobInWork with
  | some (.skim _) => true
  | some (.lane _ _) => false
  | none => false

/-- A skim is live (R133, R141). -/
def State.skimLive (s : State) : Bool :=
  s.planner.waitingSkim.isSome || s.skimInWork ||
    !s.chainEmpty .office .coin || !s.chainEmpty .office .note

/-- The Change Planner is FREE with its waiting set empty. -/
def State.plannerEmpty (s : State) : Bool :=
  s.planner.work.isNone && s.planner.waitingSkim.isNone &&
    (s.planner.waitingLane.get .one).isNone && (s.planner.waitingLane.get .two).isNone

/-- Placing a lane's request in its slot of the waiting set (R72). -/
def State.placeLane (s : State) (l : Lane) (r : Option LaneRequest) : State :=
  { s with planner := { s.planner with waitingLane := s.planner.waitingLane.set l r } }

/-- Placing the office's request in its slot (R72). -/
def State.placeSkim (s : State) (r : Option SkimRequest) : State :=
  { s with planner := { s.planner with waitingSkim := r } }

/-! ### Notices -/

def OfficeBits.get (b : OfficeBits) : OfficeNotice → Bool
  | .recovered => b.recovered
  | .jam => b.jam
  | .cassette => b.cassette
  | .cashboxFull => b.cashboxFull
  | .shiftInexact => b.shiftInexact
  | .stockLow => b.stockLow
  | .skimAdvised => b.skimAdvised
  | .profileSwitched => b.profileSwitched

def OfficeBits.set (b : OfficeBits) (n : OfficeNotice) (v : Bool) : OfficeBits :=
  match n with
  | .recovered => { b with recovered := v }
  | .jam => { b with jam := v }
  | .cassette => { b with cassette := v }
  | .cashboxFull => { b with cashboxFull := v }
  | .shiftInexact => { b with shiftInexact := v }
  | .stockLow => { b with stockLow := v }
  | .skimAdvised => { b with skimAdvised := v }
  | .profileSwitched => { b with profileSwitched := v }

def LaneBits.get (b : LaneBits) : LaneNotice → Bool
  | .completionReady => b.completionReady
  | .presentOverdue => b.presentOverdue
  | .settleRefused => b.settleRefused
  | .chuteOccupied => b.chuteOccupied
  | .pieceReturned => b.pieceReturned
  | .tenderReached => b.tenderReached
  | .lowChange => b.lowChange

def LaneBits.set (b : LaneBits) (n : LaneNotice) (v : Bool) : LaneBits :=
  match n with
  | .completionReady => { b with completionReady := v }
  | .presentOverdue => { b with presentOverdue := v }
  | .settleRefused => { b with settleRefused := v }
  | .chuteOccupied => { b with chuteOccupied := v }
  | .pieceReturned => { b with pieceReturned := v }
  | .tenderReached => { b with tenderReached := v }
  | .lowChange => { b with lowChange := v }

/-- Setting or clearing an office flag (R159). -/
def State.officeFlag (s : State) (n : OfficeNotice) (v : Bool) : State :=
  { s with officeNotices := { s.officeNotices with flags := s.officeNotices.flags.set n v } }

/-- Setting or clearing a flag of a lane port (R159). -/
def State.laneFlag (s : State) (l : Lane) (n : LaneNotice) (v : Bool) : State :=
  { s with
    laneNotices :=
      s.laneNotices.set l
        { s.laneNotices.get l with flags := (s.laneNotices.get l).flags.set n v } }

/-! ### Bookings of the Totals Unit -/

/-- The eight unsigned counters (R147). -/
inductive Counter where
  | accepted | loaded | paid | retracted | skimmed | emptied | removed | unplaced
  deriving DecidableEq, Repr

def Counters.get (c : Counters) : Counter → Nat
  | .accepted => c.accepted
  | .loaded => c.loaded
  | .paid => c.paid
  | .retracted => c.retracted
  | .skimmed => c.skimmed
  | .emptied => c.emptied
  | .removed => c.removed
  | .unplaced => c.unplaced

def Counters.set (c : Counters) (k : Counter) (n : Nat) : Counters :=
  match k with
  | .accepted => { c with accepted := n }
  | .loaded => { c with loaded := n }
  | .paid => { c with paid := n }
  | .retracted => { c with retracted := n }
  | .skimmed => { c with skimmed := n }
  | .emptied => { c with emptied := n }
  | .removed => { c with removed := n }
  | .unplaced => { c with unplaced := n }

/-- The counter of a fill (R62). -/
def FillCounter.counter : FillCounter → Counter
  | .accepted => .accepted
  | .loaded => .loaded

def State.counters (s : State) (d : Denom) : Counters := s.totals.counters[d]

def State.setCounters (s : State) (d : Denom) (c : Counters) : State :=
  { s with
    totals := { s.totals with counters := s.totals.counters.set d.val c d.isLt } }

/-- A booking past a limit marks the shift inexact and raises SHIFT_INEXACT (R150). -/
def State.markInexact (s : State) : State :=
  ({ s with totals := { s.totals with inexact := true } }).officeFlag .shiftInexact true

/-- Booking pieces to an unsigned counter, which stays at its limit (R148, R150). -/
def State.book (s : State) (c : Counter) (d : Denom) (n : Nat) : State :=
  if (s.counters d).get c + n ≤ Config.maxCounter then
    s.setCounters d ((s.counters d).set c ((s.counters d).get c + n))
  else (s.setCounters d ((s.counters d).set c Config.maxCounter)).markInexact

/-- Booking a rise or a fall to ADJUSTED, which stays at its limits (R148, R150). -/
def State.bookAdjusted (s : State) (d : Denom) (n : Int) : State :=
  if (s.counters d).adjusted + n > Config.maxAdjusted then
    (s.setCounters d { s.counters d with adjusted := Config.maxAdjusted }).markInexact
  else if (s.counters d).adjusted + n < -Config.maxAdjusted then
    (s.setCounters d { s.counters d with adjusted := -Config.maxAdjusted }).markInexact
  else s.setCounters d { s.counters d with adjusted := (s.counters d).adjusted + n }

/-- A booking against the denomination of a store; an UNASSIGNED store has none to book against. -/
def State.bookStore (s : State) (c : Counter) (k : StoreId) (n : Nat) : State :=
  match (s.store k).denom with
  | some d => s.book c d n
  | none => s

def State.bookAdjustedStore (s : State) (k : StoreId) (n : Int) : State :=
  match (s.store k).denom with
  | some d => s.bookAdjusted d n
  | none => s

/-- The face value of the pieces of a store. -/
def State.storeValue (s : State) (k : StoreId) : Nat :=
  match (s.store k).denom with
  | some d => s.value d
  | none => 0

/-! ### The durable copy -/

/-- The open-sale record as the sale context stands (R30). -/
def Sale.openRecord (x : Sale) : OpenSale :=
  { sequence := x.sequence, state := x.state, due := x.due, tendered := x.tendered,
    target := x.target, paid := x.paid, pieces := x.pieces }

/-- A slot that holds an INTERRUPTED record, which has not been read (R188). -/
def heldInterrupted (c : Option Completion) : Bool :=
  match c with
  | some r => r.outcome == .interrupted
  | none => false

/-- A lane's open-sale record: it follows the sale context (R30), except that a record recovered at
start-up keeps its contents until READ COMPLETION takes the INTERRUPTED record (R188). -/
def LaneControl.openRecord (x : LaneControl) (held : OpenSale) : OpenSale :=
  if heldInterrupted x.slot then held else x.sale.openRecord

def Store.retained (x : Store) : RetainedStore :=
  { denom := x.denom, capacity := x.capacity, pay := x.pay, fill := x.fill,
    physical := x.physical, state := x.state, inFlight := x.inFlight,
    fills := x.fills.map (fun f => (f.denom, f.counter)) }

def Cashbox.retained (b : Cashbox) : RetainedBox :=
  { counts := b.counts, capacity := b.capacity, stage := b.stage }

/-- What Retained Memory should hold, from the working state (R184). -/
def State.capture (s : State) : Retained :=
  { denoms := s.denoms
    classes := s.classes
    stores := mapTable Store.retained s.stores
    boxes := { coin := s.boxes.coin.retained, note := s.boxes.note.retained }
    limits := s.limits
    active := s.active
    totals := s.totals
    sales :=
      { one := s.lanes.one.openRecord s.retained.sales.one
        two := s.lanes.two.openRecord s.retained.sales.two } }

/-- The changes of one event become durable together, at its end (R185; log 13). -/
def State.makeDurable (s : State) : State := { s with retained := s.capture }

end Sys2Proof.Machine
end

