-- ==== Sys2Proof/Machine/Flags.lean ====
section
/-! DEFINITION. The notice flags: the conditions behind the condition flags (R159–R161), the notice lines
(R162), and the close of an event that takes them anew. -/

namespace Sys2Proof.Machine

/-- Some store is in one of two states. -/
def State.someStore (s : State) (a b : StoreState) : Bool :=
  allStores.any (fun k => (s.store k).state == a || (s.store k).state == b)

/-- The condition of JAM (R160). -/
def State.jamCondition (s : State) : Bool := s.someStore .jammed .jammed

/-- The condition of CASSETTE (R160). -/
def State.cassetteCondition (s : State) : Bool := s.someStore .absent .uncertain

/-- The condition of CASHBOX_FULL (R160): an absent cashbox has space 0. -/
def State.cashboxFullCondition (s : State) : Bool := s.space .coin == 0 || s.space .note == 0

/-- A denomination stands at or below its active low mark (R24, R140). -/
def State.atLow (s : State) (d : Denom) : Bool := decide (s.freeStock d ≤ (s.marks d).low)

/-- The low-stock condition (R140). -/
def State.lowStock (s : State) : Bool := allDenoms.any (fun d => s.enabled d && s.atLow d)

/-- The condition of PRESENT_OVERDUE (R46, R161). -/
def State.overdueCondition (s : State) (l : Lane) : Bool :=
  (s.sale l).state == .presented && (s.sale l).timer == .expired

/-- A chain of the lane is held by its chute: it holds a record, waits for the sale's opening run on the
path, and the chute it pays into reports occupied (R116). -/
def State.held (s : State) (l : Lane) (k : Kind) : Bool :=
  !s.chainEmpty (.lane l) k && !((s.path k).openingUsed.get l) &&
    (s.path k).grant != .laneRun l && (s.pins.chuteOccupied.get l).get k

/-- The condition of CHUTE_OCCUPIED (R116, R161). -/
def State.chuteCondition (s : State) (l : Lane) : Bool := s.held l .coin || s.held l .note

/-- Some flag is both set and enabled (R162). -/
def officeAsserted (flags enables : OfficeBits) : Bool :=
  [OfficeNotice.recovered, .jam, .cassette, .cashboxFull, .shiftInexact, .stockLow, .skimAdvised,
    .profileSwitched].any (fun n => flags.get n && enables.get n)

/-- Some flag is both set and enabled (R162). -/
def laneAsserted (flags enables : LaneBits) : Bool :=
  [LaneNotice.completionReady, .presentOverdue, .settleRefused, .chuteOccupied, .pieceReturned,
    .tenderReached, .lowChange].any (fun n => flags.get n && enables.get n)

/-- The office's condition flags taken anew. -/
def State.officeConditions (s : State) : OfficeBits :=
  { s.officeNotices.flags with
    jam := s.jamCondition, cassette := s.cassetteCondition,
    cashboxFull := s.cashboxFullCondition, stockLow := s.lowStock }

/-- A lane's condition flags taken anew. -/
def State.laneConditions (s : State) (l : Lane) : LaneBits :=
  { (s.laneNotices.get l).flags with
    presentOverdue := s.overdueCondition l, chuteOccupied := s.chuteCondition l,
    lowChange := s.lowStock }

/-- A port's flags and enables with the line they give (R162). -/
def officeSet (flags enables : OfficeBits) : OfficeNotices :=
  { flags := flags, enables := enables, line := officeAsserted flags enables }

def laneSet (flags enables : LaneBits) : LaneNotices :=
  { flags := flags, enables := enables, line := laneAsserted flags enables }

/-- Every condition flag follows its condition, and every line its port's flags and enables
(R159, R162). -/
def State.refreshNotices (s : State) : State :=
  { s with
    officeNotices := officeSet s.officeConditions s.officeNotices.enables
    laneNotices :=
      { one := laneSet (s.laneConditions .one) (s.laneNotices.get .one).enables
        two := laneSet (s.laneConditions .two) (s.laneNotices.get .two).enables } }

/-- The close of an event: the notices follow, and the changes become durable (R159, R185). -/
def State.closeEvent (s : State) : State := s.refreshNotices.makeDurable

end Sys2Proof.Machine
end

