-- ==== Sys2Proof/Machine/Pool.lean ====
section
/-! DEFINITION. The Plan Pool (chapter 5): writing, lowering and ending stroke records, with what a stroke
that ends gives back to its store, its owner and its tally. -/

namespace Sys2Proof.Machine

/-- The destination of an owner's strokes on a path (R97). -/
def destOf : Owner → Kind → Dest
  | .lane l, .coin => .cup l
  | .lane l, .note => .pres l
  | .office, .coin => .coinBox
  | .office, .note => .noteBox

/-- The cashbox destination of a path (R111). -/
def boxDest (k : Kind) : Dest := destOf .office k

/-- The face value of a stroke's pieces. -/
def State.strokeValue (s : State) (r : Stroke) : Nat := s.storeValue r.store

/-! ### Writing records -/

/-- A stroke of a plan: its store and its count, in the order of the plan (R87). -/
structure Planned where
  store : StoreId
  count : Nat
  deriving DecidableEq, Repr

/-- The record a planned stroke is written as (R87, R97). -/
def Planned.record (o : Owner) (origin : Origin) (slot : SlotId) (p : Planned) : Stroke :=
  { slot := slot, owner := o, path := storeKind p.store, store := p.store, count := p.count,
    delivered := 0, dest := destOf o (storeKind p.store), origin := origin, state := .waiting }

/-- Each stroke of a plan takes the slot on top of the free list and joins the end of the planning order,
which is the tail of its chain (R95, R96, R100). -/
def Pool.write (o : Owner) (origin : Origin) : List Planned → Pool → Pool
  | [], p => p
  | x :: xs, p =>
    match p.free with
    | [] => p
    | slot :: rest =>
      Pool.write o origin xs
        { p with free := rest, records := p.records ++ [x.record o origin slot] }

/-! ### What a stroke gives back -/

/-- Pieces of a kind are taken off the committed counts (R41). -/
def Sale.uncommit (x : Sale) (k : Kind) (n : Nat) : Sale :=
  match k with
  | .coin => { x with coinsCommitted := x.coinsCommitted - n }
  | .note => { x with notesCommitted := x.notesCommitted - n }

/-- Undelivered value goes to owed, or to shortfall after a halt (R41). -/
def Sale.oweOrShort (x : Sale) (v : Nat) : Sale :=
  if x.haltPending then { x with shortfall := x.shortfall + v } else { x with owed := x.owed + v }

/-- A make-up request is placed if the sale is not halted and none of the lane's is waiting or in work
(R41). -/
def State.askMakeup (s : State) (l : Lane) : State :=
  if (s.sale l).haltPending || s.makeupLive l then s else s.placeLane l (some .makeup)

/-- A lane's stroke gives back pieces it did not deliver (R41). -/
def State.giveBack (s : State) (l : Lane) (k : Kind) (pieces value : Nat) : State :=
  if pieces = 0 then s
  else (s.modSale l (fun x => (x.oweOrShort (pieces * value)).uncommit k pieces)).askMakeup l

/-- The undelivered pieces of a stroke leave their store's reserved count (R18) and go back to the owner:
a lane's owed value or shortfall, or the promised count of a skim's cashbox (R41, R21, R126). -/
def State.release (s : State) (r : Stroke) (undelivered : Nat) : State :=
  let s' := s.modStore r.store (fun x => { x with reserved := x.reserved - undelivered })
  match r.owner with
  | .lane l => s'.giveBack l r.path undelivered (s.strokeValue r)
  | .office => s'.modBox r.path (fun b => { b with promised := b.promised - undelivered })

/-! ### Ending records -/

/-- How a record ends (R98). -/
inductive Ending where
  | done
  | dropped
  deriving DecidableEq, Repr

/-- A tally count stays at 65,535 (R105). -/
def tallyAdd (a b : Nat) : Nat := min (a + b) Config.maxTally

/-- The tally of a chain after a record leaves it (R105). -/
def Tally.count (t : Tally) (r : Stroke) : Ending → Tally
  | .done =>
    { t with
      done := tallyAdd t.done 1
      cutShort := if r.delivered < r.count then tallyAdd t.cutShort 1 else t.cutShort
      delivered := tallyAdd t.delivered r.delivered }
  | .dropped => { t with dropped := tallyAdd t.dropped 1 }

def State.tally (s : State) (o : Owner) (k : Kind) : Tally := (s.pool.tallies.get o.port).get k

def State.setTally (s : State) (o : Owner) (k : Kind) (t : Tally) : State :=
  { s with
    pool := { s.pool with
      tallies := s.pool.tallies.set o.port ((s.pool.tallies.get o.port).set k t) } }

/-- Both tallies of an owner set to 0 (R105, R106). -/
def State.clearTallies (s : State) (o : Owner) : State :=
  (s.setTally o .coin Tally.zero).setTally o .note Tally.zero

/-- One ended record: its tally, its release and what it gives back. -/
def State.endRecord (s : State) (r : Stroke) (how : Ending) (undelivered : Nat) : State :=
  (s.setTally r.owner r.path ((s.tally r.owner r.path).count r how)).release r undelivered

/-- The slots freed by one event, highest first. -/
def insertSlot (x : SlotId) : List SlotId → List SlotId
  | [] => [x]
  | y :: ys => if y.val ≤ x.val then x :: y :: ys else y :: insertSlot x ys

def sortSlots (xs : List SlotId) : List SlotId := xs.foldr insertSlot []

/-- Ended records leave their chains and the planning order, and their slots go on the free list in
ascending number, so that the highest is on top (R95, R101, R102). -/
def Pool.remove (p : Pool) (ended : Stroke → Bool) : Pool :=
  { p with
    free := sortSlots ((p.records.filter ended).map (·.slot)) ++ p.free
    records := p.records.filter (fun r => !ended r) }

/-- The records one event ends, each with how it ends and the undelivered pieces it still holds
(R98, R102). -/
def State.endStrokes (s : State) (how : Stroke → Option (Ending × Nat)) : State :=
  let s' := s.pool.records.foldl
    (fun t r =>
      match how r with
      | some (e, n) => t.endRecord r e n
      | none => t) s
  { s' with pool := s'.pool.remove (fun r => (how r).isSome) }

/-- A WAITING record that an event drops gives back its whole count (R41, R126). -/
def dropWhere (chosen : Stroke → Bool) (r : Stroke) : Option (Ending × Nat) :=
  if r.state == .waiting && chosen r then some (.dropped, r.count) else none

/-- The running record of a slot ends DONE, and the WAITING records on a store are dropped, in one
event.  `released` is the running record's undelivered pieces still reserved. -/
def endOnStore (running : Option SlotId) (k : StoreId) (dropWaiting : Bool) (released : Bool)
    (r : Stroke) : Option (Ending × Nat) :=
  if some r.slot = running then
    some (.done, if released then 0 else r.count - r.delivered)
  else dropWhere (fun x => dropWaiting && x.store == k) r

/-- Every WAITING stroke on a store, of every owner, is dropped (R12, R126). -/
def State.dropWaiting (s : State) (k : StoreId) : State :=
  s.endStrokes (endOnStore none k true false)

/-! ### Lowering a WAITING stroke -/

/-- The record of a slot rewritten. -/
def Pool.modRecord (p : Pool) (slot : SlotId) (f : Stroke → Stroke) : Pool :=
  { p with records := p.records.map (fun r => if r.slot = slot then f r else r) }

def State.modRecord (s : State) (slot : SlotId) (f : Stroke → Stroke) : State :=
  { s with pool := s.pool.modRecord slot f }

/-- The chosen WAITING record latest in the planning order (R96). -/
def Pool.latest? (p : Pool) (chosen : Stroke → Bool) : Option Stroke :=
  (p.records.filter (fun r => r.state == .waiting && chosen r)).getLast?

/-- A WAITING stroke's count is lowered by one piece, which it gives back (R123, R124). -/
def State.lowerStroke (s : State) (r : Stroke) : State :=
  (s.modRecord r.slot (fun x => { x with count := x.count - 1 })).release r 1

/-- A stroke lowered to 0 is DROPPED in the same event (R97); it holds nothing any more. -/
def State.dropEmptied (s : State) : State :=
  s.endStrokes (dropWhere (fun r => r.count == 0))

end Sys2Proof.Machine
end

