-- ==== Sys2Proof/Machine/Paths.lean ====
section
/-! DEFINITION. The Path Arbiters (chapter 6): when a grant is over, the next-stroke latch, the grant
decision and the start of a diverter move. -/

namespace Sys2Proof.Machine

/-- The path may be granted (R111). -/
def State.pathAvailable (s : State) (k : Kind) : Bool :=
  (s.path k).availability == .available

/-- The stroke's diverter destination and store, as the latch takes them from a record (R104). -/
def Stroke.latch (r : Stroke) : Latch := { slot := r.slot, store := r.store, dest := r.dest }

/-- The head of a chain as a latch; empty for an empty chain (R104). -/
def State.headLatch (s : State) (o : Owner) (k : Kind) : Option Latch :=
  (s.pool.chain o k).head?.map Stroke.latch

/-- A store is start-held while a path's latch names it (R64, R104). -/
def State.startHeld (s : State) (k : StoreId) : Bool :=
  allKinds.any (fun p =>
    match (s.path p).latch with
    | some x => x.store == k
    | none => false)

/-- A lane chain is eligible for its path's grant (R112). -/
def State.laneEligible (s : State) (k : Kind) (l : Lane) : Bool :=
  !s.chainEmpty (.lane l) k && (s.path k).grant != .laneRun l && !s.held l k

/-- The grant of a path is over: a run by R114; an OFFICE stroke at its stroke's end, when the office's
chain has no record, or when it yields to an eligible lane before its stroke has started (R115). -/
def State.grantOver (s : State) (k : Kind) : Bool :=
  match (s.path k).grant with
  | .none => false
  | .laneRun l => s.chainEmpty (.lane l) k && !s.makeupLive l
  | .officeStroke =>
    if s.pathRunning k then false
    else if (s.path k).latch.isNone then true
    else s.chainEmpty .office k || s.laneEligible k .one || s.laneEligible k .two

/-- The owner whose chain a grant serves. -/
def Grant.owner? : Grant → Option Owner
  | .none => Option.none
  | .laneRun l => some (.lane l)
  | .officeStroke => some .office

/-- The latch under a grant that goes on: empty while a stroke of the path runs, else the chain's head
(R104). -/
def State.grantLatch (s : State) (k : Kind) : Option Latch :=
  match (s.path k).grant.owner? with
  | none => none
  | some o => if s.pathRunning k then none else s.headLatch o k

/-- A grant that is over becomes NONE and the latch is emptied; one that goes on keeps the latch in step
with its chain (R104, R114, R115). -/
def State.reviewGrant (s : State) (k : Kind) : State :=
  if s.grantOver k then s.modPath k (fun a => { a with grant := .none, latch := none })
  else s.modPath k (fun a => { a with latch := s.grantLatch k })

/-- The lane a grant decision chooses: of two eligible lanes, the one that is not the last-granted lane
(R113). -/
def State.chosenLane (s : State) (k : Kind) : Option Lane :=
  let other := (s.path k).lastGranted.other
  if s.laneEligible k other then some other
  else if s.laneEligible k other.other then some other.other
  else none

/-- The grant decision (R113). -/
def State.decideGrant (s : State) (k : Kind) : State :=
  if s.pathAvailable k && (s.path k).grant == .none then
    match s.chosenLane k with
    | some l =>
      s.modPath k (fun a =>
        { a with grant := .laneRun l, latch := s.headLatch (.lane l) k, lastGranted := l,
                 openingUsed := a.openingUsed.set l true })
    | none =>
      if s.chainEmpty .office k then s
      else s.modPath k (fun a =>
        { a with grant := .officeStroke, latch := s.headLatch .office k })
  else s

/-- A diverter move starts when the latch names another destination than the diverter stands at, no move
is in progress and no stroke of the path runs (R117).  A re-homing path moves no diverter (R111). -/
def State.startMove (s : State) (k : Kind) : State :=
  match (s.path k).latch with
  | none => s
  | some x =>
    if s.pathAvailable k && (s.path k).move.isNone && !s.pathRunning k &&
        (s.path k).position != some x.dest then
      s.modPath k (fun a =>
        { a with position := none, move := some { dest := x.dest, ms := Config.moveMs k } })
    else s

/-- The arbiter acts on a boundary of its path (R104, R113–R117). -/
def State.settlePath (s : State) (k : Kind) : State :=
  ((s.reviewGrant k).decideGrant k).startMove k

/-- Both arbiters act; they do not touch each other (R110). -/
def State.settlePaths (s : State) : State := (s.settlePath .coin).settlePath .note

/-- A lane chain is ended: it holds no record and no run of it holds its path (R114). -/
def State.chainEnded (s : State) (l : Lane) (k : Kind) : Bool :=
  s.chainEmpty (.lane l) k && (s.path k).grant != .laneRun l

end Sys2Proof.Machine
end

