-- ==== Sys2Proof/Machine/Sale.lean ====
section
/-! DEFINITION. The sale context's transitions (chapter 2): the rounded target, settling, entering
PRESENTED, the completion record and the close. -/

namespace Sys2Proof.Machine

/-- Change rounded to the rounding unit (R77). -/
def roundChange (unit c : Nat) : Nat :=
  if 2 * (c % unit) < unit then c - c % unit else c - c % unit + unit

/-! ### The completion record -/

/-- One denomination outranks another for a place on a full pieces list: by value, and of two of one value by
a free rank (R49; log 7). -/
def State.outranks (s : State) (pieces : Vector Nat 12) (a b : Denom) : Bool :=
  let rank := Config.tiedRank pieces
  decide (s.value b < s.value a ∨ (s.value a = s.value b ∧
    (rank b < rank a ∨ (rank a = rank b ∧ a.val < b.val))))

/-- The denominations with pieces paid, in index order. -/
def paidDenoms (pieces : Vector Nat 12) : List Denom :=
  allDenoms.filter (fun d => pieces[d] != 0)

/-- The pieces list: the denominations with pieces paid, or the ten of them with the highest values, in
index order (R49). -/
def State.piecesList (s : State) (pieces : Vector Nat 12) : List (Denom × Nat) :=
  let paid := paidDenoms pieces
  let kept :=
    if paid.length ≤ Config.maxEntries then paid
    else paid.filter (fun d =>
      decide ((paid.filter (fun e => s.outranks pieces e d)).length < Config.maxEntries))
  kept.map (fun d => (d, pieces[d]))

/-- The completion record of a sale at its close (R49). -/
def State.completion (s : State) (l : Lane) (outcome : SaleOutcome) : Completion :=
  { sequence := (s.sale l).sequence, outcome := outcome, due := (s.sale l).due,
    tendered := (s.sale l).tendered, target := (s.sale l).target, paid := (s.sale l).paid,
    overpay := (s.sale l).overpay, shortfall := (s.sale l).shortfall,
    pieces := s.piecesList (s.sale l).pieces }

/-- The outcome of a sale that closes from PRESENTED (R48). -/
def Sale.presentedOutcome (x : Sale) : SaleOutcome :=
  if x.haltPending then .halted
  else if x.targetKind = .refund then .refunded
  else if 0 < x.shortfall || x.retracted then .short
  else .paid

/-- The lane's opening run on each path returns to open (R110). -/
def State.reopenRuns (s : State) (l : Lane) : State :=
  (s.modPath .coin (fun a => { a with openingUsed := a.openingUsed.set l false })).modPath .note
    (fun a => { a with openingUsed := a.openingUsed.set l false })

/-- The close of a sale (R48): its record, COMPLETION_READY, its tallies and opening runs, and IDLE.
TENDER_REACHED clears with TENDERING (R33). -/
def State.closeSale (s : State) (l : Lane) (outcome : SaleOutcome) : State :=
  ((((((s.setSlot l (some (s.completion l outcome))).setSale l
    (Sale.idle (s.sale l).sequence)).laneFlag l .completionReady true).laneFlag l
      .tenderReached false).clearTallies (.lane l)).reopenRuns l)

/-- Both chutes of the lane report empty (R45). -/
def State.chutesEmpty (s : State) (l : Lane) : Bool :=
  !(s.pins.chuteOccupied.get l).coin && !(s.pins.chuteOccupied.get l).note

/-- The closing test of a PRESENTED sale (R45). -/
def State.closeIfClear (s : State) (l : Lane) : State :=
  if (s.sale l).state == .presented && s.chutesEmpty l then
    s.closeSale l (s.sale l).presentedOutcome
  else s

/-! ### The end of a payout -/

/-- The notes paid to the lane's presenter: the pieces paid of note denominations (R47, R131). -/
def State.noteDenoms (s : State) (l : Lane) : List Denom :=
  allDenoms.filter (fun d =>
    (s.denom d).kind == .note && s.used d && (s.sale l).paidPieces d != 0)

/-- The test of R43 (R132). -/
def State.payoutOver (s : State) (l : Lane) : Bool :=
  (s.sale l).state == .paying && s.chainEnded l .coin && s.chainEnded l .note &&
    (s.sale l).owed == 0 && !s.makeupLive l

/-- Entering PRESENTED: the present timer starts (R43, R46) and gathered notes are presented, which opens the
presenter; a sale with no note leaves it as it stands (R131).  A presenter opened while its sensor reports empty
stays open until the sensor reports empty anew (DESIGN CHOICE, log 30). -/
def State.enterPresented (s : State) (l : Lane) : State :=
  { s.modSale l (fun x =>
      { x with state := .presented, timer := .running s.limits.presentTimeout }) with
    presenterOpen := if (s.noteDenoms l).isEmpty then s.presenterOpen else s.presenterOpen.set l true }

/-- A sale whose payout is over is presented, and closed at once if both chutes are empty (R43, R45). -/
def State.settleSale (s : State) (l : Lane) : State :=
  if s.payoutOver l then (s.enterPresented l).closeIfClear l else s

/-! ### Settling -/

/-- The settle of R34 from the comparison onward, the sale having at least its due: a target of 0 closes
the sale (R35); any other places a settle request. -/
def State.beginSettle (s : State) (l : Lane) : State :=
  let target := roundChange s.limits.roundingUnit ((s.sale l).tendered - (s.sale l).due)
  if target = 0 then
    (s.modSale l (fun x => { x with targetKind := .change, target := 0, lastResult := .exact })).closeSale
      l .paid
  else
    ((s.modSale l (fun x =>
      { x with targetKind := .change, target := target, state := .planning })).laneFlag l
        .tenderReached false).placeLane l (some .settle)

/-- A sale turns into a refund of what was tendered: its request takes the lane's slot (R37, R38). -/
def State.beginRefund (s : State) (l : Lane) : State :=
  ((s.modSale l (fun x =>
    { x with targetKind := .refund, target := x.tendered, state := .planning,
             cancelPending := false })).laneFlag l .tenderReached false).placeLane l (some .refund)

/-- A routed piece is credited to a sale in TENDERING: reaching the due settles the sale or raises
TENDER_REACHED (R33, R61). -/
def State.credit (s : State) (l : Lane) (v : Nat) : State :=
  let before := (s.sale l).tendered
  let s' := s.modSale l (fun x => { x with tendered := x.tendered + v })
  if before < (s.sale l).due ∧ (s.sale l).due ≤ before + v then
    (if (s.sale l).autoSettle then s'.beginSettle l else s'.laneFlag l .tenderReached true)
  else s'

/-- A piece paid to a lane's cup or presenter, counted or over-paid (R40). -/
def Sale.payPiece (x : Sale) (d : Denom) (v : Nat) (overPaid : Bool) : Sale :=
  ({ x with paid := x.paid + v,
            overpay := if overPaid then x.overpay + v else x.overpay }).setPieces d
    (x.paidPieces d + 1)

end Sys2Proof.Machine
end

