-- ==== Sys2Proof/Machine/Planner.lean ====
section
/-! DEFINITION. The Change Planner (chapter 4): the snapshot, the search in two passes, allocation, skim
planning, the order in which requests are taken, and completion. -/

namespace Sys2Proof.Machine

/-! ### The snapshot (R74) -/

def State.snapStore (s : State) (k : StoreId) : SnapStore :=
  { state := (s.store k).state, denom := (s.store k).denom, pay := (s.store k).pay,
    free := (s.store k).free }

def State.snapDenom (s : State) (d : Denom) : SnapDenom :=
  { value := s.value d, kind := (s.denom d).kind, enabled := s.enabled d,
    low := (s.marks d).low, target := (s.marks d).target }

/-- The stores that carry a live stroke of an owner, on either path (R74, R88). -/
def State.busyStores (s : State) (o : Owner) : List StoreId :=
  (s.pool.records.filter (fun r => r.owner == o)).map (·.store)

/-- The snapshot of an attempt, with the target it plans for (R74). -/
def State.snapshot (s : State) (job : Job) (target : Nat) : Snapshot :=
  let stores := tabulate s.snapStore
  let denoms := tabulate s.snapDenom
  let space : PerKind Nat := { coin := s.space .coin, note := s.space .note }
  match job with
  | .lane l _ =>
    { stores := stores, denoms := denoms, space := space, target := target,
      acceptShort := (s.sale l).acceptShort, coinsCommitted := (s.sale l).coinsCommitted,
      notesCommitted := (s.sale l).notesCommitted, busy := s.busyStores (.lane l) }
  | .skim _ =>
    { stores := stores, denoms := denoms, space := space, target := 0, acceptShort := false,
      coinsCommitted := 0, notesCommitted := 0, busy := [] }

def Snapshot.store (n : Snapshot) (k : StoreId) : SnapStore := n.stores[k]

def Snapshot.denom (n : Snapshot) (d : Denom) : SnapDenom := n.denoms[d]

/-! ### What a plan is computed from -/

/-- The stores excluded from a plan: a make-up's lane's busy stores (R78, R88). -/
def Snapshot.excluded (n : Snapshot) (r : LaneRequest) : List StoreId :=
  match r with
  | .makeup => n.busy
  | .settle | .refund => []

/-- The usable stores of a denomination that are not excluded (R7, R78). -/
def Snapshot.usableStores (n : Snapshot) (excluded : List StoreId) (d : Denom) : List StoreId :=
  if (n.denom d).enabled then
    allStores.filter (fun k =>
      (n.store k).state == .ready && (n.store k).pay && (n.store k).denom == some d &&
        !excluded.contains k)
  else []

/-- The sum of the free counts of some stores in the snapshot. -/
def Snapshot.freeOf (n : Snapshot) (ks : List StoreId) : Nat :=
  (ks.map (fun k => (n.store k).free)).sum

/-- A position of the search (R78): a usable denomination with its free stock. -/
structure Position where
  denom : Denom
  value : Nat
  kind : Kind
  free : Nat
  low : Nat
  deriving DecidableEq, Repr

/-- The order of positions: largest value first, and of equal values the note first (R78). -/
def Position.before (a b : Position) : Bool :=
  decide (b.value < a.value) || (a.value == b.value && a.kind == .note)

def insertPosition (x : Position) : List Position → List Position
  | [] => [x]
  | y :: ys => if x.before y then x :: y :: ys else y :: insertPosition x ys

/-- The positions of a lane plan, in order (R78, R79). -/
def Snapshot.positions (n : Snapshot) (excluded : List StoreId) : List Position :=
  (allDenoms.filter (fun d => !(n.usableStores excluded d).isEmpty)).foldr
    (fun d ps =>
      insertPosition
        { denom := d, value := (n.denom d).value, kind := (n.denom d).kind,
          free := n.freeOf (n.usableStores excluded d), low := (n.denom d).low } ps) []

/-- The piece budgets (R80). -/
structure Budgets where
  coins : Nat
  notes : Nat
  deriving DecidableEq, Repr

def Budgets.of (b : Budgets) : Kind → Nat
  | .coin => b.coins
  | .note => b.notes

def Budgets.less (b : Budgets) (k : Kind) (n : Nat) : Budgets :=
  match k with
  | .coin => { b with coins := b.coins - n }
  | .note => { b with notes := b.notes - n }

/-- The budgets of a lane request: the piece limits, less the committed counts for a make-up (R80). -/
def Snapshot.budgets (n : Snapshot) (limits : Limits) (r : LaneRequest) : Budgets :=
  match r with
  | .makeup =>
    { coins := limits.coinLimit - n.coinsCommitted, notes := limits.noteLimit - n.notesCommitted }
  | .settle | .refund => { coins := limits.coinLimit, notes := limits.noteLimit }

/-! ### The search (R82–R84) -/

/-- A position with its stock in a pass and, in a candidate, its count. -/
structure Stocked where
  value : Nat
  kind : Kind
  stock : Nat
  deriving DecidableEq, Repr

/-- A candidate: a count for each position, and the remainder it leaves. -/
structure Candidate where
  counts : List Nat
  remainder : Nat
  deriving DecidableEq, Repr

/-- A greedy fill from some position on, with a remainder and budgets as they stand (R82). -/
def greedyFill : List Stocked → Nat → Budgets → Candidate
  | [], remainder, _ => { counts := [], remainder := remainder }
  | p :: ps, remainder, b =>
    let count := min p.stock (min (remainder / p.value) (b.of p.kind))
    let rest := greedyFill ps (remainder - count * p.value) (b.less p.kind count)
    { counts := count :: rest.counts, remainder := rest.remainder }

/-- The fill that keeps given counts for the first positions and fills greedily behind them (R83). -/
def fillBehind : List Stocked → List Nat → Nat → Budgets → Candidate
  | ps, [], remainder, b => greedyFill ps remainder b
  | [], _ :: _, remainder, _ => { counts := [], remainder := remainder }
  | p :: ps, count :: kept, remainder, b =>
    let rest := fillBehind ps kept (remainder - count * p.value) (b.less p.kind count)
    { counts := count :: rest.counts, remainder := rest.remainder }

/-- The counts a retreat keeps: up to the last position before position n whose count is above 0, that
count lowered by 1; none if there is no such position (R83). -/
def retreat (counts : List Nat) : Option (List Nat) :=
  match counts.dropLast.reverse.dropWhile (· == 0) with
  | [] => none
  | c :: earlier => some ((c - 1) :: earlier).reverse

/-- The retreats of a pass, at most as many as are left; `best` is the best candidate so far, the one
made first among equals (R83). -/
def searchOn (ps : List Stocked) (target : Nat) (b : Budgets) :
    Nat → Candidate → Candidate → Candidate
  | 0, _, best => best
  | left + 1, last, best =>
    if last.remainder = 0 then best
    else
      match retreat last.counts with
      | none => best
      | some kept =>
        let next := fillBehind ps kept target b
        searchOn ps target b left next
          (if next.remainder < best.remainder then next else best)

/-- The value of a pass's whole stock. -/
def stockValue (ps : List Stocked) : Nat := (ps.map (fun p => p.stock * p.value)).sum

/-- The best candidate of a pass; the pass succeeds where its remainder is 0 (R83). -/
def searchPass (ps : List Stocked) (target : Nat) (b : Budgets) : Candidate :=
  let first := greedyFill ps target b
  if stockValue ps < target then first
  else searchOn ps target b Config.maxRetreats first first

/-- The stock of the comfortable pass: above the low mark (R79). -/
def Position.comfortable (p : Position) : Stocked :=
  { value := p.value, kind := p.kind, stock := p.free - p.low }

/-- The stock of the full pass (R79). -/
def Position.full (p : Position) : Stocked :=
  { value := p.value, kind := p.kind, stock := p.free }

/-- The candidate a lane request plans with: pass 1 if it succeeds, else pass 2 if it succeeds, else the
better of the two, pass 1 at a tie (R84). -/
def chooseCandidate (ps : List Position) (target : Nat) (b : Budgets) : Candidate :=
  let one := searchPass (ps.map Position.comfortable) target b
  if one.remainder = 0 then one
  else
    let two := searchPass (ps.map Position.full) target b
    if two.remainder = 0 then two
    else if one.remainder ≤ two.remainder then one
    else two

/-! ### Allocation (R86, R87) -/

/-- Stores in the order allocation takes them: largest free count first, then the lower number. -/
def Snapshot.insertByFree (n : Snapshot) (x : StoreId) : List StoreId → List StoreId
  | [] => [x]
  | y :: ys =>
    if (n.store y).free < (n.store x).free ∨ ((n.store y).free = (n.store x).free ∧ x.val < y.val)
    then x :: y :: ys
    else y :: n.insertByFree x ys

def Snapshot.byFree (n : Snapshot) (ks : List StoreId) : List StoreId :=
  ks.foldr n.insertByFree []

/-- Each store in turn gives the smaller of its free count and what is still to be taken (R86). -/
def Snapshot.takeFrom (n : Snapshot) : List StoreId → Nat → List Planned
  | [], _ => []
  | k :: ks, want =>
    let got := min (n.store k).free want
    if got = 0 then n.takeFrom ks want
    else { store := k, count := got } :: n.takeFrom ks (want - got)

/-- Strokes in store order, lowest first (R87). -/
def insertByStore (x : Planned) : List Planned → List Planned
  | [] => [x]
  | y :: ys => if x.store.val ≤ y.store.val then x :: y :: ys else y :: insertByStore x ys

/-- The strokes of one denomination's count, in store order (R86, R87). -/
def Snapshot.allocate (n : Snapshot) (ks : List StoreId) (count : Nat) : List Planned :=
  (n.takeFrom (n.byFree ks) count).foldr insertByStore []

/-- The strokes of one kind, in the order of the positions: largest value first (R87). -/
def Snapshot.strokesOf (n : Snapshot) (excluded : List StoreId) (k : Kind) :
    List (Position × Nat) → List Planned
  | [] => []
  | (p, count) :: rest =>
    (if p.kind = k then n.allocate (n.usableStores excluded p.denom) count else []) ++
      n.strokesOf excluded k rest

/-- What a computation yields: the strokes in the order of the plan, the coin chain before the note chain
(R87), the pieces of each kind, and the shortfall. -/
structure Plan where
  strokes : List Planned
  coins : Nat
  notes : Nat
  shortfall : Nat
  deriving DecidableEq, Repr

/-- The pieces of a kind in some strokes. -/
def piecesOf (k : Kind) (xs : List Planned) : Nat :=
  ((xs.filter (fun x => storeKind x.store == k)).map (·.count)).sum

/-- The plan of some strokes with their coin and note pieces. -/
def planWith (strokes : List Planned) (shortfall : Nat) : Plan :=
  { strokes := strokes, coins := piecesOf .coin strokes, notes := piecesOf .note strokes,
    shortfall := shortfall }

/-- A lane request's plan, from the snapshot alone (R78–R87).  The piece limits cannot change during a
sale (R80). -/
def Snapshot.lanePlan (n : Snapshot) (limits : Limits) (r : LaneRequest) : Plan :=
  let excluded := n.excluded r
  let ps := n.positions excluded
  let c := chooseCandidate ps n.target (n.budgets limits r)
  let counted := ps.zip c.counts
  planWith (n.strokesOf excluded .coin counted ++ n.strokesOf excluded .note counted) c.remainder

/-! ### Skim planning (R89, R90) -/

/-- The pieces each denomination of a kind is allotted: its excess, limited by the space of the kind not
yet spent, in order of value (R89). -/
def Snapshot.allot (n : Snapshot) (k : Kind) : List Position → Nat → List (Position × Nat)
  | [], _ => []
  | p :: ps, space =>
    if p.kind = k then
      let got := min (p.free - (n.denom p.denom).target) space
      (p, got) :: n.allot k ps (space - got)
    else n.allot k ps space

/-- The strokes of a skim to target for one kind (R89). -/
def Snapshot.skimStrokes (n : Snapshot) (k : Kind) : List Planned :=
  n.strokesOf [] k (n.allot k (n.positions []) (n.space.get k))

/-- The strokes of an EMPTY STORE: the free count of the store, limited by its cashbox's space (R90). -/
def Snapshot.emptyStrokes (n : Snapshot) (k : StoreId) : List Planned :=
  let got := min (n.store k).free (n.space.get (storeKind k))
  if got = 0 then [] else [{ store := k, count := got }]

def Snapshot.skimPlan (n : Snapshot) (r : SkimRequest) : Plan :=
  match r with
  | .toTarget => planWith (n.skimStrokes .coin ++ n.skimStrokes .note) 0
  | .emptyStore k => planWith (n.emptyStrokes k) 0

/-- The plan of the request in work, from its snapshot. -/
def Work.plan (w : Work) (limits : Limits) : Plan :=
  match w.job with
  | .lane _ r => w.snap.lanePlan limits r
  | .skim r => w.snap.skimPlan r

/-! ### Taking a request into work (R73) -/

/-- A lane whose waiting request is of some class; of two, the one not last served (R73). -/
def State.laneWaiting (s : State) (isClass : LaneRequest → Bool) : Option Lane :=
  let waits := fun l =>
    match s.planner.waitingLane.get l with
    | some r => isClass r
    | none => false
  let other := s.planner.lastServed.other
  if waits other then some other
  else if waits other.other then some other.other
  else none

/-- The request the planner takes next: make-ups, then settles and refunds, then skims (R73). -/
def State.nextJob (s : State) : Option Job :=
  match s.laneWaiting (· == .makeup) with
  | some l => some (.lane l .makeup)
  | none =>
    match s.laneWaiting (· != .makeup) with
    | some l => (s.planner.waitingLane.get l).map (.lane l)
    | none => s.planner.waitingSkim.map .skim

/-- A request is taken into work: its slot empties, a lane becomes the last-served lane, a make-up takes
the sale's owed as its target (R42, R73, R74). -/
def State.takeJob (s : State) (job : Job) : State :=
  match job with
  | .lane l r =>
    let target := match r with
      | .makeup => (s.sale l).owed
      | .settle | .refund => (s.sale l).target
    let t := match r with
      | .makeup => s.modSale l (fun x => { x with owed := 0 })
      | .settle | .refund => s
    { t with planner :=
        { t.planner with
          waitingLane := t.planner.waitingLane.set l none, lastServed := l,
          work := some { job := job, attempt := 1, stopped := false,
                         snap := t.snapshot job target } } }
  | .skim _ =>
    { s with planner :=
        { s.planner with
          waitingSkim := none,
          work := some { job := job, attempt := 1, stopped := false,
                         snap := s.snapshot job 0 } } }

/-- A FREE planner takes a waiting request (R73). -/
def State.takeNext (s : State) : State :=
  match s.planner.work with
  | some _ => s
  | none =>
    match s.nextJob with
    | some job => s.takeJob job
    | none => s

/-! ### The profile switch (R139) -/

/-- A quiet point (R139). -/
def State.quietPoint (s : State) : Bool :=
  s.bothIdle && !s.skimLive && s.planner.work.isNone

/-- The switch: the pending profile is copied, the flag cleared, PROFILE_SWITCHED raised (R139). -/
def State.switchProfile (s : State) : State :=
  ({ s with active := s.pendingMarks, armed := false }).officeFlag .profileSwitched true

/-- An armed switch is made in the event that brings a quiet point about (R138, R139). -/
def State.switchIfQuiet (s : State) : State :=
  if s.armed && s.quietPoint then s.switchProfile else s

/-! ### The close of an event that touches work in progress -/

/-- The consequences of an event inside it: the paths' boundaries, the sales whose payout is over, the
planner's next request, the profile switch (log 21). -/
def State.settleWork (s : State) : State :=
  (((s.settlePaths.settleSale .one).settleSale .two).takeNext).switchIfQuiet

/-- The close of such an event. -/
def State.finish (s : State) : State := s.settleWork.closeEvent

/-! ### Completion (R91–R93) -/

/-- The fetch-and-add of R17: the free count before the add, and whether the amount was reserved. -/
def State.reserve (s : State) (k : StoreId) (amount : Nat) : Nat × Option State :=
  ((s.store k).free,
    if amount ≤ (s.store k).free then
      some (s.modStore k (fun x => { x with reserved := x.reserved + amount }))
    else none)

/-- The reservations of a plan in its order; none if one of them is refused (R91). -/
def State.reserveAll (s : State) : List Planned → Option State
  | [] => some s
  | p :: ps =>
    match (s.reserve p.store p.count).2 with
    | some t => t.reserveAll ps
    | none => none

/-- The check of a skim against the space of each cashbox at the completion (R91). -/
def State.spaceAllows (s : State) (job : Job) (plan : Plan) : Bool :=
  match job with
  | .lane _ _ => true
  | .skim _ => decide (plan.coins ≤ s.space .coin) && decide (plan.notes ≤ s.space .note)

/-- The owner and origin of a job's strokes (R71, R87). -/
def Job.owner : Job → Owner
  | .lane l _ => .lane l
  | .skim _ => .office

def Job.origin : Job → Origin
  | .lane _ .makeup => .makeup
  | .lane _ .settle => .main
  | .lane _ .refund => .main
  | .skim _ => .main

/-- The strokes of a plan are written into the pool, and a skim's raise their cashboxes' promised counts
(R21, R91, R100). -/
def State.layDown (s : State) (job : Job) (plan : Plan) : State :=
  let t := { s with pool := s.pool.write job.owner job.origin plan.strokes }
  match job with
  | .lane _ _ => t
  | .skim _ =>
    (t.modBox .coin (fun b => { b with promised := b.promised + plan.coins })).modBox .note
      (fun b => { b with promised := b.promised + plan.notes })

/-- The planner becomes FREE (R93). -/
def State.freePlanner (s : State) : State :=
  { s with planner := { s.planner with work := none } }

/-- A make-up that ends with owed above 0 places the next one (R42). -/
def State.nextMakeup (s : State) (l : Lane) : State :=
  if 0 < (s.sale l).owed then s.placeLane l (some .makeup) else s

/-- A settle handed back NO_EXACT or STOCK_CHANGED (R36). -/
def State.refuseSettle (s : State) (l : Lane) (result : SettleResult) : State :=
  (s.modSale l (fun x =>
    { x with lastResult := result, target := 0, targetKind := .none,
             state := .tendering })).laneFlag l .settleRefused true

/-- A plan is handed back to its owner (R36, R39, R42). -/
def State.handBack (s : State) (job : Job) (plan : Plan) : State :=
  match job with
  | .lane l .settle | .lane l .refund =>
    s.modSale l (fun x =>
      { x with
        lastResult := if plan.shortfall = 0 then .exact else .short
        shortfall := x.shortfall + plan.shortfall
        coinsCommitted := plan.coins
        notesCommitted := plan.notes
        state := .paying })
  | .lane l .makeup =>
    (s.modSale l (fun x =>
      { x with
        shortfall := x.shortfall + plan.shortfall
        coinsCommitted := x.coinsCommitted + plan.coins
        notesCommitted := x.notesCommitted + plan.notes })).nextMakeup l
  | .skim _ => s

/-- STOCK_CHANGED is handed back (R36, R39, R42, R92). -/
def State.handStockChanged (s : State) (job : Job) (target : Nat) : State :=
  match job with
  | .lane l .settle => s.refuseSettle l .stockChanged
  | .lane l .refund =>
    s.modSale l (fun x =>
      { x with shortfall := x.target, lastResult := .stockChanged, state := .paying })
  | .lane l .makeup =>
    (s.modSale l (fun x => { x with shortfall := x.shortfall + target })).nextMakeup l
  | .skim _ => s

/-- The work was withdrawn while it was in work: a cancelled settle, a halted make-up, a stopped skim
(R75, R91). -/
def State.withdrawn (s : State) (w : Work) : Bool :=
  match w.job with
  | .lane l .settle => (s.sale l).cancelPending
  | .lane _ .refund => false
  | .lane l .makeup => (s.sale l).haltPending
  | .skim _ => w.stopped

/-- The completion of withdrawn work: a cancelled settle becomes a refund (R38), a halted make-up's target
goes to shortfall (R44), a stopped skim is over. -/
def State.completeWithdrawn (s : State) (w : Work) : State :=
  match w.job with
  | .lane l .settle => s.beginRefund l
  | .lane _ .refund => s
  | .lane l .makeup => s.modSale l (fun x => { x with shortfall := x.shortfall + w.snap.target })
  | .skim _ => s

/-- A plan with a shortfall that its request may not lay down: a settle without ACCEPT_SHORT (R85). -/
def Work.refuses (w : Work) (plan : Plan) : Bool :=
  match w.job with
  | .lane _ .settle => decide (0 < plan.shortfall) && !w.snap.acceptShort
  | .lane _ .refund => false
  | .lane _ .makeup => false
  | .skim _ => false

/-- The lane of a job refused with NO_EXACT. -/
def State.completeRefused (s : State) (w : Work) : State :=
  match w.job with
  | .lane l _ => s.refuseSettle l .noExact
  | .skim _ => s

/-- A failed check: a new attempt in the same event with a new snapshot and the same target, or
STOCK_CHANGED after the third (R92).  The reservations made were undone. -/
def State.recompute (s : State) (w : Work) : State :=
  if w.attempt < Config.maxAttempts then
    { s with planner :=
        { s.planner with
          work := some { w with attempt := w.attempt + 1,
                                snap := s.snapshot w.job w.snap.target } } }
  else s.freePlanner.handStockChanged w.job w.snap.target

/-- The completion of the attempt in work, up to the close of its event (R91); none where the pool has
fewer free slots than the plan has strokes (log 17). -/
def State.completeAttempt (s : State) (w : Work) : Option State :=
  let plan := w.plan s.limits
  if s.withdrawn w then some (s.freePlanner.completeWithdrawn w)
  else if w.refuses plan then some (s.freePlanner.completeRefused w)
  else if plan.strokes.isEmpty then some (s.freePlanner.handBack w.job plan)
  else
    match (if s.spaceAllows w.job plan then s.reserveAll plan.strokes else none) with
    | none => some (s.recompute w)
    | some t =>
      if plan.strokes.length ≤ t.pool.free.length then
        some (((t.layDown w.job plan).freePlanner).handBack w.job plan)
      else none

/-- ATTEMPT_COMPLETION (R91): with no request in work nothing completes (log 3). -/
def execAttemptCompletion (s : State) : Host.Outcome State Fault Refusal :=
  match s.phase, s.planner.work with
  | .running, some w =>
    match s.completeAttempt w with
    | some t => .next t.finish
    | none => .fault .poolExhausted
  | .running, none => .next s
  | .off, _ => .next s
  | .startingUp, _ => .next s

end Sys2Proof.Machine
end

