-- ==== Sys2Proof/Machine/Stores.lean ====
section
/-! DEFINITION. The store table's events (chapter 1): marks, cassette exchange, level reports, and the
cashbox sensors. -/

namespace Sys2Proof.Machine

/-- An event of the mechanism or of the link is taken only while the part runs (R53, R183, R186; log 10). -/
def State.whileRunning (s : State) (event : State → State) : Host.Outcome State Fault Refusal :=
  match s.phase with
  | .running => .next (event s)
  | .off => .next s
  | .startingUp => .next s

/-- Marking a store UNCERTAIN (R12): at once if READY, dropping its WAITING strokes; held while PAYING; no
change in any other state. -/
def State.markUncertain (s : State) (k : StoreId) : State :=
  match (s.store k).state with
  | .ready => (s.modStore k (fun x => { x with state := .uncertain })).dropWaiting k
  | .paying => s.modStore k (fun x => { x with marked := true })
  | .uncertain => s
  | .jammed => s
  | .absent => s
  | .disabled => s

/-! ### Booking pending fills as unplaced (R9, R66, R187) -/

/-- A fill that was never confirmed is booked to its counter and UNPLACED (R66). -/
def State.bookUnplaced (s : State) (f : Fill) : State :=
  (s.book f.counter.counter f.denom 1).book .unplaced f.denom 1

/-- Every pending fill of a store is resolved as unplaced and the list is emptied (R9, R187). -/
def State.resolveFills (s : State) (k : StoreId) : State :=
  ((s.store k).fills.foldl State.bookUnplaced s).modStore k (fun x => { x with fills := [] })

/-! ### Cassettes -/

/-- The slot of the stroke that runs on a channel. -/
def Channel.slot? : Channel → Option SlotId
  | .idle => none
  | .driving slot _ => some slot
  | .afterRun slot _ => some slot

/-- In AFTER-RUN the running stroke holds no reservation any more (R23, R122, R127). -/
def Channel.holdsNothing : Channel → Bool
  | .idle => false
  | .driving _ _ => false
  | .afterRun _ _ => true

/-- A store with its cassette out: the count leaves with its reservations, the channel stops, the marker
clears (R9, R18, R127). -/
def Store.pulled (x : Store) : Store :=
  { x with physical := 0, reserved := 0, state := .absent, inFlight := false, marked := false,
           channel := .idle }

/-- The cassette of a store that is not ABSENT is out: REMOVED is booked, the running stroke ends and the
WAITING ones are dropped, the pending fills are resolved (R9, R127). -/
def State.pullCassette (s : State) (k : StoreId) : State :=
  (((s.bookStore .removed k (s.store k).physical).endStrokes
    (endOnStore (s.store k).channel.slot? k true (s.store k).channel.holdsNothing)).resolveFills
      k).modStore k Store.pulled

/-- A new cassette: nothing counted, UNCERTAIN or, UNASSIGNED, DISABLED (R10). -/
def Store.newCassette (x : Store) : Store :=
  { x with physical := 0, reserved := 0, fills := [],
           state := if x.denom.isNone then .disabled else .uncertain }

def State.setCassettePin (s : State) (k : StoreId) (present : Bool) : State :=
  { s with pins := { s.pins with cassetteIn := s.pins.cassetteIn.set k.val present k.isLt } }

def State.setLevelPin (s : State) (k : StoreId) (empty : Bool) : State :=
  { s with pins := { s.pins with levelEmpty := s.pins.levelEmpty.set k.val empty k.isLt } }

/-- CASSETTE_OUT (R9). -/
def execCassetteOut (k : StoreId) (s : State) : Host.Outcome State Fault Refusal :=
  (s.setCassettePin k false).whileRunning (fun t =>
    if (t.store k).state = .absent then t else (t.pullCassette k).finish)

/-- CASSETTE_IN (R10). -/
def execCassetteIn (k : StoreId) (s : State) : Host.Outcome State Fault Refusal :=
  (s.setCassettePin k true).whileRunning (fun t =>
    if (t.store k).state = .absent then (t.modStore k Store.newCassette).closeEvent else t)

/-- R13, in the state a store stands in. -/
def State.levelReported (s : State) (k : StoreId) : State :=
  if 0 < (s.store k).physical then s.markUncertain k else s

/-- EMPTY_LEVEL_REPORT (R13): only a change to empty acts. -/
def execEmptyLevelReport (k : StoreId) (s : State) : Host.Outcome State Fault Refusal :=
  if s.pins.levelEmpty[k] then .next s
  else (s.setLevelPin k true).whileRunning (fun t => (t.levelReported k).finish)

/-- EMPTY_LEVEL_NOT_EMPTY (R13). -/
def execEmptyLevelNotEmpty (k : StoreId) (s : State) : Host.Outcome State Fault Refusal :=
  .next (s.setLevelPin k false)

/-! ### Cashboxes -/

def State.setBoxPin (s : State) (k : Kind) (present : Bool) : State :=
  { s with pins := { s.pins with boxIn := s.pins.boxIn.set k present } }

/-- The sensor reports the box out (R22). -/
def Cashbox.out (b : Cashbox) : Cashbox :=
  { b with present := false,
           stage := match b.stage with
             | .none => .outSeen
             | .outSeen => .outSeen
             | .exchanged => .exchanged }

/-- The sensor reports the box in (R22). -/
def Cashbox.back (b : Cashbox) : Cashbox :=
  { b with present := true,
           stage := match b.stage with
             | .none => .none
             | .outSeen => .exchanged
             | .exchanged => .exchanged }

/-- The skim stroke that runs into the cashbox of a kind. -/
def State.runningSkim (s : State) (k : Kind) : Option Stroke :=
  s.pool.records.find? (fun r => r.owner == .office && r.path == k && r.state == .running)

/-- The skim stroke running into a removed cashbox goes to AFTER-RUN and gives up what it still holds; a
window already open runs on (R23, R128). -/
def State.stopRunningSkim (s : State) (k : Kind) : State :=
  match s.runningSkim k with
  | none => s
  | some r =>
    match (s.store r.store).channel with
    | .driving slot _ =>
      (s.modStore r.store (fun x =>
        { x with channel := .afterRun slot (Config.afterRunMs k) })).release r
          (r.count - r.delivered)
    | .afterRun _ _ => s
    | .idle => s

/-- Every WAITING skim stroke into a cashbox is dropped (R23, R130). -/
def State.dropSkims (s : State) (chosen : Stroke → Bool) : State :=
  s.endStrokes (dropWhere (fun r => r.owner == .office && chosen r))

/-- CASHBOX_OUT (R22, R23). -/
def execCashboxOut (k : Kind) (s : State) : Host.Outcome State Fault Refusal :=
  (s.setBoxPin k false).whileRunning (fun t =>
    (((t.modBox k Cashbox.out).stopRunningSkim k).dropSkims (fun r => r.path == k)).finish)

/-- CASHBOX_IN (R22). -/
def execCashboxIn (k : Kind) (s : State) : Host.Outcome State Fault Refusal :=
  (s.setBoxPin k true).whileRunning (fun t => (t.modBox k Cashbox.back).closeEvent)

end Sys2Proof.Machine
end

