-- ==== Sys2Proof/Machine/Intake.lean ====
section
/-! DEFINITION. The Intake Router (chapter 3): strobes, route decisions, and the confirmation or expiry of
the pieces on their way. -/

namespace Sys2Proof.Machine

/-! ### Strobes -/

/-- HEAD_STROBE (R53): taken by an EMPTY latch; a FULL latch keeps its report. -/
def execHeadStrobe (l : Lane) (k : Kind) (code : ClassCode) (s : State) :
    Host.Outcome State Fault Refusal :=
  s.whileRunning (fun t =>
    match (t.head l k).latch with
    | none => t.setHead l k { latch := some code, answer := none }
    | some _ => t)

/-! ### The route decision (R54–R62) -/

/-- The class tables' translation (R4): class 63 is REJECT whatever its entry holds. -/
def State.translate (s : State) (k : Kind) (code : ClassCode) : Option Denom :=
  if code.val = 63 then none else (s.classes.get k)[code]

/-- Steps 2 and 3: the lane's mode and sale let the piece in, and a sale's tendered stays within the
ceiling (R56). -/
def State.laneTakes (s : State) (l : Lane) (v : Nat) : Bool :=
  match s.mode l with
  | .closed => false
  | .serve =>
    (s.sale l).state == .tendering && decide ((s.sale l).tendered + v ≤ Config.tenderCeiling)
  | .load => true

/-- The fill limit of a store in a lane's mode (R57). -/
def State.fillLimit (s : State) (m : Mode) (k : StoreId) (d : Denom) : Nat :=
  match m with
  | .load => (s.store k).capacity
  | .serve => min (s.store k).capacity (s.marks d).high
  | .closed => min (s.store k).capacity (s.marks d).high

/-- Physical + fill pending (R57). -/
def Store.expected (x : Store) : Nat := x.physical + x.pending

/-- An open store of a denomination: READY with its FILL role, under four pending, not start-held (R59). -/
def State.openStore (s : State) (d : Denom) (k : StoreId) : Bool :=
  s.holds k d && (s.store k).state == .ready && (s.store k).fill &&
    decide ((s.store k).pending < Config.maxPending) && !s.startHeld k

/-- A candidate store (R57). -/
def State.candidate (s : State) (m : Mode) (d : Denom) (k : StoreId) : Bool :=
  s.openStore d k && decide ((s.store k).expected < s.fillLimit m k d)

/-- The one with the lowest physical + fill pending; of equals, the one that comes first (R58). -/
def State.lowestOf (s : State) : List StoreId → Option StoreId
  | [] => none
  | k :: ks =>
    match s.lowestOf ks with
    | none => some k
    | some j => if (s.store k).expected ≤ (s.store j).expected then some k else some j

/-- The store step 4 chooses (R57, R58). -/
def State.chosenStore (s : State) (m : Mode) (d : Denom) : Option StoreId :=
  s.lowestOf (allStores.filter (s.candidate m d))

/-- The counter a lane's mode fixes for a routed piece (R62). -/
def Mode.counter : Mode → FillCounter
  | .load => .loaded
  | .serve => .accepted
  | .closed => .accepted

/-- What a route decision decides (R54). -/
inductive Route where
  /-- Steps 1 to 3: returned, with no notice (R56). -/
  | refuse
  | store (k : StoreId) (d : Denom)
  | cashbox (d : Denom)
  /-- Step 6: nothing could take the piece (R60). -/
  | noRoom
  deriving DecidableEq, Repr

/-- The ordered steps of section 3.2. -/
def State.route (s : State) (l : Lane) (k : Kind) (code : ClassCode) : Route :=
  match s.translate k code with
  | none => .refuse
  | some d =>
    if !s.enabled d then .refuse
    else if !s.laneTakes l (s.value d) then .refuse
    else
      match s.chosenStore (s.mode l) d with
      | some j => .store j d
      | none => if 0 < s.space k then .cashbox d else .noRoom

/-- The answer driven to the head (R54). -/
def Route.answer : Route → Answer
  | .refuse => .giveBack
  | .store k _ => .store k
  | .cashbox _ => .cashbox
  | .noRoom => .giveBack

/-- A piece credited to the sale of a lane in SERVE (R61). -/
def State.creditIfServing (s : State) (l : Lane) (v : Nat) : State :=
  match s.mode l with
  | .serve => s.credit l v
  | .load => s
  | .closed => s

/-- SKIM_ADVISED: a lane in SERVE, at least one open store, and all of them at their fill limit, since
none was a candidate (R59). -/
def State.adviseSkim (s : State) (l : Lane) (d : Denom) : State :=
  if s.mode l == .serve && allStores.any (s.openStore d) then s.officeFlag .skimAdvised true else s

/-- The changes a route carries with it (R58–R62). -/
def State.applyRoute (s : State) (l : Lane) (k : Kind) : Route → State
  | .refuse => s
  | .store j d =>
    (s.modStore j (fun x =>
      { x with fills := x.fills ++
          [{ denom := d, counter := (s.mode l).counter,
             windowMs := Config.routeWindowMs k }] })).creditIfServing l (s.value d)
  | .cashbox d =>
    (((s.modBox k (fun b => b.setCount d (b.countOf d + 1))).book
      (s.mode l).counter.counter d 1).adviseSkim l d).creditIfServing l (s.value d)
  | .noRoom => s.laneFlag l .pieceReturned true

/-- The close of the event: a credited piece may have settled its sale (R33). -/
def Route.close : Route → State → State
  | .refuse, s => s.closeEvent
  | .store _ _, s => s.finish
  | .cashbox _, s => s.finish
  | .noRoom, s => s.closeEvent

/-- ROUTE_DECISION (R54): with an EMPTY latch nothing is decided (log 3). -/
def execRouteDecision (l : Lane) (k : Kind) (s : State) : Host.Outcome State Fault Refusal :=
  s.whileRunning (fun t =>
    match (t.head l k).latch with
    | none => t
    | some code =>
      (t.route l k code).close ((t.applyRoute l k (t.route l k code)).setHead l k
        { latch := none, answer := some (t.route l k code).answer }))

/-! ### Entry confirmation (R65–R68) -/

/-- A stray entry is counted in these states (R67). -/
def StoreState.countsStray : StoreState → Bool
  | .ready => true
  | .paying => true
  | .uncertain => true
  | .disabled => true
  | .jammed => false
  | .absent => false

/-- A confirmed entry is counted in these states; a store reaches no other with a fill pending
(R65; log 20). -/
def StoreState.countsFill : StoreState → Bool
  | .ready => true
  | .uncertain => true
  | .disabled => true
  | .paying => false
  | .jammed => false
  | .absent => false

/-- The head entry of the list is confirmed (R65). -/
def State.confirmFill (s : State) (k : StoreId) (f : Fill) (rest : List Fill) : State :=
  let t := s.modStore k (fun x => { x with fills := rest })
  if !(s.store k).state.countsFill then t
  else if (s.store k).physical < (s.store k).capacity then
    (t.modStore k (fun x => { x with physical := x.physical + 1 })).book f.counter.counter f.denom 1
  else t.markUncertain k

/-- A stray entry (R67).  An UNASSIGNED store counts none; only READY and PAYING stores are marked below
capacity. -/
def State.strayEntry (s : State) (k : StoreId) : State :=
  match (s.store k).denom with
  | none => s
  | some d =>
    if !(s.store k).state.countsStray then s
    else if (s.store k).physical < (s.store k).capacity then
      ((s.modStore k (fun x => { x with physical := x.physical + 1 })).bookAdjusted d 1).markUncertain
        k
    else s.markUncertain k

/-- ENTRY_PULSE (R65, R67). -/
def execEntryPulse (k : StoreId) (s : State) : Host.Outcome State Fault Refusal :=
  s.whileRunning (fun t =>
    match (t.store k).fills with
    | f :: rest => (t.confirmFill k f rest).finish
    | [] => (t.strayEntry k).finish)

/-- ROUTE_WINDOW_EXPIRY (R66): the head entry is booked as taken in and unplaced, and the store is
marked.  With no entry pending nothing expires (log 3). -/
def execRouteWindowExpiry (k : StoreId) (s : State) : Host.Outcome State Fault Refusal :=
  s.whileRunning (fun t =>
    match (t.store k).fills with
    | f :: rest =>
      (((t.modStore k (fun x => { x with fills := rest })).bookUnplaced f).markUncertain k).finish
    | [] => t)

end Sys2Proof.Machine
end

