-- ==== Sys2Proof/Machine/Channels.lean ====
section
/-! DEFINITION. The Store Channels, the paths' own events, and the chutes (chapter 6). -/

namespace Sys2Proof.Machine

/-! ### Re-homing, moves and stroke starts -/

/-- REHOME_COMPLETE (R111): the diverter stands at the cashbox destination and the path is AVAILABLE.  A
path that is not re-homing completes none (log 3). -/
def execRehomeComplete (path : Kind) (s : State) : Host.Outcome State Fault Refusal :=
  s.whileRunning (fun t =>
    match (t.path path).availability with
    | .rehoming _ =>
      (t.modPath path (fun a =>
        { a with availability := .available, position := some (boxDest path) })).finish
    | .available => t)

/-- DIVERTER_MOVE_COMPLETE (R117): the position becomes the move's destination, and a further move may
start. -/
def execDiverterMoveComplete (path : Kind) (s : State) : Host.Outcome State Fault Refusal :=
  s.whileRunning (fun t =>
    match (t.path path).move with
    | none => t
    | some m =>
      (t.modPath path (fun a =>
        { a with move := none, position := some m.dest })).startMove path)

/-- The latched stroke may start (R118). -/
def State.mayStart (s : State) (path : Kind) (x : Latch) : Bool :=
  s.pathAvailable path && (s.path path).move.isNone && (s.path path).position == some x.dest &&
    (s.store x.store).state == .ready && (s.store x.store).fills.isEmpty

/-- A stroke starts on its store (R11, R118, R119). -/
def Store.start (x : Store) (slot : SlotId) (deadlineMs : Nat) : Store :=
  { x with state := .paying, inFlight := true, channel := .driving slot deadlineMs }

/-- The count of the record in a slot; 0 for a free slot. -/
def State.slotCount (s : State) (slot : SlotId) : Nat :=
  match s.record? slot with
  | some r => r.count
  | none => 0

/-- STROKE_START (R118), an event of its own (log 15): where the conditions do not hold nothing starts. -/
def execStrokeStart (path : Kind) (s : State) : Host.Outcome State Fault Refusal :=
  s.whileRunning (fun t =>
    match (t.path path).latch with
    | none => t
    | some x =>
      if t.mayStart path x then
        (((t.modRecord x.slot (fun r => { r with state := .running })).modStore x.store
          (fun y => y.start x.slot (Config.deadlineMs path (t.slotCount x.slot)))).modPath path
            (fun a => { a with latch := none })).closeEvent
      else t)

/-! ### Piece pulses -/

/-- One piece of a stroke reaches its destination: the sale is paid, or the cashbox counts it, and the
Totals Unit books it (R40, R120, R122).  A skim piece that is an over-pay is counted by R123 instead. -/
def State.countedPiece (s : State) (r : Stroke) (d : Denom) : State :=
  match r.owner with
  | .lane l => (s.modSale l (fun x => x.payPiece d (s.value d) false)).book .paid d 1
  | .office =>
    (s.modBox r.path (fun b =>
      { b.setCount d (b.countOf d + 1) with promised := b.promised - 1 })).book .skimmed d 1

/-- A piece of a DRIVING stroke (R120); the one that completes the count opens the after-run window
(R121). -/
def State.drivePiece (s : State) (k : StoreId) (r : Stroke) (d : Denom) : State :=
  let t := ((s.modRecord r.slot (fun x => { x with delivered := x.delivered + 1 })).modStore k
    (fun x => { x with physical := x.physical - 1, reserved := x.reserved - 1 })).countedPiece r d
  if r.delivered + 1 < r.count then t
  else t.modStore k (fun x =>
    { x with channel := .afterRun r.slot (Config.afterRunMs (storeKind k)) })

/-- An over-pay skim piece in its cashbox, keeping count + promised within capacity (R123).  A stroke it
lowers to 0 is dropped by the caller. -/
def State.boxOverPay (s : State) (k : Kind) (d : Denom) : State :=
  let b := s.box k
  let counted := s.modBox k (fun b => b.setCount d (b.countOf d + 1))
  if b.count + b.promised < b.capacity then counted
  else if 0 < b.promised then
    match s.pool.latest? (fun r => r.owner == .office && r.path == k) with
    | some r => counted.lowerStroke r
    | none => counted.modBox k (fun b => { b with promised := b.promised - 1 })
  else if b.capacity < Config.maxBoxCapacity then
    counted.modBox k (fun b => { b with capacity := b.count })
  else s.bookAdjusted d (-1)

/-- Where an over-pay piece goes (R40, R122, R123). -/
def State.overPaidPiece (s : State) (r : Stroke) (d : Denom) : State :=
  match r.owner with
  | .lane l => (s.modSale l (fun x => x.payPiece d (s.value d) true)).book .paid d 1
  | .office => (s.boxOverPay r.path d).book .skimmed d 1

/-- A reservation deficit is taken from the WAITING stroke on the store that was planned last (R124). -/
def State.absorbDeficit (s : State) (k : StoreId) : State :=
  if (s.store k).physical < (s.store k).reserved then
    match s.pool.latest? (fun r => r.store == k) with
    | some r => s.lowerStroke r
    | none => s
  else s

/-- An over-pay piece (R122): out of the counted pieces, or found and paid at once at physical 0, which
marks the store. -/
def State.overPay (s : State) (k : StoreId) (r : Stroke) (d : Denom) : State :=
  if 0 < (s.store k).physical then
    (((s.modStore k (fun x => { x with physical := x.physical - 1 })).overPaidPiece r d).absorbDeficit
      k).dropEmptied
  else (((s.bookAdjusted d 1).overPaidPiece r d).markUncertain k).dropEmptied

/-- An unbidden piece (R16). -/
def State.unbidden (s : State) (k : StoreId) : State :=
  let counted :=
    if 0 < (s.store k).physical then
      (s.modStore k (fun x => { x with physical := x.physical - 1 })).bookAdjustedStore k (-1)
    else s
  match (s.store k).state with
  | .ready => counted.markUncertain k
  | .uncertain => counted
  | .disabled => counted
  | .jammed => s
  | .absent => s
  | .paying => s

/-- The record and denomination a channel's slot pays from. -/
def State.channelStroke (s : State) (k : StoreId) (slot : SlotId) : Option (Stroke × Denom) :=
  match s.record? slot, (s.store k).denom with
  | some r, some d => some (r, d)
  | some _, none => none
  | none, _ => none

/-- PIECE_PULSE (R16, R120, R122). -/
def execPiecePulse (k : StoreId) (s : State) : Host.Outcome State Fault Refusal :=
  s.whileRunning (fun t =>
    match (t.store k).channel with
    | .idle => (t.unbidden k).finish
    | .driving slot _ =>
      match t.channelStroke k slot with
      | some (r, d) => (t.drivePiece k r d).closeEvent
      | none => t
    | .afterRun slot _ =>
      match t.channelStroke k slot with
      | some (r, d) => (t.overPay k r d).finish
      | none => t)

/-! ### The ends of a stroke -/

/-- A store at the normal end of its stroke: READY, or UNCERTAIN if it was marked (R11, R12). -/
def Store.ended (x : Store) : Store :=
  { x with state := if x.marked then .uncertain else .ready, inFlight := false, marked := false,
           channel := .idle }

/-- A store whose stroke ends on its deadline (R11, R125). -/
def Store.jam (x : Store) : Store :=
  { x with state := .jammed, inFlight := false, marked := false, channel := .idle }

/-- AFTER_RUN_WINDOW_CLOSE (R121, R23): the stroke ends DONE; a marked store drops its WAITING strokes
(R12).  With no window open nothing closes (log 3). -/
def execAfterRunWindowClose (k : StoreId) (s : State) : Host.Outcome State Fault Refusal :=
  s.whileRunning (fun t =>
    match (t.store k).channel with
    | .idle => t
    | .driving _ _ => t
    | .afterRun slot _ =>
      ((t.endStrokes (endOnStore (some slot) k (t.store k).marked true)).modStore k
        Store.ended).finish)

/-- STROKE_DEADLINE_EXPIRY (R125): the stroke jams and the store's WAITING strokes are dropped (R126).  With no
deadline running nothing expires (log 3). -/
def execStrokeDeadlineExpiry (k : StoreId) (s : State) : Host.Outcome State Fault Refusal :=
  s.whileRunning (fun t =>
    match (t.store k).channel with
    | .idle => t
    | .afterRun _ _ => t
    | .driving slot _ =>
      ((t.endStrokes (endOnStore (some slot) k true false)).modStore k Store.jam).finish)

/-! ### Chutes, the present timer and the key -/

def State.setChutePin (s : State) (l : Lane) (k : Kind) (occupied : Bool) : State :=
  { s with pins := { s.pins with
      chuteOccupied := s.pins.chuteOccupied.set l ((s.pins.chuteOccupied.get l).set k occupied) } }

/-- A presenter that reports empty closes (R131). -/
def State.shutPresenter (s : State) (l : Lane) (k : Kind) (occupied : Bool) : State :=
  if k == .note && !occupied then { s with presenterOpen := s.presenterOpen.set l false } else s

/-- CHUTE_SENSOR_CHANGE (R45, R116, R131). -/
def execChuteSensorChange (l : Lane) (k : Kind) (occupied : Bool) (s : State) :
    Host.Outcome State Fault Refusal :=
  (s.setChutePin l k occupied).whileRunning (fun t =>
    ((t.shutPresenter l k occupied).closeIfClear l).finish)

/-- The present timer runs out (R46). -/
def Sale.expireTimer (x : Sale) : Sale :=
  match x.timer with
  | .running _ => { x with timer := .expired }
  | .stopped => x
  | .expired => x

/-- PRESENT_TIMER_EXPIRY (R46). -/
def execPresentTimerExpiry (l : Lane) (s : State) : Host.Outcome State Fault Refusal :=
  s.whileRunning (fun t => (t.modSale l Sale.expireTimer).closeEvent)

/-- MANAGER_KEY_CHANGE (R167): the key line's position is the lane port's level; no notice changes. -/
def execManagerKeyChange (l : Lane) (turned : Bool) (s : State) : Host.Outcome State Fault Refusal :=
  .next { s with pins := { s.pins with keyTurned := s.pins.keyTurned.set l turned } }

end Sys2Proof.Machine
end

