-- ==== Sys2Proof/Machine/Operands.lean ====
section
/-! DEFINITION. The reply of a request and the byte layouts of the records returned on the link
(R174, R176, R178–R182). -/

namespace Sys2Proof.Machine

/-- What a request answers: a status, and a payload where it was performed (R174). -/
structure Response where
  status : Status
  payload : List Byte
  deriving DecidableEq, Repr

/-- Refused: a status and no payload (R174). -/
def refuse (status : Status) : Response := { status := status, payload := [] }

/-- Performed, with a payload. -/
def answer (payload : List Byte) : Response := { status := .ok, payload := payload }

/-- Performed, with no payload. -/
def done : Response := answer []

/-- Taken; its work goes on after the reply (R175). -/
def accepted : Response := { status := .accepted, payload := [] }

/-! ### Codes of R176 -/

def Status.code : Status → Byte
  | .ok => 0x00
  | .accepted => 0x01
  | .overrun => 0x02
  | .check => 0x10
  | .unknown => 0x11
  | .level => 0x12
  | .range => 0x13
  | .state => 0x14
  | .unread => 0x15
  | .notEnough => 0x16
  | .holdsStock => 0x17

/-- The frame of a reply to a request code: start marker, length, reply code, status, payload, and the check byte
that makes the sum from the length byte on 0 (R171, R174). -/
def replyFrame (code : Byte) (status : Status) (payload : List Byte) : List Byte :=
  let counted := field 1 (payload.length + 2) ++ [code + 0x80, status.code] ++ payload
  0xA5 :: counted ++ [0 - counted.foldl (· + ·) 0]

def SaleState.code : SaleState → Byte
  | .idle => 0
  | .tendering => 1
  | .planning => 2
  | .paying => 3
  | .presented => 4

def SaleOutcome.code : SaleOutcome → Byte
  | .paid => 1
  | .short => 2
  | .refunded => 3
  | .halted => 4
  | .cancelled => 5
  | .interrupted => 6

def TargetKind.code : TargetKind → Byte
  | .none => 0
  | .change => 1
  | .refund => 2

def SettleResult.code : SettleResult → Byte
  | .none => 0
  | .exact => 1
  | .short => 2
  | .noExact => 3
  | .stockChanged => 4

def StoreState.code : StoreState → Byte
  | .ready => 0
  | .paying => 1
  | .jammed => 2
  | .uncertain => 3
  | .absent => 4
  | .disabled => 5

def Dest.code : Dest → Byte
  | .cup .one => 0
  | .cup .two => 1
  | .pres .one => 2
  | .pres .two => 3
  | .coinBox => 4
  | .noteBox => 5

def Origin.code : Origin → Byte
  | .main => 0
  | .makeup => 1

def StrokeState.code : StrokeState → Byte
  | .waiting => 0
  | .running => 1
  | .done => 2
  | .dropped => 3

def Stage.code : Stage → Byte
  | .none => 0
  | .outSeen => 1
  | .exchanged => 2

/-- A lane mode as received (R176). -/
def readMode (b : Byte) : Option Mode :=
  if b = 0 then some .closed else if b = 1 then some .serve else if b = 2 then some .load else none

def OfficeNotice.code : OfficeNotice → Byte
  | .recovered => 0x01
  | .jam => 0x02
  | .cassette => 0x03
  | .cashboxFull => 0x04
  | .shiftInexact => 0x05
  | .stockLow => 0x06
  | .skimAdvised => 0x07
  | .profileSwitched => 0x08

def LaneNotice.code : LaneNotice → Byte
  | .completionReady => 0x11
  | .presentOverdue => 0x12
  | .settleRefused => 0x13
  | .chuteOccupied => 0x14
  | .pieceReturned => 0x15
  | .tenderReached => 0x16
  | .lowChange => 0x17

/-- The office's notices, highest priority first (R160). -/
def officeOrder : List OfficeNotice :=
  [.recovered, .jam, .cassette, .cashboxFull, .shiftInexact, .stockLow, .skimAdvised,
    .profileSwitched]

/-- A lane's notices, highest priority first (R161). -/
def laneOrder : List LaneNotice :=
  [.completionReady, .presentOverdue, .settleRefused, .chuteOccupied, .pieceReturned,
    .tenderReached, .lowChange]

/-- A notice byte as received on the office port; one outside the port's set is out of range (R164). -/
def readOfficeNotice (b : Byte) : Option OfficeNotice := officeOrder.find? (fun n => n.code == b)

def readLaneNotice (b : Byte) : Option LaneNotice := laneOrder.find? (fun n => n.code == b)

/-- A denomination field with 0xFF for UNASSIGNED (R176). -/
def denomByte : Option Denom → Byte
  | some d => BitVec.ofNat 8 d.val
  | none => 0xFF

def indexByte (d : Fin 12) : Byte := BitVec.ofNat 8 d.val

/-! ### Layouts (R178–R182) -/

/-- READ TENDER, 28 bytes (R178). -/
def Sale.tenderBytes (x : Sale) : List Byte :=
  [x.state.code] ++ bigEndian 2 x.sequence.toNat ++ field 2 x.due ++ field 3 x.tendered ++
    [twoFlags x.autoSettle x.acceptShort, x.targetKind.code] ++ field 3 x.target ++
    field 3 x.paid ++ field 3 x.overpay ++ field 3 x.shortfall ++ field 3 x.owed ++
    field 1 x.coinsCommitted ++ field 1 x.notesCommitted ++ [x.lastResult.code]

/-- One used denomination of READ STOCK (R24, R178). -/
def State.stockEntry (s : State) (d : Denom) : List Byte :=
  [indexByte d] ++ field 2 (s.value d) ++ [(s.denom d).kind.code, flagByte (s.denom d).enabled] ++
    field 2 (s.freeStock d) ++ [flagByte (s.atLow d)]

/-- READ STOCK (R24, R178). -/
def State.stockBytes (s : State) : List Byte :=
  let used := allDenoms.filter s.used
  field 1 used.length ++ (used.map s.stockEntry).flatten

/-- READ COMPLETION: a record (R179). -/
def Completion.bytes (c : Completion) (l : Lane) : List Byte :=
  [l.code] ++ bigEndian 2 c.sequence.toNat ++ [c.outcome.code] ++ field 2 c.due ++
    field 3 c.tendered ++ field 3 c.target ++ field 3 c.paid ++ field 3 c.overpay ++
    field 3 c.shortfall ++ field 1 c.pieces.length ++
    (c.pieces.map (fun e => indexByte e.1 :: field 2 e.2)).flatten

/-- READ COMPLETION: the empty record (R50, R179). -/
def emptyCompletionBytes (l : Lane) : List Byte := l.code :: List.replicate 21 0

/-- The slot of the record that follows a record in its chain, or 0xFF for END (R97, R180). -/
def nextByte : List Stroke → Byte
  | [] => 0xFF
  | r :: _ => BitVec.ofNat 8 r.slot.val

/-- One stroke record, 12 bytes (R180). -/
def Stroke.bytes (r : Stroke) (behind : List Stroke) : List Byte :=
  [BitVec.ofNat 8 r.slot.val, r.owner.code, r.path.code, indexByte r.store] ++ field 2 r.count ++
    field 2 r.delivered ++ [r.dest.code, r.origin.code, r.state.code, nextByte behind]

/-- The live records of a chain in link order (R180). -/
def chainBytes : List Stroke → List Byte
  | [] => []
  | r :: rs => r.bytes rs ++ chainBytes rs

/-- A chain section: its tally, its number of live records, and the records (R180). -/
def State.sectionBytes (s : State) (o : Owner) (k : Kind) : List Byte :=
  field 2 (s.tally o k).done ++ field 2 (s.tally o k).cutShort ++ field 2 (s.tally o k).dropped ++
    field 2 (s.tally o k).delivered ++ field 1 (s.pool.chain o k).length ++
    chainBytes (s.pool.chain o k)

/-- READ PLAN: the coin chain, then the note chain (R107, R180). -/
def State.planBytes (s : State) (o : Owner) : List Byte :=
  s.sectionBytes o .coin ++ s.sectionBytes o .note

/-- READ STORE of a store (R181). -/
def State.storeBytes (s : State) (k : StoreId) : List Byte :=
  [indexByte k, denomByte (s.store k).denom] ++ field 2 (s.store k).capacity ++
    field 2 (s.store k).physical ++ field 2 (s.store k).reserved ++ field 2 (s.store k).free ++
    [(s.store k).state.code, twoFlags (s.store k).pay (s.store k).fill] ++
    field 1 (s.store k).pending ++ [flagByte (s.store k).inFlight]

/-- The record index of a cashbox (R24). -/
def boxIndex : Kind → Byte
  | .coin => 12
  | .note => 13

/-- READ STORE of a cashbox (R181). -/
def State.boxBytes (s : State) (k : Kind) : List Byte :=
  let listed := allDenoms.filter (fun d => s.used d && (s.denom d).kind == k)
  [boxIndex k, flagByte (s.box k).present] ++ field 2 (s.box k).capacity ++
    field 2 (s.box k).count ++ field 2 (s.box k).promised ++ field 2 (s.space k) ++
    [(s.box k).stage.code] ++ field 1 (Config.headroom k) ++ field 1 listed.length ++
    (listed.map (fun d => indexByte d :: field 2 ((s.box k).countOf d))).flatten

/-- The holdings the identity of R149 gives. -/
def Counters.expected (c : Counters) (opening : Nat) : Int :=
  (opening : Int) + c.accepted + c.loaded + c.retracted + c.adjusted - c.paid - c.emptied -
    c.removed - c.unplaced

/-- The imbalance (R151). -/
def ShiftLine.imbalance (x : ShiftLine) : Int := (x.holdings : Int) - x.counters.expected x.opening

/-- The nine counters, 4 bytes each (R182). -/
def Counters.bytes (c : Counters) : List Byte :=
  field 4 c.accepted ++ field 4 c.loaded ++ field 4 c.paid ++ field 4 c.retracted ++
    field 4 c.skimmed ++ field 4 c.emptied ++ field 4 c.removed ++ field 4 c.unplaced ++
    signedField 4 c.adjusted

/-- The nine counter values, 6 bytes each (R152, R182). -/
def Counters.valueBytes (c : Counters) (v : Nat) : List Byte :=
  field 6 (c.accepted * v) ++ field 6 (c.loaded * v) ++ field 6 (c.paid * v) ++
    field 6 (c.retracted * v) ++ field 6 (c.skimmed * v) ++ field 6 (c.emptied * v) ++
    field 6 (c.removed * v) ++ field 6 (c.unplaced * v) ++ signedField 6 (c.adjusted * v)

/-- READ TOTALS, 115 bytes (R151, R182). -/
def ShiftLine.bytes (x : ShiftLine) (record : Byte) (d : Denom) (inexact : Bool) (shift : Word16) :
    List Byte :=
  [record, indexByte d, flagByte inexact] ++ bigEndian 2 shift.toNat ++ field 2 x.value ++
    field 3 x.opening ++ field 3 x.holdings ++ x.counters.bytes ++ x.counters.valueBytes x.value ++
    field 6 (x.holdings * x.value) ++ signedField 6 x.imbalance

/-- The bits of some flags, bit 0 first. -/
def bitsOf : List Bool → Nat
  | [] => 0
  | b :: bs => (if b then 1 else 0) + 2 * bitsOf bs

/-- READ NOTICES on the office port (R163, R182). -/
def OfficeNotices.bytes (n : OfficeNotices) : List Byte :=
  let set := officeOrder.filter n.flags.get
  field 1 set.length ++ set.map OfficeNotice.code ++
    field 1 (bitsOf (officeOrder.map n.enables.get)) ++ [flagByte n.line]

/-- READ NOTICES on a lane port (R163, R182).  A lane has seven flags: bit 7 of the enables byte is sent as 0
(DESIGN CHOICE, log 31). -/
def LaneNotices.bytes (n : LaneNotices) : List Byte :=
  let set := laneOrder.filter n.flags.get
  field 1 set.length ++ set.map LaneNotice.code ++
    field 1 (bitsOf (laneOrder.map n.enables.get)) ++ [flagByte n.line]

def Marks.bytes (m : Marks) : List Byte := field 2 m.low ++ field 2 m.target ++ field 2 m.high

/-- READ PROFILE, 73 bytes (R178). -/
def profileBytes (armed : Bool) (marks : Vector Marks 12) : List Byte :=
  flagByte armed :: (allDenoms.map (fun d => marks[d].bytes)).flatten

/-- The six values of WRITE LIMITS as held, in the layout of its request (R177, R178). -/
def State.limitBytes (s : State) : List Byte :=
  field 1 s.limits.coinLimit ++ field 1 s.limits.noteLimit ++ field 1 s.limits.roundingUnit ++
    field 2 s.limits.presentTimeout ++ field 2 (s.box .coin).capacity ++
    field 2 (s.box .note).capacity

end Sys2Proof.Machine
end

