-- ==== Sys2Proof/Machine/SaleRequests.lean ====
section
/-! DEFINITION. What the sale, plan and lane-mode requests do once they are taken and have passed steps 1 to
5 of R173 (chapters 2 and 5).  A request that is refused changes nothing. -/

namespace Sys2Proof.Machine

/-! ### Sale requests -/

/-- The sale context of a newly opened sale (R31). -/
def Sale.opened (x : Sale) (due : Nat) (autoSettle acceptShort : Bool) : Sale :=
  { Sale.idle (x.sequence + 1) with
    state := .tendering, due := due, autoSettle := autoSettle, acceptShort := acceptShort }

/-- OPEN SALE (R31): the tallies of the lane are set to 0 (R105). -/
def openSale (l : Lane) (payload : List Byte) (s : State) : State × Response :=
  match payload with
  | [hi, lo, flags] =>
    if s.mode l ≠ .serve ∨ (s.sale l).state ≠ .idle then (s, refuse .state)
    else if (s.slot l).isSome then (s, refuse .unread)
    else
      match readTwoFlags flags with
      | none => (s, refuse .range)
      | some (autoSettle, acceptShort) =>
        if numberOf [hi, lo] = 0 then (s, refuse .range)
        else
          let t := (((s.modSale l (fun x =>
            x.opened (numberOf [hi, lo]) autoSettle acceptShort)).clearTallies (.lane l)).closeEvent)
          (t, answer (bigEndian 2 (t.sale l).sequence.toNat))
  | _ => (s, refuse .range)

/-- READ TENDER (R32). -/
def readTender (l : Lane) (s : State) : State × Response := (s, answer (s.sale l).tenderBytes)

/-- SETTLE's flag byte: ACCEPT_SHORT in bit 1, no other bit (R177). -/
def readSettleFlag (b : Byte) : Option Bool :=
  if b = 0 then some false else if b = 2 then some true else none

/-- A settle in TENDERING with its due tendered (R34). -/
def State.settleNow (s : State) (l : Lane) (acceptShort : Bool) : State :=
  (s.modSale l (fun x => { x with acceptShort := x.acceptShort || acceptShort })).beginSettle l

/-- SETTLE (R34, R35): OK where the sale closed at target 0, ACCEPTED where a settle was placed. -/
def settle (l : Lane) (payload : List Byte) (s : State) : State × Response :=
  match payload with
  | [b] =>
    match readSettleFlag b with
    | none => (s, refuse .range)
    | some acceptShort =>
      if (s.sale l).state ≠ .tendering then (s, refuse .state)
      else
        let t := s.laneFlag l .settleRefused false
        if (s.sale l).tendered < (s.sale l).due then (t.closeEvent, refuse .notEnough)
        else
          let u := t.settleNow l acceptShort
          (u.finish, if (u.sale l).state = .planning then accepted else done)
  | _ => (s, refuse .range)

/-- The lane's settle stands in its slot of the waiting set (R38). -/
def State.settleWaits (s : State) (l : Lane) : Bool :=
  s.planner.waitingLane.get l == some .settle

/-- CANCEL SALE (R37, R38). -/
def cancelSale (l : Lane) (s : State) : State × Response :=
  match (s.sale l).state with
  | .tendering =>
    if (s.sale l).tendered = 0 then ((s.closeSale l .cancelled).finish, done)
    else ((s.beginRefund l).finish, accepted)
  | .planning =>
    if (s.sale l).targetKind = .change ∧ (s.sale l).cancelPending = false then
      (if s.settleWaits l then ((s.beginRefund l).finish, accepted)
       else ((s.modSale l (fun x => { x with cancelPending := true })).closeEvent, accepted))
    else (s, refuse .state)
  | .idle => (s, refuse .state)
  | .paying => (s, refuse .state)
  | .presented => (s, refuse .state)

/-- The sale's owed goes to shortfall (R44). -/
def Sale.halt (x : Sale) : Sale :=
  { x with haltPending := true, shortfall := x.shortfall + x.owed, owed := 0 }

/-- A waiting make-up of the lane is withdrawn (R44, R72). -/
def State.withdrawMakeup (s : State) (l : Lane) : State :=
  if s.planner.waitingLane.get l = some .makeup then s.placeLane l none else s

/-- HALT PAYOUT (R44, R130): the lane's WAITING strokes are dropped into shortfall. -/
def haltPayout (l : Lane) (s : State) : State × Response :=
  if (s.sale l).state ≠ .paying then (s, refuse .state)
  else if (s.sale l).haltPending then (s, done)
  else
    ((((s.modSale l Sale.halt).withdrawMakeup l).endStrokes
      (dropWhere (fun r => r.owner == .lane l))).finish, done)

/-- COLLECT (R45). -/
def collect (l : Lane) (s : State) : State × Response :=
  if (s.sale l).state = .presented then
    ((s.closeSale l (s.sale l).presentedOutcome).finish, done)
  else (s, refuse .state)

/-- The notes of a sale's pieces paid (R47). -/
def State.bundle (s : State) (l : Lane) : Nat :=
  ((s.noteDenoms l).map (s.sale l).paidPieces).sum

/-- One note denomination of the bundle goes into the note cashbox (R20, R47). -/
def State.retractOne (l : Lane) (s : State) (d : Denom) : State :=
  let n := (s.sale l).paidPieces d
  ((s.modBox .note (fun b => b.setCount d (b.countOf d + n))).book .retracted d n).modSale l
    (fun x =>
      { x with paid := x.paid - n * s.value d, shortfall := x.shortfall + n * s.value d,
               retracted := true }.setPieces d 0)

/-- RETRACT NOTES (R47): the presenter closes on the bundle (R131). -/
def retractNotes (l : Lane) (s : State) : State × Response :=
  if (s.sale l).state ≠ .presented then (s, refuse .state)
  else if !(s.pins.chuteOccupied.get l).note || (s.noteDenoms l).isEmpty then (s, refuse .state)
  else if !(s.box .note).present ||
      (s.box .note).capacity < (s.box .note).count + (s.box .note).promised + s.bundle l then
    (s, refuse .state)
  else
    let t := (s.noteDenoms l).foldl (State.retractOne l) s
    ({ t with presenterOpen := t.presenterOpen.set l false }.closeEvent, done)

/-- READ COMPLETION (R50, R188). -/
def readCompletion (l : Lane) (s : State) : State × Response :=
  match s.slot l with
  | some c => (((s.setSlot l none).laneFlag l .completionReady false).closeEvent, answer (c.bytes l))
  | none => (s, answer (emptyCompletionBytes l))

/-- READ STOCK (R24). -/
def readStock (s : State) : State × Response := (s, answer s.stockBytes)

/-- READ PLAN: the requesting lane's chains, or those of the owner the office names (R107, R108). -/
def readPlan (p : Port) (payload : List Byte) (s : State) : State × Response :=
  match p, payload with
  | .lane l, [] => (s, answer (s.planBytes (.lane l)))
  | .office, [b] =>
    match readOwner b with
    | some o => (s, answer (s.planBytes o))
    | none => (s, refuse .range)
  | _, _ => (s, refuse .range)

/-! ### Lane modes -/

/-- A report latched and not yet routed is answered RETURN (R29, R55). -/
def Head.clear (h : Head) : Head :=
  match h.latch with
  | some _ => { latch := none, answer := some .giveBack }
  | none => h

/-- A lane's mode changes, with the effects of R29. -/
def State.changeMode (s : State) (l : Lane) (m : Mode) : State :=
  (((((s.setMode l m).setHead l .coin (s.head l .coin).clear).setHead l .note
    (s.head l .note).clear).laneFlag l .settleRefused false).laneFlag l .pieceReturned
      false).closeEvent

/-- A mode change that has passed its checks: naming the present mode changes nothing (R27, R28). -/
def State.enterMode (s : State) (l : Lane) (m : Mode) : State :=
  if s.mode l = m then s else s.changeMode l m

/-- SET LANE MODE from a lane port (R27). -/
def setModeFromLane (l : Lane) (b : Byte) (s : State) : State × Response :=
  match readMode b with
  | none => (s, refuse .range)
  | some m =>
    if m = .load ∨ s.mode l = .load then (s, refuse .level)
    else if (s.sale l).state ≠ .idle then (s, refuse .state)
    else (s.enterMode l m, done)

/-- SET LANE MODE from the office port (R28). -/
def setModeFromOffice (lane mode : Byte) (s : State) : State × Response :=
  match readLane lane, readMode mode with
  | some l, some m =>
    if (s.sale l).state ≠ .idle then (s, refuse .state) else (s.enterMode l m, done)
  | some _, none => (s, refuse .range)
  | none, _ => (s, refuse .range)

/-- SET LANE MODE (R27–R29, R169). -/
def setLaneMode (p : Port) (payload : List Byte) (s : State) : State × Response :=
  match p, payload with
  | .lane l, [m] => setModeFromLane l m s
  | .office, [l, m] => setModeFromOffice l m s
  | _, _ => (s, refuse .range)

end Sys2Proof.Machine
end

