-- ==== Sys2Proof/Machine/StockRequests.lean ====
section
/-! DEFINITION. The office's requests on the Inventory Table, the skims and the profiles once they are taken
and have passed steps 1 to 5 of R173 (chapters 1, 4 and 7).  A request that is refused changes
nothing. -/

namespace Sys2Proof.Machine

/-! ### Set-up (R2, R5, R81, R146) -/

/-- Another used entry has the same value and kind (R2). -/
def State.clashes (s : State) (d : Denom) (value : Nat) (kind : Kind) : Bool :=
  allDenoms.any (fun e =>
    e != d && s.used e && s.value e == value && (s.denom e).kind == kind)

/-- A store or a cashbox holds pieces of the denomination (R2). -/
def State.hasPieces (s : State) (d : Denom) : Bool :=
  allStores.any (fun k => s.holds k d && (s.store k).physical != 0) ||
    (s.box .coin).countOf d != 0 || (s.box .note).countOf d != 0

/-- A store is assigned to the denomination (R2). -/
def State.isAssigned (s : State) (d : Denom) : Bool := allStores.any (fun k => s.holds k d)

/-- Every class entry that names the denomination becomes REJECT (R2). -/
def State.rejectClasses (s : State) (d : Denom) : State :=
  { s with classes :=
      { coin := mapTable (fun e => if e = some d then none else e) s.classes.coin
        note := mapTable (fun e => if e = some d then none else e) s.classes.note } }

/-- The three fields are written (R2). -/
def State.writeEntry (s : State) (d : Denom) (value : Nat) (kind : Kind) (enabled : Bool) : State :=
  let t := s.setDenom d { value := value, kind := kind, enabled := enabled }
  if value = 0 ∨ kind ≠ (s.denom d).kind then t.rejectClasses d else t

/-- WRITE DENOMINATION (R2), its checks in the rule's order. -/
def writeDenomination (payload : List Byte) (s : State) : State × Response :=
  match payload with
  | [index, hi, lo, kindByte, enabledByte] =>
    let value := numberOf [hi, lo]
    if !s.bothClosed then (s, refuse .state)
    else
      match readIndex index, readKind kindByte, readFlag enabledByte with
      | some d, some kind, some enabled =>
        if Config.maxValue < value then (s, refuse .range)
        else if value ≠ 0 && s.clashes d value kind then (s, refuse .range)
        else if (value ≠ s.value d ∨ kind ≠ (s.denom d).kind) ∧ s.hasPieces d then
          (s, refuse .holdsStock)
        else if (value = 0 ∨ kind ≠ (s.denom d).kind) ∧ s.isAssigned d then (s, refuse .state)
        else ((s.writeEntry d value kind enabled).closeEvent, done)
      | _, _, _ => (s, refuse .range)
  | _ => (s, refuse .range)

/-- A used denomination of a kind (R5, R146). -/
def State.usedOfKind (s : State) (d : Denom) (k : Kind) : Bool := s.used d && (s.denom d).kind == k

/-- A class entry may be REJECT or a used denomination of the table's kind (R5). -/
def State.entryAllowed (s : State) (k : Kind) : Option Denom → Bool
  | none => true
  | some d => s.usedOfKind d k

/-- The entry of a class code in one table. -/
def State.setClass (s : State) (k : Kind) (code : ClassCode) (entry : Option Denom) : State :=
  { s with classes := s.classes.set k ((s.classes.get k).set code.val entry code.isLt) }

/-- A class code as received, at most 62 (R5). -/
def readClass (b : Byte) : Option ClassCode :=
  if h : b.toNat < 63 then some ⟨b.toNat, by omega⟩ else none

/-- WRITE CLASS ENTRY (R5). -/
def writeClassEntry (payload : List Byte) (s : State) : State × Response :=
  match payload with
  | [table, code, entry] =>
    if !s.bothClosed then (s, refuse .state)
    else
      match readKind table, readClass code, readIndexOrNone entry with
      | some k, some c, some e =>
        if s.entryAllowed k e then ((s.setClass k c e).closeEvent, done) else (s, refuse .range)
      | _, _, _ => (s, refuse .range)
  | _ => (s, refuse .range)

/-- The store's state after ASSIGN STORE (R146). -/
def Store.stateAfterAssign (x : Store) (d : Option Denom) : StoreState :=
  match x.state with
  | .absent => .absent
  | .disabled => .disabled
  | .ready => if d.isNone then .disabled else if d = x.denom then .ready else .uncertain
  | .uncertain => if d.isNone then .disabled else .uncertain
  | .jammed => if d.isNone then .disabled else .jammed
  | .paying => .paying

/-- A denomination a store may hold: UNASSIGNED, or a used one of the store's kind (R146). -/
def State.assignable (s : State) (k : StoreId) : Option Denom → Bool
  | none => true
  | some d => s.usedOfKind d (storeKind k)

/-- ASSIGN STORE (R146), its checks in the rule's order. -/
def assignStore (payload : List Byte) (s : State) : State × Response :=
  match payload with
  | [storeByte, denomination, hi, lo, roles] =>
    let capacity := numberOf [hi, lo]
    if !s.bothClosed then (s, refuse .state)
    else
      match readIndex storeByte, readIndexOrNone denomination, readTwoFlags roles with
      | some k, some d, some (pay, fill) =>
        if capacity = 0 ∨ Config.maxCapacity < capacity ∨ !s.assignable k d then
          (s, refuse .range)
        else if (s.store k).physical ≠ 0 then (s, refuse .holdsStock)
        else if (s.store k).pending ≠ 0 then (s, refuse .state)
        else if (s.store k).state = .paying then (s, refuse .state)
        else
          ((s.modStore k (fun x =>
            { x with denom := d, capacity := capacity, pay := pay, fill := fill,
                     state := x.stateAfterAssign d })).closeEvent, done)
      | _, _, _ => (s, refuse .range)
  | _ => (s, refuse .range)

/-- A number taken to the nearer end of a range. -/
def clampTo (low high n : Nat) : Nat := max low (min high n)

/-- The rounding unit nearest to a value written; of two as near, the lower (R76). -/
def nearestUnit (n : Nat) : Nat := if n ≤ 3 then 1 else if n ≤ 7 then 5 else 10

/-- The least capacity of a cashbox: one piece beyond its headroom (R19, R20). -/
def leastCapacity (k : Kind) : Nat := Config.headroom k + 1

/-- A cashbox capacity as held: clamped, and raised to what the box holds (R19, R20). -/
def Cashbox.heldCapacity (b : Cashbox) (k : Kind) (n : Nat) : Nat :=
  max (clampTo (leastCapacity k) Config.maxBoxCapacity n) (b.count + b.promised)

/-- WRITE LIMITS (R46, R76, R80, R81). -/
def writeLimits (payload : List Byte) (s : State) : State × Response :=
  match payload with
  | [coins, notes, unit, t1, t0, c1, c0, n1, n0] =>
    if !s.bothClosed then (s, refuse .state)
    else
      let limits : Limits :=
        { coinLimit := clampTo 1 60 coins.toNat, noteLimit := clampTo 1 30 notes.toNat,
          roundingUnit := nearestUnit unit.toNat,
          presentTimeout := clampTo 10 300 (numberOf [t1, t0]) }
      let t := (({ s with limits := limits }.modBox .coin (fun b =>
        { b with capacity := b.heldCapacity .coin (numberOf [c1, c0]) })).modBox .note (fun b =>
          { b with capacity := b.heldCapacity .note (numberOf [n1, n0]) })).closeEvent
      (t, answer t.limitBytes)
  | _ => (s, refuse .range)

/-! ### Store service (R14, R15, R22, R24, R144, R145) -/

/-- READ STORE (R24). -/
def readStore (payload : List Byte) (s : State) : State × Response :=
  match payload with
  | [b] =>
    match readIndex b with
    | some k => (s, answer (s.storeBytes k))
    | none =>
      if b = 12 then (s, answer (s.boxBytes .coin))
      else if b = 13 then (s, answer (s.boxBytes .note))
      else (s, refuse .range)
  | _ => (s, refuse .range)

/-- A store goes to a state by office request. -/
def State.putStore (s : State) (k : StoreId) (x : StoreState) : State :=
  (s.modStore k (fun y => { y with state := x })).closeEvent

/-- DISABLE STORE on one store (R14). -/
def disableOne (k : StoreId) (s : State) : State × Response :=
  match (s.store k).state with
  | .disabled => (s, done)
  | .paying => (s, refuse .state)
  | .absent => (s, refuse .state)
  | .ready | .uncertain | .jammed =>
    if (s.store k).reserved = 0 then (s.putStore k .disabled, done) else (s, refuse .state)

/-- ENABLE STORE on one store (R15). -/
def enableOne (k : StoreId) (s : State) : State × Response :=
  if (s.store k).state = .disabled ∧ (s.store k).denom.isSome then (s.putStore k .uncertain, done)
  else (s, refuse .state)

/-- CLEAR JAM on one store (R145). -/
def clearJamOne (k : StoreId) (s : State) : State × Response :=
  if (s.store k).state = .jammed then (s.putStore k .uncertain, done) else (s, refuse .state)

/-- A request that names a store alone: a number above 11 is out of range. -/
def onStore (payload : List Byte) (s : State) (f : StoreId → State × Response) :
    State × Response :=
  match payload with
  | [b] =>
    match readIndex b with
    | some k => f k
    | none => (s, refuse .range)
  | _ => (s, refuse .range)

def disableStore (payload : List Byte) (s : State) : State × Response :=
  onStore payload s (fun k => disableOne k s)

def enableStore (payload : List Byte) (s : State) : State × Response :=
  onStore payload s (fun k => enableOne k s)

def clearJam (payload : List Byte) (s : State) : State × Response :=
  onStore payload s (fun k => clearJamOne k s)

/-- A store that may be declared: UNCERTAIN, or READY with reserved 0 (R144). -/
def Store.declarable (x : Store) : Bool :=
  x.state == .uncertain || (x.state == .ready && x.reserved == 0)

/-- The count is exchanged and the difference booked ADJUSTED (R144). -/
def State.declare (s : State) (k : StoreId) (n : Nat) : State :=
  (((s.modStore k (fun x => { x with physical := n, state := .ready })).bookAdjustedStore k
    ((n : Int) - (s.store k).physical))).closeEvent

/-- DECLARE COUNT (R144), its checks in the rule's order. -/
def declareCount (payload : List Byte) (s : State) : State × Response :=
  match payload with
  | [b, hi, lo] =>
    match readIndex b with
    | none => (s, refuse .range)
    | some k =>
      if !(s.store k).declarable then (s, refuse .state)
      else if (s.store k).pending ≠ 0 then (s, refuse .state)
      else if (s.store k).capacity < numberOf [hi, lo] then (s, refuse .range)
      else (s.declare k (numberOf [hi, lo]), answer (field 2 (s.store k).physical))
  | _ => (s, refuse .range)

/-- One denomination of an emptied cashbox is booked (R22). -/
def State.bookEmptied (k : Kind) (s : State) (d : Denom) : State :=
  s.book .emptied d ((s.box k).countOf d)

/-- An exchanged cashbox is reported emptied (R22). -/
def State.emptyBox (s : State) (k : Kind) : State :=
  ((allDenoms.foldl (State.bookEmptied k) s).modBox k (fun b =>
    { b with counts := Vector.replicate 12 0, stage := .none })).closeEvent

/-- CASHBOX EMPTIED (R22). -/
def cashboxEmptied (payload : List Byte) (s : State) : State × Response :=
  match payload with
  | [b] =>
    match readKind b with
    | none => (s, refuse .range)
    | some k =>
      if (s.box k).present && (s.box k).stage == .exchanged then (s.emptyBox k, done)
      else (s, refuse .state)
  | _ => (s, refuse .range)

/-! ### Skims (R141–R143) -/

/-- A skim request is placed, the office's tallies set to 0 (R141). -/
def State.beginSkim (s : State) (r : SkimRequest) : State :=
  ((s.clearTallies .office).placeSkim (some r)).finish

/-- SKIM TO TARGET (R141). -/
def skimToTarget (s : State) : State × Response :=
  if s.skimLive then (s, refuse .state) else (s.beginSkim .toTarget, accepted)

/-- EMPTY STORE (R142). -/
def emptyStore (payload : List Byte) (s : State) : State × Response :=
  onStore payload s (fun k =>
    if s.skimLive then (s, refuse .state) else (s.beginSkim (.emptyStore k), accepted))

/-- A skim in work is marked stopped (R75, R143). -/
def Planner.stopSkim (p : Planner) : Planner :=
  { p with
    work := match p.work with
      | none => none
      | some w =>
        match w.job with
        | .skim _ => some { w with stopped := true }
        | .lane _ _ => some w }

/-- STOP SKIM (R143): a waiting request is withdrawn, one in work is marked stopped, WAITING strokes are
dropped (R130). -/
def stopSkim (s : State) : State × Response :=
  if s.skimLive then
    ((({ s with planner := s.planner.stopSkim }.placeSkim none).dropSkims (fun _ => true)).finish,
      done)
  else (s, done)

/-! ### Profiles (R136–R138) -/

/-- The three marks clamped to the summed capacity and then ordered around the target (R136). -/
def clampMarks (top low target high : Nat) : Marks :=
  let t := min target top
  { low := min (min low top) t, target := t, high := max (min high top) t }

/-- WRITE PROFILE ENTRY (R136). -/
def writeProfileEntry (payload : List Byte) (s : State) : State × Response :=
  match payload with
  | [index, l1, l0, t1, t0, h1, h0] =>
    match readIndex index with
    | none => (s, refuse .range)
    | some d =>
      let m := clampMarks (min Config.maxCapacity (s.summedCapacity d)) (numberOf [l1, l0])
        (numberOf [t1, t0]) (numberOf [h1, h0])
      ({ s with pendingMarks := s.pendingMarks.set d.val m d.isLt }, answer m.bytes)
  | _ => (s, refuse .range)

/-- READ PROFILE (R137). -/
def readProfile (payload : List Byte) (s : State) : State × Response :=
  match payload with
  | [b] =>
    if b = 0 then (s, answer (profileBytes s.armed s.active))
    else if b = 1 then (s, answer (profileBytes s.armed s.pendingMarks))
    else (s, refuse .range)
  | _ => (s, refuse .range)

/-- COMMIT PROFILE (R138): at a quiet point the switch is made in the same event. -/
def commitProfile (s : State) : State × Response :=
  if s.armed then (s, done)
  else (({ s with armed := true }.switchIfQuiet).closeEvent, done)

end Sys2Proof.Machine
end

