-- ==== Sys2Proof/Machine/TotalsRequests.lean ====
section
/-! DEFINITION. The requests on the shift totals and the notices, and RESTART, once they are taken and have
passed steps 1 to 5 of R173 (chapters 8, 9 and 11). -/

namespace Sys2Proof.Machine

/-! ### Shift totals (R151–R157) -/

/-- A denomination of the open shift, as READ TOTALS and a close take it (R151, R154). -/
def State.shiftLine (s : State) (d : Denom) : ShiftLine :=
  { counters := s.counters d, opening := s.totals.opening[d], holdings := s.holdings d,
    value := s.value d }

/-- READ TOTALS (R151, R152). -/
def readTotals (payload : List Byte) (s : State) : State × Response :=
  match payload with
  | [record, index] =>
    match readIndex index with
    | none => (s, refuse .range)
    | some d =>
      if record = 0 then
        (s, answer ((s.shiftLine d).bytes 0 d s.totals.inexact s.totals.shift))
      else if record = 1 then
        (s, answer (s.totals.previous.lines[d].bytes 1 d s.totals.previous.inexact
          s.totals.previous.shift))
      else (s, refuse .range)
  | _ => (s, refuse .range)

/-- A fill is pending on some store (R153). -/
def State.somePending (s : State) : Bool := allStores.any (fun k => (s.store k).pending != 0)

/-- The conditions that refuse CLOSE SHIFT (R153). -/
def State.shiftBusy (s : State) : Bool :=
  !s.bothIdle || s.somePending || !s.pool.records.isEmpty || !s.plannerEmpty

/-- The close of a shift (R154). -/
def State.closeTotals (s : State) : State :=
  ({ s with
    totals :=
      { shift := s.totals.shift + 1
        inexact := false
        counters := Vector.replicate 12 Counters.zero
        opening := tabulate s.holdings
        previous :=
          { shift := s.totals.shift, inexact := s.totals.inexact,
            lines := tabulate s.shiftLine } } }).officeFlag .shiftInexact false

/-- CLOSE SHIFT (R153, R154): the reply carries the number of the shift closed. -/
def closeShift (s : State) : State × Response :=
  if s.shiftBusy then (s, refuse .state)
  else (s.closeTotals.closeEvent, answer (bigEndian 2 s.totals.shift.toNat))

/-- The first check of CLEAR CURRENCY (R156). -/
def State.clearAllowed (s : State) : Bool :=
  s.bothClosed && !s.somePending && !s.skimLive && s.plannerEmpty

/-- A store made UNASSIGNED (R157). -/
def Store.unassign (x : Store) : Store :=
  { x with denom := none, state := if x.state = .absent then .absent else .disabled }

/-- CLEAR CURRENCY's steps 2 to 5 (R157). -/
def State.clearTables (s : State) : State :=
  { s with
    denoms := mapTable
      (fun e : Denomination => { value := 0, kind := e.kind, enabled := false }) s.denoms
    classes := { coin := Vector.replicate 64 none, note := Vector.replicate 64 none }
    stores := mapTable Store.unassign s.stores
    active := Vector.replicate 12 Marks.zero
    pendingMarks := Vector.replicate 12 Marks.zero
    armed := false }

/-- CLEAR CURRENCY (R156, R157). -/
def clearCurrency (s : State) : State × Response :=
  if !s.clearAllowed then (s, refuse .state)
  else if allDenoms.any (fun d => s.holdings d != 0) then (s, refuse .holdsStock)
  else (s.closeTotals.clearTables.closeEvent, answer (bigEndian 2 s.totals.shift.toNat))

/-! ### Notices (R163–R165) -/

/-- READ NOTICES (R163). -/
def readNotices (p : Port) (s : State) : State × Response :=
  match p with
  | .lane l => (s, answer (s.laneNotices.get l).bytes)
  | .office => (s, answer s.officeNotices.bytes)

/-- An enable of the office port turned on or off; the line follows (R162, R164). -/
def State.officeEnable (s : State) (n : OfficeNotice) (v : Bool) : State :=
  { s with officeNotices := officeSet s.officeNotices.flags (s.officeNotices.enables.set n v) }

def State.laneEnable (s : State) (l : Lane) (n : LaneNotice) (v : Bool) : State :=
  { s with
    laneNotices := s.laneNotices.set l
      (laneSet (s.laneNotices.get l).flags ((s.laneNotices.get l).enables.set n v)) }

/-- ENABLE NOTICE and DISABLE NOTICE (R164). -/
def turnNotice (v : Bool) (p : Port) (payload : List Byte) (s : State) : State × Response :=
  match p, payload with
  | .lane l, [b] =>
    match readLaneNotice b with
    | some n => (s.laneEnable l n v, done)
    | none => (s, refuse .range)
  | .office, [b] =>
    match readOfficeNotice b with
    | some n => (s.officeEnable n v, done)
    | none => (s, refuse .range)
  | _, _ => (s, refuse .range)

/-- The flags DISMISS NOTICE clears (R165). -/
def OfficeNotice.dismissable : OfficeNotice → Bool
  | .recovered => true
  | .skimAdvised => true
  | .profileSwitched => true
  | .jam => false
  | .cassette => false
  | .cashboxFull => false
  | .shiftInexact => false
  | .stockLow => false

def LaneNotice.dismissable : LaneNotice → Bool
  | .settleRefused => true
  | .pieceReturned => true
  | .completionReady => false
  | .presentOverdue => false
  | .chuteOccupied => false
  | .tenderReached => false
  | .lowChange => false

/-- A flag dismissed, and the line after it (R162, R165). -/
def State.dismissOffice (s : State) (n : OfficeNotice) : State :=
  { s with officeNotices := officeSet (s.officeNotices.flags.set n false) s.officeNotices.enables }

def State.dismissLane (s : State) (l : Lane) (n : LaneNotice) : State :=
  { s with
    laneNotices := s.laneNotices.set l
      (laneSet ((s.laneNotices.get l).flags.set n false) (s.laneNotices.get l).enables) }

/-- DISMISS NOTICE (R165). -/
def dismissNotice (p : Port) (payload : List Byte) (s : State) : State × Response :=
  match p, payload with
  | .lane l, [b] =>
    match readLaneNotice b with
    | some n => if n.dismissable then (s.dismissLane l n, done) else (s, refuse .state)
    | none => (s, refuse .range)
  | .office, [b] =>
    match readOfficeNotice b with
    | some n => if n.dismissable then (s.dismissOffice n, done) else (s, refuse .state)
    | none => (s, refuse .range)
  | _, _ => (s, refuse .range)

/-! ### RESTART (R186) -/

/-- RESTART: start-up begins when its reply has been sent (R175, R186). -/
def restart (s : State) : State × Response :=
  if s.bothIdle && s.pool.records.isEmpty then (s, done) else (s, refuse .state)

end Sys2Proof.Machine
end

