-- ==== Sys2Proof/Machine/StartUp.lean ====
section
/-! DEFINITION. Start-up and power loss (chapter 11): the working state rebuilt from Retained Memory and the
sensors. -/

namespace Sys2Proof.Machine

/-! ### The working state before recovery (R184, R187 step 1) -/

/-- A store with its retained items and no working state; its retained fills wait for step 3. -/
def RetainedStore.restore (x : RetainedStore) : Store :=
  { denom := x.denom, capacity := x.capacity, physical := x.physical, reserved := 0,
    state := x.state, pay := x.pay, fill := x.fill,
    fills := x.fills.map (fun f => { denom := f.1, counter := f.2, windowMs := 0 }),
    inFlight := x.inFlight, marked := false, channel := .idle }

/-- A cashbox with its retained items and nothing promised; step 4 reads its sensor. -/
def RetainedBox.restore (b : RetainedBox) (present : Bool) : Cashbox :=
  { counts := b.counts, capacity := b.capacity, promised := 0, present := present,
    stage := b.stage }

/-- A Lane Controller after start-up: CLOSED, IDLE, the retained sequence (R51). -/
def OpenSale.restore (x : OpenSale) : LaneControl :=
  { mode := .closed, sale := Sale.idle x.sequence, slot := none }

def noOfficeNotices : OfficeNotices :=
  { flags := OfficeBits.all false, enables := OfficeBits.all true, line := false }

def noLaneNotices : LaneNotices :=
  { flags := LaneBits.all false, enables := LaneBits.all true, line := false }

/-- The part with its retained items read back and everything else at its start-up value (R184). -/
def restored (r : Retained) (pins : Pins) (phase : Phase) (pending : List Instr) : State :=
  { pending := pending
    phase := phase
    pins := pins
    denoms := r.denoms
    classes := r.classes
    stores := mapTable RetainedStore.restore r.stores
    boxes := { coin := r.boxes.coin.restore pins.boxIn.coin
               note := r.boxes.note.restore pins.boxIn.note }
    limits := r.limits
    lanes := { one := r.sales.one.restore, two := r.sales.two.restore }
    heads := { one := { coin := Head.atStartUp, note := Head.atStartUp }
               two := { coin := Head.atStartUp, note := Head.atStartUp } }
    planner := Planner.atStartUp
    pool := Pool.atStartUp
    paths := { coin := Arbiter.atStartUp, note := Arbiter.atStartUp }
    presenterOpen := { one := false, two := false }
    active := r.active
    pendingMarks := r.active
    armed := false
    totals := r.totals
    officeNotices := noOfficeNotices
    laneNotices := { one := noLaneNotices, two := noLaneNotices }
    ports := { one := LinkPort.atStartUp, two := LinkPort.atStartUp,
               office := LinkPort.atStartUp }
    retained := r }

/-! ### Recovery, step by step (R187) -/

/-- Step 2: a store whose marker is set goes to UNCERTAIN and its marker is cleared. -/
def State.recoverMarker (s : State) (k : StoreId) : State :=
  if (s.store k).inFlight then
    s.modStore k (fun x => { x with state := .uncertain, inFlight := false })
  else s

/-- Step 3: retained fills are booked and unplaced; a READY store that had some goes to UNCERTAIN. -/
def State.recoverFills (s : State) (k : StoreId) : State :=
  if (s.store k).fills.isEmpty then s
  else
    (s.resolveFills k).modStore k (fun x =>
      { x with state := if x.state = .ready then .uncertain else x.state })

/-- Step 4: the presence sensor of a store, by R9 or R10. -/
def State.recoverPresence (s : State) (k : StoreId) : State :=
  if s.pins.cassetteIn[k] then
    (if (s.store k).state = .absent then s.modStore k Store.newCassette else s)
  else if (s.store k).state = .absent then s
  else s.pullCassette k

/-- Step 4: the presence sensor of a cashbox (R25). -/
def State.recoverBox (s : State) (k : Kind) : State :=
  s.modBox k (fun b => if s.pins.boxIn.get k then b.back else b.out)

/-- Step 5: the empty-level sensor, by R13. -/
def State.recoverLevel (s : State) (k : StoreId) : State :=
  if s.pins.levelEmpty[k] then s.levelReported k else s

/-- The steps of R187 over all stores and both cashboxes. -/
def State.recover (s : State) : State :=
  let s2 := allStores.foldl State.recoverMarker s
  let s3 := allStores.foldl State.recoverFills s2
  let s4 := (allStores.foldl State.recoverPresence s3)
  let s4' := (s4.recoverBox .coin).recoverBox .note
  allStores.foldl State.recoverLevel s4'

/-! ### Interrupted sales (R188) -/

/-- The shortfall of an INTERRUPTED record (R188). -/
def OpenSale.interruptedShortfall (x : OpenSale) : Nat :=
  match x.state with
  | .paying => x.target - x.paid
  | .presented => x.target - x.paid
  | .tendering => x.tendered
  | .planning => x.tendered
  | .idle => 0

/-- The INTERRUPTED record made from a retained open-sale record (R188). -/
def State.interrupted (s : State) (x : OpenSale) : Completion :=
  { sequence := x.sequence, outcome := .interrupted, due := x.due, tendered := x.tendered,
    target := x.target, paid := x.paid, overpay := 0, shortfall := x.interruptedShortfall,
    pieces := s.piecesList x.pieces }

/-- A lane whose retained sale was outside IDLE is given its INTERRUPTED record (R188). -/
def State.recoverLane (s : State) (l : Lane) : State :=
  let x := s.retained.sales.get l
  if x.state = .idle then s
  else (s.setSlot l (some (s.interrupted x))).laneFlag l .completionReady true

/-- The event notices after start-up: RECOVERED is set, SHIFT_INEXACT is clear even where start-up itself
booked past a limit (R158, R166; log 23). -/
def State.recoverNotices (s : State) : State :=
  { s with officeNotices :=
      { s.officeNotices with flags := { OfficeBits.all false with recovered := true } } }

/-- The whole start-up sequence (R186–R189). -/
def startedUp (r : Retained) (pins : Pins) (pending : List Instr) : State :=
  ((((restored r pins .running pending).recover).recoverNotices.recoverLane .one).recoverLane
    .two).closeEvent

/-- START_UP: power-on, the RESET line, or the end of a RESTART's reply, at any moment (R186; log 11). -/
def execStartUp (s : State) : Host.Outcome State Fault Refusal :=
  .next (startedUp s.retained s.pins s.pending)

/-- POWER_LOSS: all work ends where it stands and Retained Memory keeps what the last event made durable
(R185, R186; log 12). -/
def execPowerLoss (s : State) : Host.Outcome State Fault Refusal :=
  .next { restored s.retained s.pins .off s.pending with
    officeNotices := { noOfficeNotices with enables := OfficeBits.all false }
    laneNotices :=
      { one := { noLaneNotices with enables := LaneBits.all false }
        two := { noLaneNotices with enables := LaneBits.all false } } }

end Sys2Proof.Machine
end

