-- ==== Sys2Proof/Machine/Link.lean ====
section
/-! DEFINITION. The Link Ports (chapter 10): the receiver, the receive buffer, the checks of a taken request,
its reply, and the block that performs it. -/

namespace Sys2Proof.Machine

/-! ### Performing a request -/

/-- The level of a port (R167). -/
def State.portLevel (s : State) (p : Port) : Nat :=
  match p with
  | .office => 0
  | .lane l => if s.pins.keyTurned.get l then 1 else 2

/-- The required level of a request on a port: an office form needs level 0 (R168). -/
def requiredLevel (r : Request) (p : Port) : Nat :=
  match p with
  | .office => 0
  | .lane _ => r.laneLevel

/-- The request is served in a form on this kind of port: a lane-only request on the office port is not
(R169, R173 step 4). -/
def servedOn (r : Request) (p : Port) : Bool :=
  match p, r.served with
  | .office, .lanesOnly => false
  | .office, .officeOnly => true
  | .office, .both => true
  | .lane _, .lanesOnly => true
  | .lane _, .both => true
  | .lane _, .officeOnly => false

/-- A lane-only request on its lane; the office port is refused at step 4 of R173. -/
def onLane (p : Port) (s : State) (f : Lane → State × Response) : State × Response :=
  match p with
  | .lane l => f l
  | .office => (s, refuse .state)

/-- Step 6 of R173: the block that owns the request performs it. -/
def performRequest (r : Request) (p : Port) (payload : List Byte) (s : State) : State × Response :=
  match r with
  | .openSale => onLane p s (fun l => openSale l payload s)
  | .readTender => onLane p s (fun l => readTender l s)
  | .settle => onLane p s (fun l => settle l payload s)
  | .cancelSale => onLane p s (fun l => cancelSale l s)
  | .haltPayout => onLane p s (fun l => haltPayout l s)
  | .collect => onLane p s (fun l => collect l s)
  | .retractNotes => onLane p s (fun l => retractNotes l s)
  | .readCompletion => onLane p s (fun l => readCompletion l s)
  | .readStock => onLane p s (fun _ => readStock s)
  | .readPlan => readPlan p payload s
  | .setLaneMode => setLaneMode p payload s
  | .readNotices => readNotices p s
  | .enableNotice => turnNotice true p payload s
  | .disableNotice => turnNotice false p payload s
  | .dismissNotice => dismissNotice p payload s
  | .readStore => readStore payload s
  | .readTotals => readTotals payload s
  | .readProfile => readProfile payload s
  | .writeDenomination => writeDenomination payload s
  | .writeClassEntry => writeClassEntry payload s
  | .assignStore => assignStore payload s
  | .writeLimits => writeLimits payload s
  | .writeProfileEntry => writeProfileEntry payload s
  | .commitProfile => commitProfile s
  | .skimToTarget => skimToTarget s
  | .emptyStore => emptyStore payload s
  | .stopSkim => stopSkim s
  | .declareCount => declareCount payload s
  | .clearJam => clearJam payload s
  | .enableStore => enableStore payload s
  | .disableStore => disableStore payload s
  | .cashboxEmptied => cashboxEmptied payload s
  | .closeShift => closeShift s
  | .clearCurrency => clearCurrency s
  | .restart => restart s

/-- Steps 3 to 6 of R173. -/
def serveRequest (r : Request) (p : Port) (payload : List Byte) (s : State) : State × Response :=
  if requiredLevel r p < s.portLevel p then (s, refuse .level)
  else if !servedOn r p then (s, refuse .state)
  else if payload.length ≠ r.payloadLength p then (s, refuse .range)
  else performRequest r p payload s

/-! ### Replies -/

/-- A request was performed (R174). -/
def Status.performed : Status → Bool
  | .ok => true
  | .accepted => true
  | .overrun => true
  | .check => false
  | .unknown => false
  | .level => false
  | .range => false
  | .state => false
  | .unread => false
  | .notEnough => false
  | .holdsStock => false

/-- The port begins to send a reply; an overrun that is pending is carried by one that is OK or ACCEPTED
(R172, R174). -/
def LinkPort.send (x : LinkPort) (code : Byte) (a : Response) (thenStartUp : Bool) : LinkPort :=
  if x.overrun && a.status.performed then
    { x with
      overrun := false
      sending := some { frame := replyFrame code .overrun a.payload, thenStartUp := thenStartUp } }
  else
    { x with
      sending := some { frame := replyFrame code a.status a.payload, thenStartUp := thenStartUp } }

def State.sendReply (s : State) (p : Port) (code : Byte) (a : Response) (thenStartUp : Bool) :
    State :=
  s.modPort p (fun x => x.send code a thenStartUp)

/-- A request served and answered on its port. -/
def State.serveAndReply (s : State) (r : Request) (p : Port) (payload : List Byte) : State :=
  let out := serveRequest r p payload s
  out.1.sendReply p r.code out.2 (r == .restart && out.2.status.performed)

/-- A frame is taken: its sum, its code, and then its request (R171, R173). -/
def State.takeFrame (s : State) (p : Port) (f : Frame) : State :=
  match f.body with
  | [] => s
  | c :: payload =>
    if frameSum f.body f.check ≠ 0 then s.sendReply p c (refuse .check) false
    else
      match requestOfCode c with
      | none => s.sendReply p c (refuse .unknown) false
      | some r => s.serveAndReply r p payload

/-! ### The receive buffer -/

/-- The oldest held frame is taken when the port is not sending (R172). -/
def State.takeHeld (s : State) (p : Port) : State :=
  match (s.port p).sending, (s.port p).buffer with
  | none, f :: rest => (s.modPort p (fun x => { x with buffer := rest })).takeFrame p f
  | none, [] => s
  | some _, _ => s

/-- A frame completes while the port is sending: held, or discarded on a full buffer (R172). -/
def LinkPort.hold (x : LinkPort) (f : Frame) : LinkPort :=
  if x.buffer.length < Config.bufferDepth then { x with buffer := x.buffer ++ [f] }
  else { x with overrun := true }

/-- A frame completes on a port: taken at once, held or discarded (R172). -/
def State.offerFrame (s : State) (p : Port) (f : Frame) : State :=
  match (s.port p).sending, (s.port p).buffer with
  | none, [] => s.takeFrame p f
  | none, _ :: _ => (s.modPort p (fun x => x.hold f)).takeHeld p
  | some _, _ => s.modPort p (fun x => x.hold f)

/-- A request command: a frame with a right check byte carrying the request completes on the port (log 4).
A body that no frame can carry is discarded (R170). -/
def requestArrives (r : Request) (p : Port) (payload : List Byte) (s : State) :
    Host.Outcome State Fault Refusal :=
  s.whileRunning (fun t =>
    if bodyFits (r.code :: payload) then
      t.offerFrame p { body := r.code :: payload, check := checkByteOf (r.code :: payload) }
    else t)

/-! ### The receiver -/

def State.setReceiver (s : State) (p : Port) (x : Receiver) : State :=
  s.modPort p (fun y => { y with receiver := x })

/-- A byte without a stop-bit error, by the receiver's state (R170, R171). -/
def State.takeByte (s : State) (p : Port) (b : Byte) : State :=
  match (s.port p).receiver with
  | .hunt => if b = 0xA5 then s.setReceiver p .length else s
  | .length =>
    if 1 ≤ b.toNat ∧ b.toNat ≤ maxBody then s.setReceiver p (.body b.toNat [])
    else s.setReceiver p .hunt
  | .body length taken =>
    if taken.length + 1 < length then s.setReceiver p (.body length (taken ++ [b]))
    else s.setReceiver p (.check (taken ++ [b]))
  | .check taken => (s.setReceiver p .hunt).offerFrame p { body := taken, check := b }

/-- The frame in progress is discarded silently; in HUNT there is none (R170). -/
def State.discardFrame (s : State) (p : Port) : State := s.setReceiver p .hunt

/-- BYTE_RECEIVED (R170). -/
def execByteReceived (p : Port) (b : Byte) (stopError : Bool) (s : State) :
    Host.Outcome State Fault Refusal :=
  s.whileRunning (fun t => if stopError then t.discardFrame p else t.takeByte p b)

/-- FRAME_COMPLETE (R171, R172): the check byte of the frame in progress.  A receiver that awaits no check
byte completes no frame (log 3). -/
def execFrameComplete (p : Port) (check : Byte) (s : State) : Host.Outcome State Fault Refusal :=
  s.whileRunning (fun t =>
    match (t.port p).receiver with
    | .check taken => (t.setReceiver p .hunt).offerFrame p { body := taken, check := check }
    | .hunt => t
    | .length => t
    | .body _ _ => t)

/-- INTER_BYTE_GAP_EXPIRY (R170). -/
def execInterByteGapExpiry (p : Port) (s : State) : Host.Outcome State Fault Refusal :=
  s.whileRunning (fun t => t.discardFrame p)

/-- The end of a reply: start-up begins after the reply of a RESTART (R175, R186), else the oldest held
frame is taken (R172). -/
def State.replySent (s : State) (p : Port) (r : Reply) : State :=
  let t := s.modPort p (fun x => { x with sending := none })
  if r.thenStartUp then { t with phase := .startingUp } else t.takeHeld p

/-- REPLY_TRANSMIT_END (R172): a port that sends no reply ends none (log 3). -/
def execReplyTransmitEnd (p : Port) (s : State) : Host.Outcome State Fault Refusal :=
  s.whileRunning (fun t =>
    match (t.port p).sending with
    | some r => t.replySent p r
    | none => t)

/-- UNKNOWN_CODE (R173): a frame with a wrong sum or an unlisted code completes on the port. -/
def execUnknownCode (p : Port) (body : List Byte) (check : Byte) (s : State) :
    Host.Outcome State Fault Refusal :=
  s.whileRunning (fun t =>
    if bodyFits body then t.offerFrame p { body := body, check := check } else t)

end Sys2Proof.Machine
end

