-- ==== Sys2Proof/Machine/Requests.lean ====
section
/-! DEFINITION. The meanings of the request commands: each is its request arriving on the port (R172,
R173), performed by the definition named after it. -/

namespace Sys2Proof.Machine

/-- OPEN_SALE (R31). -/
def execOpenSale (p : Port) (payload : List Byte) (s : State) : Host.Outcome State Fault Refusal :=
  requestArrives .openSale p payload s

/-- READ_TENDER (R32). -/
def execReadTender (p : Port) (payload : List Byte) (s : State) : Host.Outcome State Fault Refusal :=
  requestArrives .readTender p payload s

/-- SETTLE (R34). -/
def execSettle (p : Port) (payload : List Byte) (s : State) : Host.Outcome State Fault Refusal :=
  requestArrives .settle p payload s

/-- CANCEL_SALE (R37, R38). -/
def execCancelSale (p : Port) (payload : List Byte) (s : State) : Host.Outcome State Fault Refusal :=
  requestArrives .cancelSale p payload s

/-- HALT_PAYOUT (R44). -/
def execHaltPayout (p : Port) (payload : List Byte) (s : State) : Host.Outcome State Fault Refusal :=
  requestArrives .haltPayout p payload s

/-- COLLECT (R45). -/
def execCollect (p : Port) (payload : List Byte) (s : State) : Host.Outcome State Fault Refusal :=
  requestArrives .collect p payload s

/-- RETRACT_NOTES (R47). -/
def execRetractNotes (p : Port) (payload : List Byte) (s : State) : Host.Outcome State Fault Refusal :=
  requestArrives .retractNotes p payload s

/-- READ_COMPLETION (R50). -/
def execReadCompletion (p : Port) (payload : List Byte) (s : State) : Host.Outcome State Fault Refusal :=
  requestArrives .readCompletion p payload s

/-- READ_STOCK (R24). -/
def execReadStock (p : Port) (payload : List Byte) (s : State) : Host.Outcome State Fault Refusal :=
  requestArrives .readStock p payload s

/-- READ_PLAN (R107, R108). -/
def execReadPlan (p : Port) (payload : List Byte) (s : State) : Host.Outcome State Fault Refusal :=
  requestArrives .readPlan p payload s

/-- SET_LANE_MODE (R27, R28). -/
def execSetLaneMode (p : Port) (payload : List Byte) (s : State) : Host.Outcome State Fault Refusal :=
  requestArrives .setLaneMode p payload s

/-- READ_NOTICES (R163). -/
def execReadNotices (p : Port) (payload : List Byte) (s : State) : Host.Outcome State Fault Refusal :=
  requestArrives .readNotices p payload s

/-- ENABLE_NOTICE (R164). -/
def execEnableNotice (p : Port) (payload : List Byte) (s : State) : Host.Outcome State Fault Refusal :=
  requestArrives .enableNotice p payload s

/-- DISABLE_NOTICE (R164). -/
def execDisableNotice (p : Port) (payload : List Byte) (s : State) : Host.Outcome State Fault Refusal :=
  requestArrives .disableNotice p payload s

/-- DISMISS_NOTICE (R165). -/
def execDismissNotice (p : Port) (payload : List Byte) (s : State) : Host.Outcome State Fault Refusal :=
  requestArrives .dismissNotice p payload s

/-- READ_STORE (R24). -/
def execReadStore (p : Port) (payload : List Byte) (s : State) : Host.Outcome State Fault Refusal :=
  requestArrives .readStore p payload s

/-- READ_TOTALS (R151). -/
def execReadTotals (p : Port) (payload : List Byte) (s : State) : Host.Outcome State Fault Refusal :=
  requestArrives .readTotals p payload s

/-- READ_PROFILE (R137). -/
def execReadProfile (p : Port) (payload : List Byte) (s : State) : Host.Outcome State Fault Refusal :=
  requestArrives .readProfile p payload s

/-- WRITE_DENOMINATION (R2). -/
def execWriteDenomination (p : Port) (payload : List Byte) (s : State) : Host.Outcome State Fault Refusal :=
  requestArrives .writeDenomination p payload s

/-- WRITE_CLASS_ENTRY (R5). -/
def execWriteClassEntry (p : Port) (payload : List Byte) (s : State) : Host.Outcome State Fault Refusal :=
  requestArrives .writeClassEntry p payload s

/-- ASSIGN_STORE (R146). -/
def execAssignStore (p : Port) (payload : List Byte) (s : State) : Host.Outcome State Fault Refusal :=
  requestArrives .assignStore p payload s

/-- WRITE_LIMITS (R81). -/
def execWriteLimits (p : Port) (payload : List Byte) (s : State) : Host.Outcome State Fault Refusal :=
  requestArrives .writeLimits p payload s

/-- WRITE_PROFILE_ENTRY (R136). -/
def execWriteProfileEntry (p : Port) (payload : List Byte) (s : State) : Host.Outcome State Fault Refusal :=
  requestArrives .writeProfileEntry p payload s

/-- COMMIT_PROFILE (R138). -/
def execCommitProfile (p : Port) (payload : List Byte) (s : State) : Host.Outcome State Fault Refusal :=
  requestArrives .commitProfile p payload s

/-- SKIM_TO_TARGET (R141). -/
def execSkimToTarget (p : Port) (payload : List Byte) (s : State) : Host.Outcome State Fault Refusal :=
  requestArrives .skimToTarget p payload s

/-- EMPTY_STORE (R142). -/
def execEmptyStore (p : Port) (payload : List Byte) (s : State) : Host.Outcome State Fault Refusal :=
  requestArrives .emptyStore p payload s

/-- STOP_SKIM (R143). -/
def execStopSkim (p : Port) (payload : List Byte) (s : State) : Host.Outcome State Fault Refusal :=
  requestArrives .stopSkim p payload s

/-- DECLARE_COUNT (R144). -/
def execDeclareCount (p : Port) (payload : List Byte) (s : State) : Host.Outcome State Fault Refusal :=
  requestArrives .declareCount p payload s

/-- CLEAR_JAM (R145). -/
def execClearJam (p : Port) (payload : List Byte) (s : State) : Host.Outcome State Fault Refusal :=
  requestArrives .clearJam p payload s

/-- ENABLE_STORE (R15). -/
def execEnableStore (p : Port) (payload : List Byte) (s : State) : Host.Outcome State Fault Refusal :=
  requestArrives .enableStore p payload s

/-- DISABLE_STORE (R14). -/
def execDisableStore (p : Port) (payload : List Byte) (s : State) : Host.Outcome State Fault Refusal :=
  requestArrives .disableStore p payload s

/-- CASHBOX_EMPTIED (R22). -/
def execCashboxEmptied (p : Port) (payload : List Byte) (s : State) : Host.Outcome State Fault Refusal :=
  requestArrives .cashboxEmptied p payload s

/-- CLOSE_SHIFT (R153, R154). -/
def execCloseShift (p : Port) (payload : List Byte) (s : State) : Host.Outcome State Fault Refusal :=
  requestArrives .closeShift p payload s

/-- CLEAR_CURRENCY (R156, R157). -/
def execClearCurrency (p : Port) (payload : List Byte) (s : State) : Host.Outcome State Fault Refusal :=
  requestArrives .clearCurrency p payload s

/-- RESTART (R186). -/
def execRestart (p : Port) (payload : List Byte) (s : State) : Host.Outcome State Fault Refusal :=
  requestArrives .restart p payload s

end Sys2Proof.Machine
end

