-- ==== Sys2Proof/Machine/Dispatch.lean ====
section
/-! DEFINITION. One arm for each command: a direct call of its meaning. -/

namespace Sys2Proof.Machine

def exec (i : Instr) (s : State) : Host.Outcome State Fault Refusal :=
  match i with
  | .openSale p payload => Sys2Proof.Machine.execOpenSale p payload s
  | .readTender p payload => Sys2Proof.Machine.execReadTender p payload s
  | .settle p payload => Sys2Proof.Machine.execSettle p payload s
  | .cancelSale p payload => Sys2Proof.Machine.execCancelSale p payload s
  | .haltPayout p payload => Sys2Proof.Machine.execHaltPayout p payload s
  | .collect p payload => Sys2Proof.Machine.execCollect p payload s
  | .retractNotes p payload => Sys2Proof.Machine.execRetractNotes p payload s
  | .readCompletion p payload => Sys2Proof.Machine.execReadCompletion p payload s
  | .readStock p payload => Sys2Proof.Machine.execReadStock p payload s
  | .readPlan p payload => Sys2Proof.Machine.execReadPlan p payload s
  | .setLaneMode p payload => Sys2Proof.Machine.execSetLaneMode p payload s
  | .readNotices p payload => Sys2Proof.Machine.execReadNotices p payload s
  | .enableNotice p payload => Sys2Proof.Machine.execEnableNotice p payload s
  | .disableNotice p payload => Sys2Proof.Machine.execDisableNotice p payload s
  | .dismissNotice p payload => Sys2Proof.Machine.execDismissNotice p payload s
  | .readStore p payload => Sys2Proof.Machine.execReadStore p payload s
  | .readTotals p payload => Sys2Proof.Machine.execReadTotals p payload s
  | .readProfile p payload => Sys2Proof.Machine.execReadProfile p payload s
  | .writeDenomination p payload => Sys2Proof.Machine.execWriteDenomination p payload s
  | .writeClassEntry p payload => Sys2Proof.Machine.execWriteClassEntry p payload s
  | .assignStore p payload => Sys2Proof.Machine.execAssignStore p payload s
  | .writeLimits p payload => Sys2Proof.Machine.execWriteLimits p payload s
  | .writeProfileEntry p payload => Sys2Proof.Machine.execWriteProfileEntry p payload s
  | .commitProfile p payload => Sys2Proof.Machine.execCommitProfile p payload s
  | .skimToTarget p payload => Sys2Proof.Machine.execSkimToTarget p payload s
  | .emptyStore p payload => Sys2Proof.Machine.execEmptyStore p payload s
  | .stopSkim p payload => Sys2Proof.Machine.execStopSkim p payload s
  | .declareCount p payload => Sys2Proof.Machine.execDeclareCount p payload s
  | .clearJam p payload => Sys2Proof.Machine.execClearJam p payload s
  | .enableStore p payload => Sys2Proof.Machine.execEnableStore p payload s
  | .disableStore p payload => Sys2Proof.Machine.execDisableStore p payload s
  | .cashboxEmptied p payload => Sys2Proof.Machine.execCashboxEmptied p payload s
  | .closeShift p payload => Sys2Proof.Machine.execCloseShift p payload s
  | .clearCurrency p payload => Sys2Proof.Machine.execClearCurrency p payload s
  | .restart p payload => Sys2Proof.Machine.execRestart p payload s
  | .unknownCode p body check => Sys2Proof.Machine.execUnknownCode p body check s
  | .frameComplete p check => Sys2Proof.Machine.execFrameComplete p check s
  | .interByteGapExpiry p => Sys2Proof.Machine.execInterByteGapExpiry p s
  | .replyTransmitEnd p => Sys2Proof.Machine.execReplyTransmitEnd p s
  | .startUp => Sys2Proof.Machine.execStartUp s
  | .rehomeComplete path => Sys2Proof.Machine.execRehomeComplete path s
  | .managerKeyChange l turned => Sys2Proof.Machine.execManagerKeyChange l turned s
  | .headStrobe l k code => Sys2Proof.Machine.execHeadStrobe l k code s
  | .routeDecision l k => Sys2Proof.Machine.execRouteDecision l k s
  | .entryPulse k => Sys2Proof.Machine.execEntryPulse k s
  | .routeWindowExpiry k => Sys2Proof.Machine.execRouteWindowExpiry k s
  | .cassetteOut k => Sys2Proof.Machine.execCassetteOut k s
  | .cassetteIn k => Sys2Proof.Machine.execCassetteIn k s
  | .emptyLevelReport k => Sys2Proof.Machine.execEmptyLevelReport k s
  | .piecePulse k => Sys2Proof.Machine.execPiecePulse k s
  | .afterRunWindowClose k => Sys2Proof.Machine.execAfterRunWindowClose k s
  | .strokeDeadlineExpiry k => Sys2Proof.Machine.execStrokeDeadlineExpiry k s
  | .cashboxOut k => Sys2Proof.Machine.execCashboxOut k s
  | .cashboxIn k => Sys2Proof.Machine.execCashboxIn k s
  | .strokeStart path => Sys2Proof.Machine.execStrokeStart path s
  | .diverterMoveComplete path => Sys2Proof.Machine.execDiverterMoveComplete path s
  | .chuteSensorChange l k occupied => Sys2Proof.Machine.execChuteSensorChange l k occupied s
  | .presentTimerExpiry l => Sys2Proof.Machine.execPresentTimerExpiry l s
  | .attemptCompletion => Sys2Proof.Machine.execAttemptCompletion s
  | .powerLoss => Sys2Proof.Machine.execPowerLoss s
  | .byteReceived p b stopError => Sys2Proof.Machine.execByteReceived p b stopError s
  | .emptyLevelNotEmpty k => Sys2Proof.Machine.execEmptyLevelNotEmpty k s

end Sys2Proof.Machine
end

