-- ==== Sys2Proof/Safety.lean ====
section
/-! DEFINITION. What the statements about the part are made of: when a port takes a request, the sums the rules
speak of, and the invariants a step keeps. -/

namespace Sys2Proof.Machine

/-! ### When a port takes a request -/

/-- The part runs, and the port takes a frame in the event in which it completes: it sends no reply and
holds no frame (R172). -/
def State.takes (s : State) (p : Port) : Prop :=
  s.phase = .running ∧ (s.port p).sending = none ∧ (s.port p).buffer = []

/-- A lane port that takes requests of level 1: its manager key is turned (R167). -/
def State.takesKeyed (s : State) (l : Lane) : Prop :=
  s.takes (.lane l) ∧ s.pins.keyTurned.get l = true

/-- A request answered on its port (R174): the next state, in which the port begins the reply. -/
abbrev State.answered (s : State) (p : Port) (code : Byte) (a : Response) :
    Host.Outcome State Fault Refusal :=
  .next (s.sendReply p code a false)

/-! ### Sums over strokes -/

/-- The pieces, counted by `pieces`, of the chosen records. -/
def State.sumStrokes (s : State) (chosen : Stroke → Bool) (pieces : Stroke → Nat) : Nat :=
  ((s.pool.records.filter chosen).map pieces).sum

/-- The WAITING strokes of an owner. -/
def waitingOf (o : Owner) (r : Stroke) : Bool := r.state == .waiting && r.owner == o

/-- The WAITING strokes on a store, of every owner. -/
def waitingOn (k : StoreId) (r : Stroke) : Bool := r.state == .waiting && r.store == k

/-- What records that end give back (R18, R41, R126, R130): `pieces` of each leave its store's reservation; a
lane's go to owed, or to shortfall after a halt, off the committed counts, and a make-up is asked for; a skim's
leave the promised count of its cashbox.  Nothing else changes but the pool. -/
def State.givesBack (s t : State) (pieces : Stroke → Nat) : Prop :=
  let ofLane (l : Lane) (r : Stroke) : Bool := r.owner == .lane l
  let value (l : Lane) : Nat := s.sumStrokes (ofLane l) (fun r => pieces r * s.strokeValue r)
  let count (l : Lane) (k : Kind) : Nat := s.sumStrokes (fun r => ofLane l r && r.path == k) pieces
  (∀ k, t.store k = { s.store k with
    reserved := (s.store k).reserved - s.sumStrokes (fun r => r.store == k) pieces }) ∧
  (∀ k, t.box k = { s.box k with
    promised := (s.box k).promised -
      s.sumStrokes (fun r => r.owner == .office && r.path == k) pieces }) ∧
  (∀ l, t.lane l = { s.lane l with sale := { s.sale l with
    owed := (s.sale l).owed + if (s.sale l).haltPending then 0 else value l
    shortfall := (s.sale l).shortfall + if (s.sale l).haltPending then value l else 0
    coinsCommitted := (s.sale l).coinsCommitted - count l .coin
    notesCommitted := (s.sale l).notesCommitted - count l .note } }) ∧
  (∀ l, t.planner.waitingLane.get l =
    if 0 < s.sumStrokes (ofLane l) pieces ∧ (s.sale l).haltPending = false ∧
      s.jobInWork ≠ some (.lane l .makeup) then some .makeup
    else s.planner.waitingLane.get l) ∧
  t = { s with stores := t.stores, boxes := t.boxes, lanes := t.lanes, pool := t.pool,
               planner := { s.planner with waitingLane := t.planner.waitingLane } }

/-- A channel runs a stroke. -/
def Channel.runs (x : Channel) (r : Stroke) : Bool := x.slot? == some r.slot

/-- A tally count after `n` records that raise it by `sum` together (R105). -/
def tallied (count n sum : Nat) : Nat := if n = 0 then count else min (count + sum) 65535

/-- The pool after an event that ends records, some DONE and the rest of the chosen ones DROPPED: they leave the
planning order and the others keep theirs (R101, R102); their slots lie on the free list, the highest on top
(R95); each chain's tally counts them (R105). -/
def State.endsRecords (s t : State) (isDone isDropped : Stroke → Bool) : Prop :=
  let drops (r : Stroke) : Bool := isDropped r && !isDone r
  let ended := s.pool.records.filter (fun r => isDone r || isDropped r)
  let freed := t.pool.free.take ended.length
  t.pool.records = s.pool.records.filter (fun r => !(isDone r || isDropped r)) ∧
  t.pool.free = freed ++ s.pool.free ∧ freed.Perm (ended.map (·.slot)) ∧
  freed.Pairwise (fun a b => b.val ≤ a.val) ∧
  ∀ o k,
    let mine (chosen : Stroke → Bool) : List Stroke :=
      s.pool.records.filter (fun r => r.owner == o && r.path == k && chosen r)
    let cut (r : Stroke) : Bool := isDone r && decide (r.delivered < r.count)
    let old := s.tally o k
    t.tally o k =
      { done := tallied old.done (mine isDone).length (mine isDone).length
        cutShort := tallied old.cutShort (mine cut).length (mine cut).length
        dropped := tallied old.dropped (mine drops).length (mine drops).length
        delivered := tallied old.delivered (mine isDone).length ((mine isDone).map (·.delivered)).sum }

/-- The pieces a stroke on store `k` holds of it: the one its channel runs its undelivered pieces, none in AFTER-RUN
(R23, R122, R127), a WAITING one its whole count. -/
def Store.heldBy (x : Store) (k : StoreId) (r : Stroke) : Nat :=
  if x.channel.slot? = some r.slot then
    (if x.channel.holdsNothing then 0 else r.count - r.delivered)
  else if waitingOn k r then r.count else 0

/-! ### The figures of a record on the link -/

/-- The number in some bytes of a payload, from an offset on (R176). -/
def numberAt (bytes : List Byte) (offset width : Nat) : Nat := numberOf ((bytes.drop offset).take width)

/-- The signed number there, in two's complement (R176). -/
def signedAt (bytes : List Byte) (offset width : Nat) : Int :=
  let n := numberAt bytes offset width
  if n < 256 ^ width / 2 then n else (n : Int) - (256 ^ width : Nat)

/-- Each field, given by its offset, its width and its number, stands in a payload where its number fits. -/
def holdsAt (bytes : List Byte) (fields : List (Nat × Nat × Nat)) : Prop :=
  ∀ f ∈ fields, f.2.2 < 256 ^ f.2.1 → numberAt bytes f.1 f.2.1 = f.2.2

/-- A pieces list of R49: the denominations with pieces paid in index order, or ten of them that none left out
passes in value. -/
def State.listsPieces (s : State) (pieces : Vector Nat 12) (entries : List (Denom × Nat)) : Prop :=
  let paid := allDenoms.filter (fun d => pieces[d] != 0)
  let kept := entries.map Prod.fst
  entries = kept.map (fun d => (d, pieces[d])) ∧ kept.Sublist paid ∧
  kept.length = min 10 paid.length ∧ ∀ d ∈ kept, ∀ e ∈ paid, e ∉ kept → s.value e ≤ s.value d

/-- Bookings that pass a limit, and none other, mark the shift inexact and raise SHIFT_INEXACT (R150). -/
def State.inexactFollows (s t : State) (passes : Prop) : Prop :=
  (t.totals.inexact = true ↔ s.totals.inexact = true ∨ passes) ∧
  (t.officeNotices.flags.shiftInexact = true ↔
    s.officeNotices.flags.shiftInexact = true ∨ passes) ∧
  t.officeNotices = { s.officeNotices with flags :=
    { s.officeNotices.flags with shiftInexact := t.officeNotices.flags.shiftInexact } }

/-- The close of a shift (R154): its figures go to the previous-shift record, and the next one opens at the
holdings with its counters 0, not inexact; SHIFT_INEXACT is cleared. -/
def State.closesShift (s t : State) : Prop :=
  t.totals.shift = s.totals.shift + 1 ∧ t.totals.inexact = false ∧
  t.officeNotices =
    { s.officeNotices with flags := { s.officeNotices.flags with shiftInexact := false } } ∧
  t.totals.previous.shift = s.totals.shift ∧ t.totals.previous.inexact = s.totals.inexact ∧
  ∀ d : Denom, t.counters d = Counters.zero ∧ t.totals.opening[d] = s.holdings d ∧
    t.totals.previous.lines[d] =
      { counters := s.counters d, opening := s.totals.opening[d], holdings := s.holdings d,
        value := s.value d }

/-! ### A plan, as the rules word it -/

/-- The value of the counts of the first positions. -/
def worthOf (ps : List Stocked) (counts : List Nat) : Nat :=
  ((ps.zip counts).map (fun x => x.2 * x.1.value)).sum

/-- The pieces of a kind in the counts of the first positions. -/
def countedOf (k : Kind) (ps : List Stocked) (counts : List Nat) : Nat :=
  (((ps.zip counts).filter (fun x => x.1.kind == k)).map Prod.snd).sum

/-- The counts from a position on are a greedy fill behind those before it: each the smallest of the stock, the
whole number of times the value goes into what is left, and what is left of the kind's budget (R82). -/
def isFill (ps : List Stocked) (target : Nat) (b : Budgets) (start : Nat) (counts : List Nat) : Prop :=
  counts.length = ps.length ∧ ∀ i p, start ≤ i → ps[i]? = some p →
    counts[i]? = some (min p.stock (min ((target - worthOf ps (counts.take i)) / p.value)
      (b.of p.kind - countedOf p.kind ps (counts.take i))))

/-- One retreat: the last position before the last one whose count is above 0 gives back a piece, and the
positions behind it are filled anew (R83, step 3). -/
def isRetreat (ps : List Stocked) (target : Nat) (b : Budgets) (before after : List Nat) : Prop :=
  ∃ j < ps.length - 1, before[j]? ≠ some 0 ∧
    (∀ i < ps.length - 1, j < i → before[i]? = some 0) ∧
    after.take j = before.take j ∧ after[j]? = before[j]?.map (· - 1) ∧
    isFill ps target b (j + 1) after

/-- The candidates of a pass in the order made (R83): the fill from position 1, alone where the whole stock is
worth less than the target; else a retreat after each that leaves something, sixteen at most. -/
def isPass (ps : List Stocked) (target : Nat) (b : Budgets) (made : List (List Nat)) : Prop :=
  let leaves (counts : List Nat) : Nat := target - worthOf ps counts
  (∃ first, made.head? = some first ∧ isFill ps target b 0 first) ∧
  (worthOf ps (ps.map (·.stock)) < target → made.length = 1) ∧
  (target ≤ worthOf ps (ps.map (·.stock)) →
    made.length ≤ 17 ∧ (∀ x ∈ made.zip made.tail, leaves x.1 ≠ 0 ∧ isRetreat ps target b x.1 x.2) ∧
    ∀ last, made.getLast? = some last →
      leaves last = 0 ∨ made.length = 17 ∨ ∀ i < ps.length - 1, last[i]? = some 0)

/-- The best candidate of a pass: the first of those that leave least (R83). -/
def isBest (ps : List Stocked) (target : Nat) (made : List (List Nat)) (best : List Nat) : Prop :=
  let leaves (counts : List Nat) : Nat := target - worthOf ps counts
  (∀ other ∈ made, leaves best ≤ leaves other) ∧
  made.find? (fun other => leaves other == leaves best) = some best

/-- The pieces of a denomination in some strokes. -/
def Snapshot.planned (n : Snapshot) (strokes : List Planned) (d : Denom) : Nat :=
  ((strokes.filter (fun x => (n.store x.store).denom == some d)).map (·.count)).sum

/-- The stores a denomination is planned from (R7, R78). -/
def Snapshot.plannedFrom (n : Snapshot) (excluded : List StoreId) (d : Denom) (k : StoreId) : Prop :=
  (n.denom d).enabled = true ∧ (n.store k).state = .ready ∧ (n.store k).pay = true ∧
    (n.store k).denom = some d ∧ k ∉ excluded

/-- The free counts of those stores together (R79, R89). -/
def Snapshot.freeStock (n : Snapshot) (excluded : List StoreId) (d : Denom) : Nat :=
  ((allStores.filter (fun k => (n.denom d).enabled && (n.store k).state == .ready && (n.store k).pay &&
    (n.store k).denom == some d && !excluded.contains k)).map (fun k => (n.store k).free)).sum

/-- The strokes of a plan by R86 and R87: no store twice, each from a store of its denomination and within its
free count, the fullest stores first; the coin strokes before the note strokes, and within a kind by value,
largest first, and then by store number. -/
def Snapshot.laidOut (n : Snapshot) (excluded : List StoreId) (strokes : List Planned) : Prop :=
  let value (x : Planned) : Nat := match (n.store x.store).denom with
    | some d => (n.denom d).value
    | none => 0
  (strokes.map (·.store)).Nodup ∧
  (∀ x ∈ strokes, 0 < x.count ∧ x.count ≤ (n.store x.store).free ∧
    ∃ d, n.plannedFrom excluded d x.store ∧ ∀ k, n.plannedFrom excluded d k →
      ((n.store x.store).free < (n.store k).free ∨
        ((n.store k).free = (n.store x.store).free ∧ k.val < x.store.val)) →
      { store := k, count := (n.store k).free } ∈ strokes) ∧
  strokes.Pairwise (fun x y =>
    (storeKind x.store = .coin ∧ storeKind y.store = .note) ∨
    (storeKind x.store = storeKind y.store ∧ value y ≤ value x ∧
      ((n.store x.store).denom = (n.store y.store).denom → x.store.val < y.store.val)))

/-! ### Invariants -/

/-- Every condition flag follows its condition and every notice line its flags and enables, while the part
runs (R159, R162). -/
def State.noticesFollow (s : State) : Prop :=
  s.phase = .running →
    s.officeNotices = officeSet s.officeConditions s.officeNotices.enables ∧
    ∀ l, s.laneNotices.get l = laneSet (s.laneConditions l) (s.laneNotices.get l).enables

/-- Retained Memory holds the retained items as they stand, while the part runs (R185). -/
def State.durable (s : State) : Prop := s.phase = .running → s.retained = s.capture

/-- The counters of a denomination are within their limits (R150). -/
def Counters.inRange (c : Counters) : Prop :=
  (∀ n, c.get n ≤ 4294967295) ∧ -2147483647 ≤ c.adjusted ∧ c.adjusted ≤ 2147483647

/-- Every counter of the open shift, working and retained, is within its limits (R147, R150). -/
def State.countersInRange (s : State) : Prop :=
  ∀ d : Denom, (s.counters d).inRange ∧ (s.retained.totals.counters[d]).inRange

/-- The marks of a denomination are in order and in range (R135). -/
def Marks.ordered (m : Marks) : Prop := m.low ≤ m.target ∧ m.target ≤ m.high ∧ m.high ≤ 4095

/-- No receive buffer holds more than two frames (R172); the marks of both profiles and of the retained one
are in order (R135); no store, working or retained, counts more pieces than its capacity, has one above 4,095, or
has more than four fills pending (R6, R63). -/
def State.rangesHold (s : State) : Prop :=
  (∀ p, (s.port p).buffer.length ≤ 2) ∧
  (∀ d : Denom, s.active[d].ordered ∧ s.pendingMarks[d].ordered ∧ s.retained.active[d].ordered) ∧
  (∀ k : StoreId, (s.store k).physical ≤ (s.store k).capacity ∧ (s.store k).capacity ≤ 4095 ∧
    s.retained.stores[k].physical ≤ s.retained.stores[k].capacity ∧
    s.retained.stores[k].capacity ≤ 4095 ∧ (s.store k).fills.length ≤ 4 ∧
    s.retained.stores[k].fills.length ≤ 4)

/-- Each of the forty slots is free or holds one record, and none is both or twice (R95). -/
def State.slotsPartition (s : State) : Prop :=
  (s.pool.free ++ s.pool.records.map (·.slot)).Perm freeSlots

/-- A request of the lane waits or is in work. -/
def State.laneAsked (s : State) (l : Lane) (r : LaneRequest) : Prop :=
  s.planner.waitingLane.get l = some r ∨ s.jobInWork = some (.lane l r)

/-- A lane's place at the planner and its strokes agree with its sale: a sale outside IDLE belongs to a lane in
SERVE (R26); a settle or a refund is asked for in PLANNING alone and a make-up in PAYING alone, and never one
while another of the lane waits (R72); the lane has strokes in PAYING alone (R100). -/
def State.laneWorkFollows (s : State) : Prop :=
  ∀ l,
    ((s.sale l).state ≠ .idle → s.mode l = .serve) ∧
    ((s.laneAsked l .settle ∨ s.laneAsked l .refund) → (s.sale l).state = .planning) ∧
    (s.laneAsked l .makeup → (s.sale l).state = .paying) ∧
    ((s.planner.waitingLane.get l).isSome → ∀ r, s.jobInWork ≠ some (.lane l r)) ∧
    (∀ r ∈ s.pool.records, r.owner = .lane l → (s.sale l).state = .paying)

/-- Strokes, channels, latches and grants agree: a running stroke's path is granted to its owner and its store's
channel runs it (R99, R118); a channel that runs a stroke has it in the pool, on its own store, which is PAYING
(R11); a latch names a WAITING record of the chain its path is granted to (R104); a path runs one stroke at a time,
and its latch is empty while it does (R99, R104). -/
def State.strokesFollow (s : State) : Prop :=
  (∀ r ∈ s.pool.records, r.state = .waiting ∨
    (r.state = .running ∧ (s.path r.path).grant.owner? = some r.owner ∧
      (s.store r.store).channel.slot? = some r.slot)) ∧
  (∀ k slot, (s.store k).channel.slot? = some slot → (s.store k).state = .paying ∧
    ∃ r ∈ s.pool.records, r.slot = slot ∧ r.store = k ∧ r.state = .running) ∧
  (∀ k x, (s.path k).latch = some x →
    ∃ r ∈ s.pool.records, r.latch = x ∧ r.path = k ∧ r.state = .waiting ∧
      (s.path k).grant.owner? = some r.owner) ∧
  ∀ k,
    let running := s.pool.records.filter (fun r => r.path == k && r.state == .running)
    running.length ≤ 1 ∧ (running ≠ [] → (s.path k).latch = none)

/-- The part as Retained Memory gives it back, before start-up reads its sensors (R184). -/
def State.fromMemory (s : State) : State := restored s.retained s.pins .running s.pending

/-- The pieces a live stroke still holds of its store: count − delivered, and none once its window is open
(R17, R97, R23). -/
def State.heldBy (s : State) (r : Stroke) : Nat :=
  if (s.store r.store).channel.runs r && (s.store r.store).channel.holdsNothing then 0
  else r.count - r.delivered

/-- Reserved and promised are what the live strokes hold, within the physical count and the capacity (R6, R17,
R19, R21); a live stroke is on a READY or PAYING store of its path's kind, and its figures are in range (R97). -/
def State.stockHeld (s : State) : Prop :=
  (∀ k, (s.store k).reserved = s.sumStrokes (fun r => r.store == k) s.heldBy ∧
    (s.store k).reserved ≤ (s.store k).physical) ∧
  (∀ k, (s.box k).promised = s.sumStrokes (fun r => r.owner == .office && r.path == k) s.heldBy ∧
    (s.box k).count + (s.box k).promised ≤ (s.box k).capacity) ∧
  ∀ r ∈ s.pool.records, r.path = storeKind r.store ∧
    ((s.store r.store).state = .ready ∨ (s.store r.store).state = .paying) ∧
    (r.state = .waiting → r.delivered = 0 ∧ 0 < r.count) ∧
    (r.state = .running → r.delivered ≤ r.count ∧
      ((s.store r.store).channel.holdsNothing = false → r.delivered < r.count))

/-- So it is while the part runs, and so it will be when it starts from Retained Memory. -/
def State.stockFollows (s : State) : Prop :=
  (s.phase = .running → s.stockHeld) ∧ s.fromMemory.stockHeld

/-- R149's identity for every denomination of a shift that is not inexact, with what it rests on: stores, class
entries and cashbox counts are of their denomination's kind (R5, R6, R19), an ABSENT store counts nothing (R9),
and a pending fill is of its store's denomination (R60). -/
def State.holdingsBalance (s : State) : Prop :=
  (s.totals.inexact = false → ∀ d,
    let c := s.counters d
    (s.holdings d : Int) = s.totals.opening[d] + c.accepted + c.loaded + c.retracted + c.adjusted -
      c.paid - c.emptied - c.removed - c.unplaced) ∧
  (∀ k d, (s.store k).denom = some d → (s.denom d).kind = storeKind k) ∧
  (∀ (k : Kind) (c : ClassCode) (d : Denom), (s.classes.get k)[c] = some d → (s.denom d).kind = k) ∧
  (∀ k d, (s.box k).countOf d ≠ 0 → (s.denom d).kind = k) ∧
  (∀ k, (s.store k).state = .absent → (s.store k).physical = 0) ∧
  ∀ k, ∀ f ∈ (s.store k).fills, (s.store k).denom = some f.denom

/-- So it is while the part runs, and so it will be when it starts from Retained Memory. -/
def State.holdingsFollow (s : State) : Prop :=
  (s.phase = .running → s.holdingsBalance) ∧ s.fromMemory.holdingsBalance

/-- The value a lane's strokes still carry. -/
def State.carried (s : State) (l : Lane) : Nat :=
  s.sumStrokes (fun r => r.owner == .lane l) (fun r => (r.count - r.delivered) * s.strokeValue r)

/-- The value a make-up of the lane in work is asked to pay (R42, R74). -/
def State.asked (s : State) (l : Lane) : Nat :=
  match s.planner.work with
  | some w => if w.job = .lane l .makeup then w.snap.target else 0
  | none => 0

/-- R49's identity of a sale: what is paid, short, owed, carried by its strokes and asked of the planner is its
target and its over-pay; before the payout all of it is 0, and a record that waits to be read keeps it.  An IDLE
sale holds nothing but its sequence (R30, R48). -/
def State.saleAccounts (s : State) (l : Lane) : Prop :=
  let x := s.sale l
  (x.state = .idle → x = Sale.idle x.sequence) ∧
  (x.state = .idle ∨ x.state = .tendering → x.target = 0) ∧
  (x.state = .idle ∨ x.state = .tendering ∨ x.state = .planning →
    x.paid = 0 ∧ x.overpay = 0 ∧ x.shortfall = 0 ∧ x.owed = 0) ∧
  (x.state = .paying ∨ x.state = .presented →
    x.paid + x.shortfall + x.owed + s.carried l + s.asked l = x.target + x.overpay) ∧
  (x.state = .presented → x.owed = 0) ∧
  x.paid = (allDenoms.map (fun d => x.paidPieces d * s.value d)).sum ∧
  ∀ c, s.slot l = some c → c.outcome ≠ .interrupted →
    c.paid + c.shortfall = c.target + c.overpay ∧
    (c.outcome = .cancelled → c.target = 0 ∧ c.paid = 0 ∧ c.overpay = 0 ∧ c.shortfall = 0)

/-- Every sale keeps its accounts while the part runs; a lane's stroke in AFTER-RUN has delivered its count
(R121), and the snapshot of a lane's request in work agrees with the tables, which no request changes during a
sale (R2, R74, R146). -/
def State.salesFollow (s : State) : Prop :=
  s.phase = .running →
    (∀ l, s.saleAccounts l) ∧
    (∀ r ∈ s.pool.records, r.owner ≠ .office → (s.store r.store).channel.runs r = true →
      (s.store r.store).channel.holdsNothing = true → r.delivered = r.count) ∧
    ∀ w, s.planner.work = some w → ∀ l q, w.job = .lane l q →
      (q ≠ .makeup → w.snap.target = (s.sale l).target) ∧
      (∀ k, (w.snap.store k).denom = (s.store k).denom) ∧
      ∀ d, (w.snap.denom d).value = s.value d ∧ (w.snap.denom d).kind = (s.denom d).kind ∧
        (w.snap.denom d).enabled = s.enabled d

end Sys2Proof.Machine
end

