-- ==== Sys2Proof/Certificates/Slice0/Obligations.lean ====
section
/-! DEFINITION. The statements about the part, from the numbered rules of spec/.  A port is said to take a
request (`State.takes`) while the part runs and the port neither sends a reply nor holds a frame (R172).  The
requests' operands are the bytes of their payloads (R177). -/

open Sys2Proof Sys2Proof.Machine

/-! ### The machine -/

/-- The front command runs on the state with the queue's rest, and the part idles on an empty queue (the
queue is the model's own, log 1). -/
def Obligations.StepRunsTheFront : Prop :=
  (∀ (s : State) (c : Instr) (rest : List Instr), s.pending = c :: rest →
    step s = exec c { s with pending := rest }) ∧
  ∀ s : State, s.pending = [] → step s = .next s

/-- Every command gives a next state and leaves the queue alone; the one exception is an attempt whose plan
needs more slots than are free, which R103 says does not happen (log 17). -/
def Obligations.EveryCommandGoesOn : Prop :=
  ∀ (c : Instr) (s : State),
    (∃ t, exec c s = .next t ∧ t.pending = s.pending) ∨
    (c = .attemptCompletion ∧ exec c s = .fault .poolExhausted ∧
      ∃ w, s.planner.work = some w ∧ s.pool.free.length < (w.plan s.limits).strokes.length)

/-- R54, R66, R91, R111, R117, R118, R121, R125, R171, R172: an event that cannot arise where it stands
changes nothing: a route decision on an EMPTY latch, an expiry with no fill pending, a completion with no
request in work, the end of a re-homing, a move, a stroke's window or a deadline that is not running, a
start with nothing latched, a check byte the receiver does not await, the end of a reply that is not being
sent. That such a command is accepted at all is the model's choice (log 3). -/
def Obligations.EventsThatCannotAriseChangeNothing : Prop :=
  ∀ s : State, s.phase = .running →
    (∀ l k, (s.head l k).latch = none → exec (.routeDecision l k) s = .next s) ∧
    (∀ k, (s.store k).fills = [] → exec (.routeWindowExpiry k) s = .next s) ∧
    (∀ k, (∀ slot ms, (s.store k).channel ≠ .afterRun slot ms) →
      exec (.afterRunWindowClose k) s = .next s) ∧
    (∀ k, (∀ slot ms, (s.store k).channel ≠ .driving slot ms) →
      exec (.strokeDeadlineExpiry k) s = .next s) ∧
    (∀ k, (s.path k).availability = .available → exec (.rehomeComplete k) s = .next s) ∧
    (∀ k, (s.path k).move = none → exec (.diverterMoveComplete k) s = .next s) ∧
    (∀ k, (s.path k).latch = none → exec (.strokeStart k) s = .next s) ∧
    (s.planner.work = none → exec .attemptCompletion s = .next s) ∧
    (∀ p check, (∀ taken, (s.port p).receiver ≠ .check taken) →
      exec (.frameComplete p check) s = .next s) ∧
    (∀ p, (s.port p).sending = none → exec (.replyTransmitEnd p) s = .next s)

/-- Reset leaves every retained item at its value before the first write (R184), the sales IDLE in CLOSED
lanes (R51), and the paths re-homing for 400 ms (R111). That reset is a finished start-up is the model's reading
(log 22), and that the sensors then report cassettes and cashboxes in, on which the stores' states, the cashboxes'
stages and the notices rest, is its choice (log 5).

The invariants of this file hold at reset. -/
def Obligations.ResetHoldsItsValuesAndTheInvariants : Prop :=
  (let s := State.reset
   (∀ d, s.denom d = { value := 0, kind := .coin, enabled := false }) ∧
   (∀ (k : Kind) (c : ClassCode), (s.classes.get k)[c] = none) ∧
   (∀ k, s.store k =
     { denom := none, capacity := 1, physical := 0, reserved := 0, state := .disabled, pay := false,
       fill := false, fills := [], inFlight := false, marked := false, channel := .idle }) ∧
   (∀ k, (s.box k).capacity = 8000 ∧ (s.box k).promised = 0 ∧ (s.box k).stage = .none ∧
     ∀ d, (s.box k).countOf d = 0) ∧
   s.limits = { coinLimit := 25, noteLimit := 10, roundingUnit := 1, presentTimeout := 45 } ∧
   (∀ d, s.marks d = { low := 0, target := 0, high := 0 }) ∧
   (∀ d, s.counters d = Counters.zero ∧ s.totals.opening[d] = 0) ∧
   s.totals.shift = 0 ∧ s.totals.inexact = false ∧
   (∀ l, s.mode l = .closed ∧ s.sale l = Sale.idle 0 ∧ s.slot l = none) ∧
   (∀ k, (s.path k).availability = .rehoming 400 ∧ (s.path k).position = none) ∧
   s.retained = Retained.factory) ∧
  (State.reset.noticesFollow ∧ State.reset.durable ∧ State.reset.rangesHold ∧
   State.reset.slotsPartition ∧ State.reset.laneWorkFollows ∧ State.reset.strokesFollow ∧
   State.reset.countersInRange ∧ State.reset.stockFollows ∧ State.reset.holdingsFollow ∧
   State.reset.salesFollow)

/-- R159, R162: a condition flag never stands set with its condition false, nor clear with it true, and each
line is a level of its port's flags and enables. -/
def Obligations.NoticesFollowKept : Prop :=
  ∀ s t : State, s.noticesFollow → step s = .next t → t.noticesFollow

/-- After every event Retained Memory holds the retained items as the event left them. R185 makes a change durable
before it can be observed on a link; that it is durable at the end of its event is the model's reading (log
13). -/
def Obligations.DurableKept : Prop :=
  ∀ s t : State, s.durable → step s = .next t → t.durable

/-- R172, R135, R6, R63: at most two held frames, low ≤ target ≤ high in every profile, physical within capacity,
and at most four fills pending on a store.

R147, R150: no booking takes a counter past its limit. A booking within the limit adds to its one counter and
changes nothing else; one that would pass it leaves the counter at the limit, marks the shift inexact and raises
SHIFT_INEXACT. -/
def Obligations.RangesAndCountersKept : Prop :=
  (∀ s t : State, s.rangesHold → step s = .next t → t.rangesHold) ∧
  (∀ s t : State, s.countersInRange → step s = .next t → t.countersInRange) ∧
  (∀ (s : State) (n : Counter) (d : Denom) (k : Nat),
    let t := s.book n d k
    let sum := (s.counters d).get n + k
    (t.counters d).get n = min sum 4294967295 ∧ (t.counters d).adjusted = (s.counters d).adjusted ∧
    (∀ m, m ≠ n → (t.counters d).get m = (s.counters d).get m) ∧
    (∀ e, e ≠ d → t.counters e = s.counters e) ∧ s.inexactFollows t (4294967295 < sum) ∧
    t = { s with
      totals := { s.totals with counters := t.totals.counters, inexact := t.totals.inexact }
      officeNotices := t.officeNotices }) ∧
  (∀ (s : State) (d : Denom) (k : Int),
    let t := s.bookAdjusted d k
    let sum := (s.counters d).adjusted + k
    t.counters d = { s.counters d with adjusted := max (-2147483647) (min sum 2147483647) } ∧
    (∀ e, e ≠ d → t.counters e = s.counters e) ∧
    s.inexactFollows t (2147483647 < sum ∨ sum < -2147483647) ∧
    t = { s with
      totals := { s.totals with counters := t.totals.counters, inexact := t.totals.inexact }
      officeNotices := t.officeNotices })

/-- R95: each of the forty slots is free or holds one stroke record. -/
def Obligations.SlotsPartitionKept : Prop :=
  ∀ s t : State, s.slotsPartition → step s = .next t → t.slotsPartition

/-- R26, R72, R100: a sale outside IDLE belongs to a lane in SERVE, and a lane's requests at the planner and
its strokes agree with its sale's state. -/
def Obligations.LaneWorkFollowsKept : Prop :=
  ∀ s t : State, s.laneWorkFollows → step s = .next t → t.laneWorkFollows

/-- R99, R104, R118, R11: running strokes, channels, latches and grants agree, a path runs one stroke at a time
and its latch is empty while it does, given that the slots partition and that lane work follows the sales. -/
def Obligations.StrokesFollowKept : Prop :=
  ∀ s t : State, s.slotsPartition ∧ s.laneWorkFollows ∧ s.strokesFollow → step s = .next t →
    t.strokesFollow

/-- R6, R17, R18, R19, R21, R97: every step keeps each store's reserved count at the pieces its live strokes
still hold, and within its physical count, and each cashbox's promised count at what the live skim strokes into it
hold, count + promised within its capacity. -/
def Obligations.StockFollowsTheStrokesKept : Prop :=
  ∀ s t : State, s.slotsPartition ∧ s.laneWorkFollows ∧ s.strokesFollow ∧ s.stockFollows →
    step s = .next t → t.stockFollows

/-- R149: every step keeps the identity of holdings, opening and counters for every denomination of a shift that
is not inexact. -/
def Obligations.HoldingsBalanceKept : Prop :=
  ∀ s t : State, s.slotsPartition ∧ s.laneWorkFollows ∧ s.strokesFollow ∧ s.stockFollows ∧
    s.holdingsFollow → step s = .next t → t.holdingsFollow

/-- R49, R40–R42, R47, R30, R48: every step keeps a sale's accounts: an IDLE sale holds nothing but its
sequence; paid, shortfall, owed, what its strokes still carry and what a make-up in work is asked for are
together its target and its over-pay; so a completion record that is neither INTERRUPTED nor CANCELLED has paid
+ shortfall − overpay equal to target. -/
def Obligations.SaleAccountsKept : Prop :=
  ∀ s t : State, s.slotsPartition ∧ s.laneWorkFollows ∧ s.strokesFollow ∧ s.stockFollows ∧
    s.holdingsFollow ∧ s.salesFollow → step s = .next t → t.salesFollow

/-! ### The link -/

/-- R172: a request that completes while its port sends a reply is held while fewer than two frames are, and
is otherwise discarded with overrun-pending set. A reply with status OK or ACCEPTED carries OVERRUN in its
place while overrun-pending is set, and clears it.

R174, R171: the reply is a frame of the start marker, a length byte counting what stands between it and the check
byte, the request's code plus 0x80, the status, the payload, and the check byte that makes the sum 0. -/
def Obligations.PortHoldsTwoFramesAndCarriesOverrun : Prop :=
  (∀ (s : State) (c : Instr) (p : Port) (r : Request) (payload : List Byte),
    c.frame? = some (p, r, payload) → bodyFits (r.code :: payload) = true → s.phase = .running →
    (s.port p).sending.isSome →
    exec c s = .next (s.setPort p
      (if (s.port p).buffer.length < 2 then
        { s.port p with buffer := (s.port p).buffer ++
            [{ body := r.code :: payload, check := checkByteOf (r.code :: payload) }] }
      else { s.port p with overrun := true }))) ∧
  (∀ (s : State) (p : Port) (code : Byte) (a : Response) (b : Bool), a.status ≠ .overrun →
    s.sendReply p code a b = s.setPort p
      (if (s.port p).overrun = true ∧ (a.status = .ok ∨ a.status = .accepted) then
        { s.port p with
          overrun := false
          sending := some { frame := replyFrame code .overrun a.payload, thenStartUp := b } }
      else
        { s.port p with
          sending := some { frame := replyFrame code a.status a.payload, thenStartUp := b } })) ∧
  (∀ (code : Byte) (status : Status) (payload : List Byte), payload.length ≤ 253 →
    ∃ statusByte check : Byte,
      let counted := [BitVec.ofNat 8 (payload.length + 2), code + 0x80, statusByte] ++ payload ++ [check]
      replyFrame code status payload = 0xA5 :: counted ∧ counted.foldl (· + ·) 0 = 0 ∧
      statusByte.toNat = match status with
        | .ok => 0x00 | .accepted => 0x01 | .overrun => 0x02 | .check => 0x10 | .unknown => 0x11
        | .level => 0x12 | .range => 0x13 | .state => 0x14 | .unread => 0x15 | .notEnough => 0x16
        | .holdsStock => 0x17)

/-- R173: a taken frame is refused with CHECK for a wrong sum, with UNKNOWN for a code not listed, with
LEVEL where the port's level does not meet the request's (R167, R168), with STATE for a lane-only request on
the office port (R169), and with RANGE for a wrong length (R177), in that order and with no effect. -/
def Obligations.RequestChecksComeInOrder : Prop :=
  ∀ (s : State) (p : Port), s.takes p →
    (∀ (code check : Byte) (rest : List Byte), bodyFits (code :: rest) = true →
      (frameSum (code :: rest) check ≠ 0 →
        exec (.unknownCode p (code :: rest) check) s = s.answered p code (refuse .check)) ∧
      (frameSum (code :: rest) check = 0 → requestOfCode code = none →
        exec (.unknownCode p (code :: rest) check) s = s.answered p code (refuse .unknown))) ∧
    (∀ (c : Instr) (r : Request) (payload : List Byte), c.frame? = some (p, r, payload) →
      bodyFits (r.code :: payload) = true →
      let levelMet := ∀ l, p = .lane l → (if s.pins.keyTurned.get l then 1 else 2) ≤ r.laneLevel
      let served := ¬(p = .office ∧ r.served = .lanesOnly)
      (¬levelMet → exec c s = s.answered p r.code (refuse .level)) ∧
      (levelMet → ¬served → exec c s = s.answered p r.code (refuse .state)) ∧
      (levelMet → served → payload.length ≠ r.payloadLength p →
        exec c s = s.answered p r.code (refuse .range)))

/-- R170: the receiver's table, its discard on a stop-bit error, and its discard on a gap; the check byte
completes the frame and offers it to the port (FRAME_COMPLETE).

R171, R172: the check byte completes the frame whether its sum is right or not and returns the receiver to
HUNT. A frame that completes during a reply is held or discarded; a request's frame that completes on an
idle port does what the request's command does. -/
def Obligations.ReceiverFollowsItsTableAndOffersTheFrame : Prop :=
  (∀ (s : State) (p : Port) (b : Byte), s.phase = .running →
     let goes (x : Receiver) : Host.Outcome State Fault Refusal :=
       .next (s.setPort p { s.port p with receiver := x })
     exec (.byteReceived p b true) s = goes .hunt ∧
     exec (.interByteGapExpiry p) s = goes .hunt ∧
     ((s.port p).receiver = .hunt →
       exec (.byteReceived p b false) s = if b = 0xA5 then goes .length else .next s) ∧
     ((s.port p).receiver = .length →
       exec (.byteReceived p b false) s =
         if 1 ≤ b.toNat ∧ b.toNat ≤ 200 then goes (.body b.toNat []) else goes .hunt) ∧
     (∀ n taken, (s.port p).receiver = .body n taken → taken.length + 1 < n →
       exec (.byteReceived p b false) s = goes (.body n (taken ++ [b]))) ∧
     (∀ n taken, (s.port p).receiver = .body n taken → taken.length + 1 = n →
       exec (.byteReceived p b false) s = goes (.check (taken ++ [b]))) ∧
     (∀ taken, (s.port p).receiver = .check taken →
       exec (.byteReceived p b false) s = exec (.frameComplete p b) s)) ∧
  (∀ (s : State) (p : Port) (check : Byte) (taken : List Byte), s.phase = .running →
     (s.port p).receiver = .check taken → bodyFits taken = true →
     let t := s.setPort p { s.port p with receiver := .hunt }
     ((s.port p).sending.isSome →
       exec (.frameComplete p check) s = .next (s.setPort p
         (if (s.port p).buffer.length < 2 then
           { s.port p with
             receiver := .hunt, buffer := (s.port p).buffer ++ [{ body := taken, check := check }] }
         else { s.port p with receiver := .hunt, overrun := true }))) ∧
     (∀ c r payload, c.frame? = some (p, r, payload) → taken = r.code :: payload →
       check = checkByteOf taken → exec (.frameComplete p check) s = exec c t) ∧
     exec (.frameComplete p check) s = exec (.unknownCode p taken check) t)

/-- R172, R175, R186: at the end of a reply the port takes its oldest held frame, or idles with none; the
end of the reply to an admitted RESTART begins start-up. A lone held frame of a request does what the
request's command does on the port then idle. -/
def Obligations.ReplyEndTakesTheOldestFrame : Prop :=
  ∀ (s : State) (p : Port) (r : Reply), s.phase = .running → (s.port p).sending = some r →
    (r.thenStartUp = true →
      exec (.replyTransmitEnd p) s =
        .next { s.setPort p { s.port p with sending := none } with phase := .startingUp }) ∧
    (r.thenStartUp = false → (s.port p).buffer = [] →
      exec (.replyTransmitEnd p) s = .next (s.setPort p { s.port p with sending := none })) ∧
    (∀ f rest, r.thenStartUp = false → (s.port p).buffer = f :: rest →
      let t := s.setPort p { s.port p with sending := none, buffer := rest }
      exec (.replyTransmitEnd p) s = .next (t.takeFrame p f) ∧
      (∀ c q payload, rest = [] → c.frame? = some (p, q, payload) →
        bodyFits (q.code :: payload) = true →
        f = { body := q.code :: payload, check := checkByteOf (q.code :: payload) } →
        exec (.replyTransmitEnd p) s = exec c t))

/-! ### Start-up and power -/

/-- R25, R51, R70, R94, R109–R111, R134, R135, R166, R183, R184, R188, R189: what start-up leaves, from
Retained Memory and the sensors, from any state. That it is one event is the model's reading (log 11), and
that a presenter stands closed after it the model's choice (log 16). That SHIFT_INEXACT stands clear even
where start-up itself booked past a limit is its reading (log 23).

R158, R187, R150: the totals stay in the open shift, and start-up books each retained fill to its counter and
UNPLACED, and the physical count of each store whose cassette is found out REMOVED. -/
def Obligations.StartUpRebuildsTheWorkingState : Prop :=
  ∀ s : State, ∃ t : State, exec .startUp s = .next t ∧
    t.pending = s.pending ∧ t.phase = .running ∧ t.pins = s.pins ∧
    t.denoms = s.retained.denoms ∧ t.classes = s.retained.classes ∧
    t.limits = s.retained.limits ∧ t.active = s.retained.active ∧
    t.pendingMarks = s.retained.active ∧ t.armed = false ∧
    t.pool = { free := freeSlots, records := [],
               tallies := { one := { coin := Tally.zero, note := Tally.zero }
                            two := { coin := Tally.zero, note := Tally.zero }
                            office := { coin := Tally.zero, note := Tally.zero } } } ∧
    t.planner = { waitingLane := { one := none, two := none }, waitingSkim := none, work := none,
                  lastServed := .two } ∧
    (∀ k, t.path k =
      { availability := .rehoming 400, grant := .none, position := none, move := none,
        latch := none, lastGranted := .two, openingUsed := { one := false, two := false } }) ∧
    (∀ l, t.mode l = .closed ∧ t.sale l = Sale.idle (s.retained.sales.get l).sequence ∧
      t.presenterOpen.get l = false ∧ ∀ k, (t.head l k).latch = none) ∧
    (∀ p, t.port p = { receiver := .hunt, buffer := [], overrun := false, sending := none }) ∧
    (∀ k, (t.store k).reserved = 0 ∧ (t.store k).fills = [] ∧ (t.store k).inFlight = false ∧
      (t.store k).channel = .idle ∧ (t.store k).denom = s.retained.stores[k].denom ∧
      (t.store k).capacity = s.retained.stores[k].capacity ∧
      (t.store k).pay = s.retained.stores[k].pay ∧
      (t.store k).fill = s.retained.stores[k].fill) ∧
    (∀ k, (t.box k).counts = (s.retained.boxes.get k).counts ∧
      (t.box k).capacity = (s.retained.boxes.get k).capacity ∧ (t.box k).promised = 0 ∧
      (t.box k).present = s.pins.boxIn.get k) ∧
    (∀ l,
      let x := s.retained.sales.get l
      (x.state = .idle → t.slot l = none ∧
        (t.laneNotices.get l).flags.completionReady = false) ∧
      (x.state ≠ .idle → (t.laneNotices.get l).flags.completionReady = true ∧
        ∃ c, t.slot l = some c ∧ c.sequence = x.sequence ∧ c.outcome = .interrupted ∧
          c.due = x.due ∧ c.tendered = x.tendered ∧ c.target = x.target ∧ c.paid = x.paid ∧
          c.overpay = 0 ∧ t.listsPieces x.pieces c.pieces ∧
          c.shortfall = (if x.state = .paying ∨ x.state = .presented then x.target - x.paid
            else x.tendered))) ∧
    (∀ n, t.officeNotices.enables.get n = true) ∧
    (∀ l n, (t.laneNotices.get l).enables.get n = true) ∧
    t.officeNotices.flags.recovered = true ∧ t.officeNotices.flags.shiftInexact = false ∧
    t.officeNotices.flags.skimAdvised = false ∧
    t.officeNotices.flags.profileSwitched = false ∧ t.officeNotices.line = true ∧
    (∀ l, (t.laneNotices.get l).flags.settleRefused = false ∧
      (t.laneNotices.get l).flags.pieceReturned = false ∧
      (t.laneNotices.get l).flags.tenderReached = false) ∧
    t.totals.shift = s.retained.totals.shift ∧ t.totals.opening = s.retained.totals.opening ∧
    t.totals.previous = s.retained.totals.previous ∧
    ((∀ d : Denom, (s.retained.totals.counters[d]).inRange) →
      let fills (d : Denom) (n : FillCounter) : Nat :=
        (allStores.map (fun k => (s.retained.stores[k].fills.filter (· == (d, n))).length)).sum
      let removed (d : Denom) : Nat :=
        ((allStores.filter (fun k => s.retained.stores[k].denom == some d && !s.pins.cassetteIn[k] &&
          (s.retained.stores[k].state != .absent || s.retained.stores[k].inFlight))).map
            (fun k => s.retained.stores[k].physical)).sum
      let old (d : Denom) : Counters := s.retained.totals.counters[d]
      (∀ d, t.counters d = { old d with
        accepted := min ((old d).accepted + fills d .accepted) 4294967295
        loaded := min ((old d).loaded + fills d .loaded) 4294967295
        unplaced := min ((old d).unplaced + fills d .accepted + fills d .loaded) 4294967295
        removed := min ((old d).removed + removed d) 4294967295 }) ∧
      (t.totals.inexact = true ↔ s.retained.totals.inexact = true ∨ ∃ d,
        4294967295 < (old d).accepted + fills d .accepted ∨
        4294967295 < (old d).loaded + fills d .loaded ∨
        4294967295 < (old d).unplaced + fills d .accepted + fills d .loaded ∨
        4294967295 < (old d).removed + removed d))

/-- R187, R25: the state and count of each store after start-up, from its retained state, its marker, its
retained fills and its sensors, in the order of the steps; and the stage of each cashbox. -/
def Obligations.StartUpSettlesEachStore : Prop :=
  ∀ (s t : State) (k : StoreId), exec .startUp s = .next t →
    let x := s.retained.stores[k]
    let afterMarker : StoreState := if x.inFlight then .uncertain else x.state
    let afterFills : StoreState :=
      if x.fills ≠ [] ∧ afterMarker = .ready then .uncertain else afterMarker
    let isIn := s.pins.cassetteIn[k] = true
    (¬isIn → (t.store k).state = .absent ∧
      (afterFills ≠ .absent → (t.store k).physical = 0)) ∧
    (isIn → afterFills = .absent → (t.store k).physical = 0 ∧
      (t.store k).state = if x.denom = none then .disabled else .uncertain) ∧
    (isIn → afterFills ≠ .absent → (t.store k).physical = x.physical ∧
      (t.store k).state =
        if afterFills = .ready ∧ s.pins.levelEmpty[k] = true ∧ 0 < x.physical then .uncertain
        else afterFills) ∧
    ∀ j,
      let stage := (s.retained.boxes.get j).stage
      (t.box j).stage =
        if s.pins.boxIn.get j = true then (if stage = .outSeen then .exchanged else stage)
        else if stage = .none then .outSeen else stage

/-- R185, R186: a power loss ends all work and leaves Retained Memory as the last event left it. While the
part is off its working state reads as cleared (the model's choice, log 12).

R186, R183, R53: while the part is off or in start-up no request is served, no byte received, no strobe
taken and no pulse counted: any command but START_UP and POWER_LOSS changes at most what a sensor or switch
reports.

R186, R175: RESTART is refused unless both sales are IDLE and no chain holds a record; an admitted one
is answered OK, and the end of that reply begins start-up. That a reply which carries OVERRUN in place of OK
begins it too is the model's reading (log 27). -/
def Obligations.PowerLossRestartAndStartUpServeNothing : Prop :=
  ((∀ s : State, ∃ t : State, exec .powerLoss s = .next t ∧ t.phase = .off ∧
      t.retained = s.retained ∧ t.pins = s.pins ∧ t.pending = s.pending ∧ t.pool.records = [] ∧
      t.planner.work = none ∧ (∀ l, (t.sale l).state = .idle) ∧
      (∀ p, (t.port p).sending = none ∧ (t.port p).buffer = []) ∧
      t.officeNotices.line = false ∧ ∀ l, (t.laneNotices.get l).line = false) ∧
   (∀ (c : Instr) (s : State), s.phase ≠ .running → c ≠ .startUp → c ≠ .powerLoss →
      ∃ pins, exec c s = .next { s with pins := pins })) ∧
  (∀ s : State, s.takes .office →
     let admitted := (s.sale .one).state = .idle ∧ (s.sale .two).state = .idle ∧
       s.pool.records = []
     (¬admitted → exec (.restart .office []) s = s.answered .office 0x3F (refuse .state)) ∧
     (admitted →
       let t := s.sendReply .office 0x3F done true
       exec (.restart .office []) s = .next t ∧
       exec (.replyTransmitEnd .office) t = .next { t.setPort .office
         { t.port .office with sending := none } with phase := .startingUp }))

/-! ### The close of an event -/

/-- R159–R162, R140: at the close of an event each condition flag stands as its condition does, every event flag
and enable as it was, and each notice line is asserted while some flag of its port is both set and enabled;
nothing else changes but the flags, the lines and Retained Memory.

R43, R73, R104, R113–R117: an event that touches work in progress ends, before its close, with the boundaries
of the two paths (each: the grant's end, the grant decision, the start of a move), the sales whose payout is over,
and the planner's next request. R138, R139: at the quiet point that then holds (both sales IDLE, no skim live, the
planner FREE) an armed switch is made, and at no other. That these follow the event's own effect in this order is
the model's reading (log 21).

These consequences touch no stock, no stroke record and no link. -/
def Obligations.EventClosesByConditionsAndConsequences : Prop :=
  (∀ s : State,
     let t := s.closeEvent
     let low := ∃ d, s.value d ≠ 0 ∧ (s.denom d).enabled = true ∧
       ((allStores.filter (fun k => (s.store k).denom == some d && (s.store k).state == .ready &&
         (s.store k).pay)).map (fun k => (s.store k).free)).sum ≤ s.active[d].low
     let f := t.officeNotices.flags
     (f.jam = true ↔ ∃ k, (s.store k).state = .jammed) ∧
     (f.cassette = true ↔ ∃ k, (s.store k).state = .absent ∨ (s.store k).state = .uncertain) ∧
     (f.cashboxFull = true ↔ ∃ k, s.space k = 0) ∧
     (f.stockLow = true ↔ low) ∧
     (∀ n, n = .recovered ∨ n = .shiftInexact ∨ n = .skimAdvised ∨ n = .profileSwitched →
       f.get n = s.officeNotices.flags.get n) ∧
     t.officeNotices.enables = s.officeNotices.enables ∧
     (t.officeNotices.line = true ↔ ∃ n, f.get n = true ∧ t.officeNotices.enables.get n = true) ∧
     (∀ l,
       let g := (t.laneNotices.get l).flags
       (g.presentOverdue = true ↔ (s.sale l).state = .presented ∧ (s.sale l).timer = .expired) ∧
       (g.chuteOccupied = true ↔
         ∃ k, s.pool.chain (.lane l) k ≠ [] ∧ (s.path k).openingUsed.get l = false ∧
           (s.path k).grant ≠ .laneRun l ∧ (s.pins.chuteOccupied.get l).get k = true) ∧
       (g.lowChange = true ↔ low) ∧
       (∀ n, n = .completionReady ∨ n = .settleRefused ∨ n = .pieceReturned ∨ n = .tenderReached →
         g.get n = (s.laneNotices.get l).flags.get n) ∧
       (t.laneNotices.get l).enables = (s.laneNotices.get l).enables ∧
       ((t.laneNotices.get l).line = true ↔
         ∃ n, g.get n = true ∧ (t.laneNotices.get l).enables.get n = true)) ∧
     t = { s with officeNotices := t.officeNotices, laneNotices := t.laneNotices,
                  retained := t.retained }) ∧
  (∀ s : State,
     let boundary (t : State) (k : Kind) : State := ((t.reviewGrant k).decideGrant k).startMove k
     let paths := boundary (boundary s .coin) .note
     let t := ((paths.settleSale .one).settleSale .two).takeNext
     let quiet := (∀ l, (t.sale l).state = .idle) ∧ t.planner.work = none ∧
       t.planner.waitingSkim = none ∧ ∀ k, t.pool.chain .office k = []
     s.finish = s.settleWork.closeEvent ∧
     (t.armed = true → quiet → s.settleWork = { t with
       active := t.pendingMarks, armed := false
       officeNotices := { t.officeNotices with flags :=
         { t.officeNotices.flags with profileSwitched := true } } }) ∧
     (¬(t.armed = true ∧ quiet) → s.settleWork = t)) ∧
  (∀ s : State,
     let t := s.settleWork
     t.pending = s.pending ∧ t.phase = s.phase ∧ t.pins = s.pins ∧ t.denoms = s.denoms ∧
     t.classes = s.classes ∧ t.stores = s.stores ∧ t.boxes = s.boxes ∧ t.limits = s.limits ∧
     t.heads = s.heads ∧ t.totals = s.totals ∧ t.ports = s.ports ∧ t.retained = s.retained ∧
     t.pendingMarks = s.pendingMarks ∧ t.pool.records = s.pool.records ∧
     t.pool.free = s.pool.free ∧ (∀ l, t.mode l = s.mode l) ∧
     ((t.active = s.active ∧ t.armed = s.armed) ∨
       (s.armed = true ∧ t.active = s.pendingMarks ∧ t.armed = false ∧
         t.officeNotices.flags.profileSwitched = true ∧ t.planner.work = none ∧
         t.skimLive = false ∧ ∀ l, (t.sale l).state = .idle)))

/-- R113, R104: on an AVAILABLE path with grant NONE an eligible lane is granted a run, of two the lane that
is not the last-granted one; with no lane eligible the office is granted a stroke if its chain holds a
record; otherwise the grant stays NONE. The latch takes the head of the granted chain. A lane chain is
eligible when it holds a record and no occupied chute holds it for its opening run (R112, R116). A path that is
RE-HOMING makes no grant (R111), and one that is granted makes none while its grant lasts.

R114: a lane's run is over once its chain on the path holds no record and no make-up of the lane waits or is in
work; until then it keeps the grant, its latch following the chain's head while no stroke of the path runs
(R104); the latch of an ungranted path is empty. R115: an OFFICE stroke's grant is over at its stroke's end (no
stroke runs and none is latched), with its chain, or when a lane chain becomes eligible before the stroke has
started. -/
def Obligations.GrantIsDecidedAndOverByItsRules : Prop :=
  (∀ (s : State) (k : Kind), (s.path k).availability = .available → (s.path k).grant = .none →
     let headLatch (o : Owner) : Option Latch :=
       (s.pool.chain o k).head?.map (fun r => { slot := r.slot, store := r.store, dest := r.dest })
     let eligible (l : Lane) : Prop := s.pool.chain (.lane l) k ≠ [] ∧
       ((s.path k).openingUsed.get l = true ∨ (s.pins.chuteOccupied.get l).get k = false)
     (∀ l, eligible l → (¬eligible l.other ∨ (s.path k).lastGranted = l.other) →
       s.decideGrant k = s.setPath k { s.path k with
         grant := .laneRun l, latch := headLatch (.lane l), lastGranted := l,
         openingUsed := (s.path k).openingUsed.set l true }) ∧
     ((∀ l, ¬eligible l) → s.pool.chain .office k ≠ [] →
       s.decideGrant k = s.setPath k { s.path k with
         grant := .officeStroke, latch := headLatch .office }) ∧
     ((∀ l, ¬eligible l) → s.pool.chain .office k = [] → s.decideGrant k = s)) ∧
  (∀ (s : State) (k : Kind),
     ((∃ ms, (s.path k).availability = .rehoming ms) ∨ (s.path k).grant ≠ .none) →
     s.decideGrant k = s) ∧
  (∀ (s : State) (k : Kind),
     let runs := ∃ r ∈ s.pool.records, r.path = k ∧ r.state = .running
     let ended := s.setPath k { s.path k with grant := .none, latch := none }
     let keeps (latch : Option Stroke) := s.setPath k { s.path k with
       latch := latch.map (fun r => { slot := r.slot, store := r.store, dest := r.dest }) }
     ((s.path k).grant = .none → s.reviewGrant k = keeps none) ∧
     (∀ l, (s.path k).grant = .laneRun l →
       let made := s.planner.waitingLane.get l = some .makeup ∨
         s.jobInWork = some (.lane l .makeup)
       (s.pool.chain (.lane l) k = [] → ¬made → s.reviewGrant k = ended) ∧
       ((s.pool.chain (.lane l) k ≠ [] ∨ made) →
         (runs → s.reviewGrant k = keeps none) ∧
         (¬runs → s.reviewGrant k = keeps (s.pool.chain (.lane l) k).head?))) ∧
     ((s.path k).grant = .officeStroke →
       let laneComes := ∃ l, s.pool.chain (.lane l) k ≠ [] ∧
         ((s.path k).openingUsed.get l = true ∨ (s.pins.chuteOccupied.get l).get k = false)
       (runs → s.reviewGrant k = keeps none) ∧
       (¬runs → ((s.path k).latch = none ∨ s.pool.chain .office k = [] ∨ laneComes) →
         s.reviewGrant k = ended) ∧
       (¬runs → (s.path k).latch ≠ none → s.pool.chain .office k ≠ [] → ¬laneComes →
         s.reviewGrant k = keeps (s.pool.chain .office k).head?)))

/-- R73, R42: a FREE planner takes a make-up before any settle or refund and those before a skim, and of two
lanes in a class the one not last served; the make-up takes the sale's owed as its target and sets it to 0;
a planner with a request in work, or with nothing waiting, takes none.

R74, R7, R20, R88: the snapshot of an attempt holds each store's state, denomination, PAY role and free count, each
denomination's value, kind, enabled flag (off in an unused entry, R1), low mark and target of the active profile,
each cashbox's space, and for a lane's request its target, the sale's ACCEPT_SHORT flag and committed counts, and
the stores that carry a live stroke of the lane. -/
def Obligations.PlannerTakesByClassAndTurn : Prop :=
  (∀ (s : State) (job : Job) (target : Nat),
    let n := s.snapshot job target
    (∀ k, n.store k =
      { state := (s.store k).state, denom := (s.store k).denom, pay := (s.store k).pay
        free := if (s.store k).state = .ready ∨ (s.store k).state = .paying
          then (s.store k).physical - (s.store k).reserved else 0 }) ∧
    (∀ d, n.denom d =
      { value := (s.denom d).value, kind := (s.denom d).kind
        enabled := (s.denom d).enabled && (s.denom d).value != 0
        low := s.active[d].low, target := s.active[d].target }) ∧
    (∀ k, n.space.get k = s.space k) ∧
    ∀ l r, job = .lane l r →
      n.target = target ∧ n.acceptShort = (s.sale l).acceptShort ∧
      n.coinsCommitted = (s.sale l).coinsCommitted ∧
      n.notesCommitted = (s.sale l).notesCommitted ∧
      ∀ k, k ∈ n.busy ↔ ∃ q ∈ s.pool.records, q.owner = .lane l ∧ q.store = k) ∧
  ∀ s : State,
    let takes (t : State) (l : Lane) (r : LaneRequest) (target : Nat) : State :=
      { t with planner :=
        { t.planner with
          waitingLane := t.planner.waitingLane.set l none, lastServed := l,
          work := some { job := .lane l r, attempt := 1, stopped := false,
                         snap := t.snapshot (.lane l r) target } } }
    let makeup (l : Lane) : Prop := s.planner.waitingLane.get l = some .makeup
    let first (l : Lane) : Prop := s.planner.waitingLane.get l = some .settle ∨
      s.planner.waitingLane.get l = some .refund
    (s.planner.work ≠ none → s.takeNext = s) ∧
    (s.planner.work = none →
      (∀ l, makeup l → (¬makeup l.other ∨ s.planner.lastServed = l.other) →
        s.takeNext = takes (s.setSale l { s.sale l with owed := 0 }) l .makeup (s.sale l).owed) ∧
      (∀ l r, (∀ l', ¬makeup l') → first l → s.planner.waitingLane.get l = some r →
        (¬first l.other ∨ s.planner.lastServed = l.other) →
        s.takeNext = takes s l r (s.sale l).target) ∧
      (∀ q, (∀ l, s.planner.waitingLane.get l = none) → s.planner.waitingSkim = some q →
        s.takeNext = { s with planner :=
          { s.planner with
            waitingSkim := none,
            work := some { job := .skim q, attempt := 1, stopped := false,
                           snap := s.snapshot (.skim q) 0 } } }) ∧
      ((∀ l, s.planner.waitingLane.get l = none) → s.planner.waitingSkim = none →
        s.takeNext = s))

/-- R43, R45, R46, R131: a sale in PAYING is presented once both its chains have ended, owed is 0 and no
make-up of the lane waits or is in work: the present timer starts, the presenter opens on notes paid and
otherwise stands as it stood, and the sale closes at once if both chutes report empty. Until then nothing happens.
That a presenter opened while its sensor reports empty stands open is the model's choice (log 30). -/
def Obligations.SaleIsPresentedWhenItsPayoutIsOver : Prop :=
  ∀ (s : State) (l : Lane),
    let ended := (s.sale l).state = .paying ∧
      (∀ k, s.pool.chain (.lane l) k = [] ∧ (s.path k).grant ≠ .laneRun l) ∧
      (s.sale l).owed = 0 ∧ s.planner.waitingLane.get l ≠ some .makeup ∧
      s.jobInWork ≠ some (.lane l .makeup)
    let notes := ∃ d, (s.denom d).kind = .note ∧ s.value d ≠ 0 ∧ (s.sale l).paidPieces d ≠ 0
    (¬ended → s.settleSale l = s) ∧
    (ended → ∀ presenters, (notes → presenters = s.presenterOpen.set l true) →
      (¬notes → presenters = s.presenterOpen) →
      let t := { s.setSale l { s.sale l with
                   state := .presented, timer := .running s.limits.presentTimeout } with
                 presenterOpen := presenters }
      (s.pins.chuteOccupied.get l = { coin := false, note := false } →
        s.settleSale l = t.closeSale l (t.sale l).presentedOutcome) ∧
      (s.pins.chuteOccupied.get l ≠ { coin := false, note := false } → s.settleSale l = t))

/-! ### Sales -/

/-- R31: OPEN SALE, its checks in order and the sale context it opens; the lane's tallies are set to 0
(R105). That a flags byte with another bit set is refused with RANGE together with the due, after the other
checks, is the model's choice (log 9). -/
def Obligations.OpenSaleOpensTheSale : Prop :=
  ∀ (s : State) (l : Lane) (hi lo flags : Byte), s.takes (.lane l) →
    exec (.openSale (.lane l) [hi, lo, flags]) s =
      if s.mode l ≠ .serve ∨ (s.sale l).state ≠ .idle then s.answered (.lane l) 0x01 (refuse .state)
      else if s.slot l ≠ none then s.answered (.lane l) 0x01 (refuse .unread)
      else if 4 ≤ flags.toNat ∨ hi.toNat * 256 + lo.toNat = 0 then
        s.answered (.lane l) 0x01 (refuse .range)
      else
        let t := s.setSale l
          { state := .tendering, sequence := (s.sale l).sequence + 1,
            due := hi.toNat * 256 + lo.toNat, tendered := 0, autoSettle := flags.getLsbD 0,
            acceptShort := flags.getLsbD 1, targetKind := .none, target := 0, paid := 0,
            overpay := 0, shortfall := 0, owed := 0, coinsCommitted := 0, notesCommitted := 0,
            pieces := Vector.replicate 12 0, lastResult := .none, cancelPending := false,
            haltPending := false, timer := .stopped, retracted := false }
        ({ t with pool := { t.pool with
            tallies := t.pool.tallies.set (.lane l) { coin := Tally.zero, note := Tally.zero } }
          }.closeEvent).answered (.lane l) 0x01
            (answer (bigEndian 2 ((s.sale l).sequence + 1).toNat))

/-- R77: change rounded to the rounding unit, a remainder of exactly half the unit upwards.

R33, R61: a credited piece raises tendered; the addition that brings it to due or above settles a sale
with AUTO_SETTLE and raises TENDER_REACHED for any other; no later addition does either. -/
def Obligations.ChangeIsRoundedAndCreditActsAtTheDue : Prop :=
  ((∀ u c, 2 * (c % u) < u → roundChange u c = c - c % u) ∧
   (∀ u c, u ≤ 2 * (c % u) → roundChange u c = c - c % u + u) ∧
   (∀ c, roundChange 1 c = c) ∧
   roundChange 5 712 = 710 ∧ roundChange 5 713 = 715 ∧ roundChange 5 2 = 0 ∧
   roundChange 10 715 = 720 ∧ roundChange 10 714 = 710 ∧ roundChange 10 5 = 10 ∧
   (∀ u c, u = 1 ∨ u = 5 ∨ u = 10 → c ≤ 131070 → roundChange u c ≤ 131070)) ∧
  (∀ (s : State) (l : Lane) (v : Nat),
     let t := s.setSale l { s.sale l with tendered := (s.sale l).tendered + v }
     let reaches := (s.sale l).tendered < (s.sale l).due ∧ (s.sale l).due ≤ (s.sale l).tendered + v
     (¬reaches → s.credit l v = t) ∧
     (reaches → (s.sale l).autoSettle = false →
       s.credit l v = t.laneFlag l .tenderReached true) ∧
     (reaches → (s.sale l).autoSettle = true →
       let target := roundChange s.limits.roundingUnit
         ((s.sale l).tendered + v - (s.sale l).due)
       (target = 0 → s.credit l v = (t.setSale l { t.sale l with
         targetKind := .change, target := 0, lastResult := .exact }).closeSale l .paid) ∧
       (target ≠ 0 → s.credit l v = ((t.setSale l { t.sale l with
         targetKind := .change, target := target, state := .planning }).laneFlag l .tenderReached
           false).placeLane l (some .settle))))

/-- R34, R35: SETTLE in TENDERING clears SETTLE_REFUSED, refuses a sale below its due with NOT_ENOUGH, and
otherwise sets the rounded target: 0 closes the sale PAID at once, any other asks the planner. A flag byte
other than 0 or ACCEPT_SHORT is answered RANGE before the sale's state is looked at (the model's choice, log
9). That a refusal with NOT_ENOUGH clears SETTLE_REFUSED too is its reading (log 25). -/
def Obligations.SettleClosesOrAsksForAPlan : Prop :=
  ∀ (s : State) (l : Lane) (b : Byte), s.takes (.lane l) →
    let x := { s.sale l with
      acceptShort := (s.sale l).acceptShort || b == 2, targetKind := .change,
      target := roundChange s.limits.roundingUnit ((s.sale l).tendered - (s.sale l).due) }
    let t := s.laneFlag l .settleRefused false
    exec (.settle (.lane l) [b]) s =
      if b ≠ 0 ∧ b ≠ 2 then s.answered (.lane l) 0x03 (refuse .range)
      else if (s.sale l).state ≠ .tendering then s.answered (.lane l) 0x03 (refuse .state)
      else if (s.sale l).tendered < (s.sale l).due then
        t.closeEvent.answered (.lane l) 0x03 (refuse .notEnough)
      else if x.target = 0 then
        (((t.setSale l { x with lastResult := .exact }).closeSale l .paid).finish).answered
          (.lane l) 0x03 done
      else
        ((((t.setSale l { x with state := .planning }).laneFlag l .tenderReached false).placeLane l
          (some .settle)).finish).answered (.lane l) 0x03 accepted

/-- R37, R38: CANCEL SALE closes a sale with nothing tendered, turns one in TENDERING or with its settle
waiting into a refund of tendered, marks one whose settle is in work, and is refused in every other state. -/
def Obligations.CancelClosesOrRefunds : Prop :=
  ∀ (s : State) (l : Lane), s.takes (.lane l) →
    let refund := ((s.setSale l { s.sale l with
        targetKind := .refund, target := (s.sale l).tendered, state := .planning,
        cancelPending := false }).laneFlag l .tenderReached false).placeLane l (some .refund)
    let cancellable := (s.sale l).state = .planning ∧ (s.sale l).targetKind = .change ∧
      (s.sale l).cancelPending = false
    exec (.cancelSale (.lane l) []) s =
      if (s.sale l).state = .tendering ∧ (s.sale l).tendered = 0 then
        ((s.closeSale l .cancelled).finish).answered (.lane l) 0x04 done
      else if (s.sale l).state = .tendering ∨
          (cancellable ∧ s.planner.waitingLane.get l = some .settle) then
        refund.finish.answered (.lane l) 0x04 accepted
      else if cancellable then
        ((s.setSale l { s.sale l with cancelPending := true }).closeEvent).answered (.lane l) 0x04
          accepted
      else s.answered (.lane l) 0x04 (refuse .state)

/-- R44, R130: HALT PAYOUT from a lane port with its key turned drops the lane's WAITING strokes, moves
their value and the sale's owed to shortfall, takes their pieces off the committed counts and off their
stores' reservations, and withdraws a waiting make-up; a sale already halted is left alone, and any other
state is refused. R95, R101, R105: the dropped records leave the pool, their slots lie on the free list with the
highest on top, and the lane's tallies count them dropped. -/
def Obligations.HaltDropsWaitingStrokesIntoShortfall : Prop :=
  ∀ (s : State) (l : Lane), s.takesKeyed l →
    ((s.sale l).state ≠ .paying →
      exec (.haltPayout (.lane l) []) s = s.answered (.lane l) 0x05 (refuse .state)) ∧
    ((s.sale l).state = .paying → (s.sale l).haltPending = true →
      exec (.haltPayout (.lane l) []) s = s.answered (.lane l) 0x05 done) ∧
    ((s.sale l).state = .paying → (s.sale l).haltPending = false →
      let x := { s.sale l with
        haltPending := true, shortfall := (s.sale l).shortfall + (s.sale l).owed, owed := 0 }
      let t := s.setSale l x
      let waiting := if s.planner.waitingLane.get l = some .makeup
        then s.planner.waitingLane.set l none else s.planner.waitingLane
      ∃ u : State,
        exec (.haltPayout (.lane l) []) s = u.finish.answered (.lane l) 0x05 done ∧
        State.givesBack { t with planner := { t.planner with waitingLane := waiting } } u
          (fun r => if waitingOf (.lane l) r then r.count else 0) ∧
        s.endsRecords u (fun _ => false) (waitingOf (.lane l)))

/-- R45: COLLECT closes a PRESENTED sale whatever the chutes report, with the outcome of R48; in any other
state it is refused.

R48, R49, R106, R110: a close writes the completion record into the lane's slot, raises COMPLETION_READY,
sets the sale to IDLE with its sequence kept, and clears the lane's tallies and opening runs. Of more than ten
denominations with pieces paid the record lists ten, none of which another, left out, passes in value. -/
def Obligations.CollectClosesAndTheCloseWritesItsRecord : Prop :=
  (∀ (s : State) (l : Lane), s.takes (.lane l) →
     let outcome : SaleOutcome :=
       if (s.sale l).haltPending then .halted
       else if (s.sale l).targetKind = .refund then .refunded
       else if 0 < (s.sale l).shortfall ∨ (s.sale l).retracted = true then .short
       else .paid
     exec (.collect (.lane l) []) s =
       if (s.sale l).state = .presented then
         ((s.closeSale l outcome).finish).answered (.lane l) 0x06 done
       else s.answered (.lane l) 0x06 (refuse .state)) ∧
  (∀ (s : State) (l : Lane) (outcome : SaleOutcome),
     let t := s.closeSale l outcome
     let x := s.sale l
     t.sale l = Sale.idle x.sequence ∧ t.mode l = s.mode l ∧
     (∃ entries, s.listsPieces x.pieces entries ∧ t.slot l = some
         { sequence := x.sequence, outcome := outcome, due := x.due, tendered := x.tendered,
           target := x.target, paid := x.paid, overpay := x.overpay, shortfall := x.shortfall,
           pieces := entries }) ∧
     (t.laneNotices.get l).flags =
       { (s.laneNotices.get l).flags with completionReady := true, tenderReached := false } ∧
     (∀ k, t.tally (.lane l) k = Tally.zero ∧ t.path k =
       { s.path k with openingUsed := (s.path k).openingUsed.set l false }) ∧
     t.lane l.other = s.lane l.other ∧ t.laneNotices.get l.other = s.laneNotices.get l.other ∧
     t.pool.records = s.pool.records ∧ t.pool.free = s.pool.free ∧
     t = { s with lanes := t.lanes, laneNotices := t.laneNotices, pool := t.pool, paths := t.paths })

/-- R47: RETRACT NOTES, its checks in order; the notes of the sale's pieces paid go into the note cashbox,
are booked RETRACTED (R150: up to the counter's limit, past which the shift is inexact), and move their value
from paid to shortfall. -/
def Obligations.RetractMovesTheBundleToTheNoteCashbox : Prop :=
  ∀ (s : State) (l : Lane), s.takesKeyed l →
    let isNote (d : Denom) : Bool :=
      (s.denom d).kind == .note && s.value d != 0 && (s.sale l).paidPieces d != 0
    let pieces := (allDenoms.filter isNote).map (s.sale l).paidPieces
    let worth := ((allDenoms.filter isNote).map (fun d => (s.sale l).paidPieces d * s.value d)).sum
    let box := s.box .note
    let pastLimit := ∃ d, isNote d = true ∧
      4294967295 < (s.counters d).retracted + (s.sale l).paidPieces d
    let passes := (s.sale l).state = .presented ∧ (s.pins.chuteOccupied.get l).note = true ∧
      pieces ≠ [] ∧ box.present = true ∧ box.count + box.promised + pieces.sum ≤ box.capacity
    (¬passes → exec (.retractNotes (.lane l) []) s = s.answered (.lane l) 0x07 (refuse .state)) ∧
    (passes → ∃ u : State,
      exec (.retractNotes (.lane l) []) s = u.closeEvent.answered (.lane l) 0x07 done ∧
      (∀ d, (u.box .note).countOf d =
          box.countOf d + if isNote d then (s.sale l).paidPieces d else 0) ∧
      (∀ d, (u.counters d).retracted =
          if isNote d then min 4294967295 ((s.counters d).retracted + (s.sale l).paidPieces d)
          else (s.counters d).retracted) ∧
      (∀ d, u.counters d = { s.counters d with retracted := (u.counters d).retracted }) ∧
      (∀ d, (u.sale l).paidPieces d = if isNote d then 0 else (s.sale l).paidPieces d) ∧
      u.sale l = { s.sale l with
        paid := (s.sale l).paid - worth, shortfall := (s.sale l).shortfall + worth,
        retracted := true, pieces := (u.sale l).pieces } ∧
      u.presenterOpen = s.presenterOpen.set l false ∧
      s.inexactFollows u pastLimit ∧
      u.stores = s.stores ∧ u.box .coin = s.box .coin ∧ u.pool = s.pool ∧ u.planner = s.planner ∧
      u.lane l.other = s.lane l.other ∧ u.mode l = s.mode l ∧ u.slot l = s.slot l)

/-- R50: READ COMPLETION takes the record in the slot and clears COMPLETION_READY, durably; with an empty
slot it answers an empty record and changes nothing. R188: the retained record of an interrupted sale is
IDLE once its record is read, for a lane whose sale is IDLE. -/
def Obligations.ReadCompletionEmptiesTheSlot : Prop :=
  ∀ (s : State) (l : Lane), s.takes (.lane l) →
    (s.slot l = none → exec (.readCompletion (.lane l) []) s =
      s.answered (.lane l) 0x08 (answer (l.code :: List.replicate 21 0))) ∧
    (∀ c, s.slot l = some c →
      let t := ((s.setLane l { s.lane l with slot := none }).laneFlag l .completionReady
        false).closeEvent
      exec (.readCompletion (.lane l) []) s = t.answered (.lane l) 0x08 (answer (c.bytes l)) ∧
      ((s.sale l).state = .idle → (t.retained.sales.get l).state = .idle))

/-- R26–R29: SET LANE MODE. A lane port is refused for LOAD, the office port moves a lane between any two
modes; both need an IDLE sale. A change clears the lane's latches, a latched report being answered RETURN,
and clears SETTLE_REFUSED and PIECE_RETURNED; naming the present mode changes nothing. -/
def Obligations.SetLaneModeChangesAnIdleLane : Prop :=
  (∀ (s : State) (l : Lane) (b : Byte), readMode b = none → s.takes (.lane l) →
    exec (.setLaneMode (.lane l) [b]) s = s.answered (.lane l) 0x11 (refuse .range)) ∧
  (∀ (s : State) (a b : Byte), (a.toNat = 0 ∨ 2 < a.toNat) ∨ readMode b = none →
    s.takes .office →
    exec (.setLaneMode .office [a, b]) s = s.answered .office 0x11 (refuse .range)) ∧
  ∀ (s : State) (l : Lane) (m : Mode) (b : Byte), readMode b = some m →
    let cleared (h : Head) : Head :=
      if h.latch = none then h else { latch := none, answer := some .giveBack }
    let changed := if s.mode l = m then s else
      (((((s.setLane l { s.lane l with mode := m }).setHead l .coin
        (cleared (s.head l .coin))).setHead l .note (cleared (s.head l .note))).laneFlag l
          .settleRefused false).laneFlag l .pieceReturned false).closeEvent
    (s.takes (.lane l) → exec (.setLaneMode (.lane l) [b]) s =
      if m = .load ∨ s.mode l = .load then s.answered (.lane l) 0x11 (refuse .level)
      else if (s.sale l).state ≠ .idle then s.answered (.lane l) 0x11 (refuse .state)
      else changed.answered (.lane l) 0x11 done) ∧
    (s.takes .office → exec (.setLaneMode .office [l.code, b]) s =
      if (s.sale l).state ≠ .idle then s.answered .office 0x11 (refuse .state)
      else changed.answered .office 0x11 done)

/-- R45, R46, R131: a chute sensor that reports both chutes of a PRESENTED sale empty closes it; a presenter
that reports empty closes. The present timer that runs out raises PRESENT_OVERDUE while the sale is
PRESENTED. -/
def Obligations.ChutesAndTimerActOnAPresentedSale : Prop :=
  ∀ (s : State) (l : Lane), s.phase = .running →
    (∀ k occupied,
      let chutes := (s.pins.chuteOccupied.get l).set k occupied
      let seen := { s with pins := { s.pins with
        chuteOccupied := s.pins.chuteOccupied.set l chutes } }
      let t := if k = .note ∧ occupied = false then
        { seen with presenterOpen := s.presenterOpen.set l false } else seen
      (((s.sale l).state = .presented ∧ chutes = { coin := false, note := false }) →
        exec (.chuteSensorChange l k occupied) s =
          .next (t.closeSale l (s.sale l).presentedOutcome).finish) ∧
      (¬((s.sale l).state = .presented ∧ chutes = { coin := false, note := false }) →
        exec (.chuteSensorChange l k occupied) s = .next t.finish)) ∧
    (∀ seconds, (s.sale l).timer = .running seconds →
      let t := s.setSale l { s.sale l with timer := .expired }
      exec (.presentTimerExpiry l) s = .next t.closeEvent ∧
      ((s.sale l).state = .presented →
        (t.closeEvent.laneNotices.get l).flags.presentOverdue = true))

/-! ### Reads and notices -/

/-- R24, R32, R107, R108, R137, R151, R163: the requests that read answer what they read as it stands and
change nothing but the port that replies; a record, owner or index out of range is refused.

R176, R178–R182, R151, R152: every field of the records returned stands at its offset with its code or number,
where the number fits the field's width. That the bits of a flag byte which no layout lists are sent as 0 is the
model's choice (log 31). -/
def Obligations.ReadsAnswerInTheirLayout : Prop :=
  (∀ s : State,
     (∀ l, s.takes (.lane l) →
       exec (.readTender (.lane l) []) s =
         s.answered (.lane l) 0x02 (answer (s.sale l).tenderBytes) ∧
       exec (.readStock (.lane l) []) s = s.answered (.lane l) 0x09 (answer s.stockBytes) ∧
       exec (.readPlan (.lane l) []) s =
         s.answered (.lane l) 0x10 (answer (s.planBytes (.lane l))) ∧
       exec (.readNotices (.lane l) []) s =
         s.answered (.lane l) 0x12 (answer (s.laneNotices.get l).bytes)) ∧
     (s.takes .office →
       (∀ o : Owner, exec (.readPlan .office [o.code]) s =
         s.answered .office 0x10 (answer (s.planBytes o))) ∧
       (∀ b : Byte, b = 0 ∨ 3 < b.toNat →
         exec (.readPlan .office [b]) s = s.answered .office 0x10 (refuse .range)) ∧
       exec (.readNotices .office []) s =
         s.answered .office 0x12 (answer s.officeNotices.bytes) ∧
       (∀ k : StoreId, exec (.readStore .office [BitVec.ofNat 8 k.val]) s =
         s.answered .office 0x20 (answer (s.storeBytes k))) ∧
       exec (.readStore .office [12]) s = s.answered .office 0x20 (answer (s.boxBytes .coin)) ∧
       exec (.readStore .office [13]) s = s.answered .office 0x20 (answer (s.boxBytes .note)) ∧
       (∀ b : Byte, 13 < b.toNat →
         exec (.readStore .office [b]) s = s.answered .office 0x20 (refuse .range)) ∧
       (∀ d : Denom,
         exec (.readTotals .office [0, BitVec.ofNat 8 d.val]) s =
           s.answered .office 0x21 (answer ((s.shiftLine d).bytes 0 d s.totals.inexact
             s.totals.shift)) ∧
         exec (.readTotals .office [1, BitVec.ofNat 8 d.val]) s =
           s.answered .office 0x21 (answer (s.totals.previous.lines[d].bytes 1 d
             s.totals.previous.inexact s.totals.previous.shift))) ∧
       (∀ r b : Byte, 1 < r.toNat ∨ 11 < b.toNat →
         exec (.readTotals .office [r, b]) s = s.answered .office 0x21 (refuse .range)) ∧
       exec (.readProfile .office [0]) s =
         s.answered .office 0x22 (answer (profileBytes s.armed s.active)) ∧
       exec (.readProfile .office [1]) s =
         s.answered .office 0x22 (answer (profileBytes s.armed s.pendingMarks)) ∧
       (∀ b : Byte, 1 < b.toNat →
         exec (.readProfile .office [b]) s = s.answered .office 0x22 (refuse .range)))) ∧
  ([SaleState.idle, .tendering, .planning, .paying, .presented].map SaleState.code = [0, 1, 2, 3, 4] ∧
   [SaleOutcome.paid, .short, .refunded, .halted, .cancelled, .interrupted].map SaleOutcome.code =
     [1, 2, 3, 4, 5, 6] ∧
   [TargetKind.none, .change, .refund].map TargetKind.code = [0, 1, 2] ∧
   [SettleResult.none, .exact, .short, .noExact, .stockChanged].map SettleResult.code =
     [0, 1, 2, 3, 4] ∧
   [StoreState.ready, .paying, .jammed, .uncertain, .absent, .disabled].map StoreState.code =
     [0, 1, 2, 3, 4, 5] ∧
   [Owner.lane .one, .lane .two, .office].map Owner.code = [1, 2, 3] ∧
   [Dest.cup .one, .cup .two, .pres .one, .pres .two, .coinBox, .noteBox].map Dest.code =
     [0, 1, 2, 3, 4, 5] ∧
   [Origin.main, .makeup].map Origin.code = [0, 1] ∧ [Kind.coin, .note].map Kind.code = [0, 1] ∧
   [StrokeState.waiting, .running, .done, .dropped].map StrokeState.code = [0, 1, 2, 3] ∧
   [Stage.none, .outSeen, .exchanged].map Stage.code = [0, 1, 2] ∧
   officeOrder.map OfficeNotice.code = [1, 2, 3, 4, 5, 6, 7, 8] ∧
   laneOrder.map LaneNotice.code = [0x11, 0x12, 0x13, 0x14, 0x15, 0x16, 0x17]) ∧
  (∀ x : Sale, x.tenderBytes.length = 28 ∧ holdsAt x.tenderBytes
     [(0, 1, x.state.code.toNat), (1, 2, x.sequence.toNat), (3, 2, x.due), (5, 3, x.tendered),
      (8, 1, x.autoSettle.toNat + 2 * x.acceptShort.toNat), (9, 1, x.targetKind.code.toNat),
      (10, 3, x.target), (13, 3, x.paid), (16, 3, x.overpay), (19, 3, x.shortfall), (22, 3, x.owed),
      (25, 1, x.coinsCommitted), (26, 1, x.notesCommitted), (27, 1, x.lastResult.code.toNat)]) ∧
  (∀ s : State,
     let used := allDenoms.filter s.used
     s.stockBytes.length = 1 + 8 * used.length ∧ holdsAt s.stockBytes [(0, 1, used.length)] ∧
     ∀ i d, used[i]? = some d →
       let usable (k : StoreId) : Bool := (s.store k).denom == some d && (s.denom d).enabled &&
         (s.store k).state == .ready && (s.store k).pay
       let freeStock := ((allStores.filter usable).map (fun k => (s.store k).free)).sum
       holdsAt s.stockBytes
       [(1 + 8 * i, 1, d.val), (2 + 8 * i, 2, s.value d), (4 + 8 * i, 1, (s.denom d).kind.code.toNat),
        (5 + 8 * i, 1, (s.denom d).enabled.toNat), (6 + 8 * i, 2, freeStock),
        (8 + 8 * i, 1, (decide (freeStock ≤ s.active[d].low)).toNat)]) ∧
  (∀ (x : Completion) (l : Lane),
     (x.bytes l).length = 22 + 3 * x.pieces.length ∧ holdsAt (x.bytes l)
       [(0, 1, l.code.toNat), (1, 2, x.sequence.toNat), (3, 1, x.outcome.code.toNat), (4, 2, x.due),
        (6, 3, x.tendered), (9, 3, x.target), (12, 3, x.paid), (15, 3, x.overpay),
        (18, 3, x.shortfall), (21, 1, x.pieces.length)] ∧
     (∀ (i : Nat) (e : Denom × Nat), x.pieces[i]? = some e →
       holdsAt (x.bytes l) [(22 + 3 * i, 1, e.1.val), (23 + 3 * i, 2, e.2)]) ∧
     emptyCompletionBytes l = l.code :: List.replicate 21 0) ∧
  (∀ (s : State) (o : Owner), ∃ sections : Kind → List Byte,
     s.planBytes o = sections .coin ++ sections .note ∧ ∀ k,
       let chain := s.pool.chain o k
       (sections k).length = 9 + 12 * chain.length ∧ holdsAt (sections k)
         [(0, 2, (s.tally o k).done), (2, 2, (s.tally o k).cutShort), (4, 2, (s.tally o k).dropped),
          (6, 2, (s.tally o k).delivered), (8, 1, chain.length)] ∧
       ∀ i r, chain[i]? = some r →
         let next := match chain[i + 1]? with
           | some r' => r'.slot.val
           | none => 0xFF
         holdsAt (sections k)
           [(9 + 12 * i, 1, r.slot.val), (10 + 12 * i, 1, r.owner.code.toNat),
            (11 + 12 * i, 1, r.path.code.toNat), (12 + 12 * i, 1, r.store.val),
            (13 + 12 * i, 2, r.count), (15 + 12 * i, 2, r.delivered),
            (17 + 12 * i, 1, r.dest.code.toNat), (18 + 12 * i, 1, r.origin.code.toNat),
            (19 + 12 * i, 1, r.state.code.toNat), (20 + 12 * i, 1, next)]) ∧
  (∀ (s : State) (k : StoreId),
     let x := s.store k
     (s.storeBytes k).length = 14 ∧ holdsAt (s.storeBytes k)
       [(0, 1, k.val), (1, 1, match x.denom with | some d => d.val | none => 0xFF),
        (2, 2, x.capacity), (4, 2, x.physical), (6, 2, x.reserved), (8, 2, x.free),
        (10, 1, x.state.code.toNat), (11, 1, x.pay.toNat + 2 * x.fill.toNat), (12, 1, x.fills.length),
        (13, 1, x.inFlight.toNat)]) ∧
  (∀ (s : State) (k : Kind),
     let x := s.box k
     let listed := allDenoms.filter (fun d => s.used d && (s.denom d).kind == k)
     (s.boxBytes k).length = 13 + 3 * listed.length ∧ holdsAt (s.boxBytes k)
       [(0, 1, 12 + k.code.toNat), (1, 1, x.present.toNat), (2, 2, x.capacity), (4, 2, x.count),
        (6, 2, x.promised), (8, 2, s.space k), (10, 1, x.stage.code.toNat),
        (11, 1, if k = .coin then 0 else 30), (12, 1, listed.length)] ∧
     ∀ i d, listed[i]? = some d →
       holdsAt (s.boxBytes k) [(13 + 3 * i, 1, d.val), (14 + 3 * i, 2, x.countOf d)]) ∧
  (∀ (x : ShiftLine) (r : Byte) (d : Denom) (inexact : Bool) (shift : Word16),
     let bytes := x.bytes r d inexact shift
     let c := x.counters
     let eight := [c.accepted, c.loaded, c.paid, c.retracted, c.skimmed, c.emptied, c.removed, c.unplaced]
     let imbalance : Int := x.holdings - (x.opening + c.accepted + c.loaded + c.retracted + c.adjusted -
       c.paid - c.emptied - c.removed - c.unplaced)
     bytes.length = 115 ∧ holdsAt bytes
       [(0, 1, r.toNat), (1, 1, d.val), (2, 1, inexact.toNat), (3, 2, shift.toNat), (5, 2, x.value),
        (7, 3, x.opening), (10, 3, x.holdings), (103, 6, x.holdings * x.value)] ∧
     (∀ i n, eight[i]? = some n → holdsAt bytes [(13 + 4 * i, 4, n), (49 + 6 * i, 6, n * x.value)]) ∧
     (c.adjusted.natAbs < 2 ^ 31 → signedAt bytes 45 4 = c.adjusted) ∧
     ((c.adjusted * x.value).natAbs < 2 ^ 47 → signedAt bytes 97 6 = c.adjusted * x.value) ∧
     (imbalance.natAbs < 2 ^ 47 → signedAt bytes 109 6 = imbalance)) ∧
  ((∀ n : OfficeNotices,
     let set := officeOrder.filter n.flags.get
     n.bytes.length = set.length + 3 ∧ (n.bytes.drop 1).take set.length = set.map OfficeNotice.code ∧
     holdsAt n.bytes [(0, 1, set.length), (2 + set.length, 1, n.line.toNat)] ∧
     ∀ i f, officeOrder[i]? = some f →
       (numberAt n.bytes (1 + set.length) 1).testBit i = n.enables.get f) ∧
   ∀ n : LaneNotices,
     let set := laneOrder.filter n.flags.get
     n.bytes.length = set.length + 3 ∧ (n.bytes.drop 1).take set.length = set.map LaneNotice.code ∧
     holdsAt n.bytes [(0, 1, set.length), (2 + set.length, 1, n.line.toNat)] ∧
     ∀ i f, laneOrder[i]? = some f →
       (numberAt n.bytes (1 + set.length) 1).testBit i = n.enables.get f) ∧
  (∀ (armed : Bool) (m : Vector Marks 12),
     (profileBytes armed m).length = 73 ∧ holdsAt (profileBytes armed m) [(0, 1, armed.toNat)] ∧
     ∀ d : Denom, holdsAt (profileBytes armed m)
       [(1 + 6 * d.val, 2, m[d].low), (3 + 6 * d.val, 2, m[d].target), (5 + 6 * d.val, 2, m[d].high)]) ∧
  ∀ s : State, s.limitBytes.length = 9 ∧ holdsAt s.limitBytes
    [(0, 1, s.limits.coinLimit), (1, 1, s.limits.noteLimit), (2, 1, s.limits.roundingUnit),
     (3, 2, s.limits.presentTimeout), (5, 2, (s.box .coin).capacity), (7, 2, (s.box .note).capacity)]

/-- R164, R165: ENABLE NOTICE and DISABLE NOTICE turn one enable of the port and DISMISS NOTICE clears one
dismissable flag of it, the line following (R162); a flag of another port is refused with RANGE, and one
that cannot be dismissed with STATE. -/
def Obligations.NoticeRequestsActOnTheirOwnPort : Prop :=
  ∀ s : State,
    (∀ l, s.takes (.lane l) →
      let notices := s.laneNotices.get l
      let becomes (x : LaneNotices) := { s with laneNotices := s.laneNotices.set l x }
      (∀ n : LaneNotice,
        exec (.enableNotice (.lane l) [n.code]) s = (becomes
          (laneSet notices.flags (notices.enables.set n true))).answered (.lane l) 0x13 done ∧
        exec (.disableNotice (.lane l) [n.code]) s = (becomes
          (laneSet notices.flags (notices.enables.set n false))).answered (.lane l) 0x14 done ∧
        exec (.dismissNotice (.lane l) [n.code]) s =
          if n = .settleRefused ∨ n = .pieceReturned then (becomes
            (laneSet (notices.flags.set n false) notices.enables)).answered (.lane l) 0x15 done
          else s.answered (.lane l) 0x15 (refuse .state)) ∧
      (∀ b : Byte, b.toNat < 0x11 ∨ 0x17 < b.toNat →
        exec (.enableNotice (.lane l) [b]) s = s.answered (.lane l) 0x13 (refuse .range) ∧
        exec (.disableNotice (.lane l) [b]) s = s.answered (.lane l) 0x14 (refuse .range) ∧
        exec (.dismissNotice (.lane l) [b]) s = s.answered (.lane l) 0x15 (refuse .range))) ∧
    (s.takes .office →
      let notices := s.officeNotices
      let becomes (x : OfficeNotices) := { s with officeNotices := x }
      (∀ n : OfficeNotice,
        exec (.enableNotice .office [n.code]) s = (becomes
          (officeSet notices.flags (notices.enables.set n true))).answered .office 0x13 done ∧
        exec (.disableNotice .office [n.code]) s = (becomes
          (officeSet notices.flags (notices.enables.set n false))).answered .office 0x14 done ∧
        exec (.dismissNotice .office [n.code]) s =
          if n = .recovered ∨ n = .skimAdvised ∨ n = .profileSwitched then (becomes
            (officeSet (notices.flags.set n false) notices.enables)).answered .office 0x15 done
          else s.answered .office 0x15 (refuse .state)) ∧
      (∀ b : Byte, b = 0 ∨ 8 < b.toNat →
        exec (.enableNotice .office [b]) s = s.answered .office 0x13 (refuse .range) ∧
        exec (.disableNotice .office [b]) s = s.answered .office 0x14 (refuse .range) ∧
        exec (.dismissNotice .office [b]) s = s.answered .office 0x15 (refuse .range)))

/-- R167, R13: the manager key and the not-empty report of a level sensor change nothing but the position
the part reads; the key sets its lane port's level, 1 turned and 2 not turned, and the office port is at
level 0.

R13: a change to empty marks a store whose physical count is above 0, and only the change does. -/
def Obligations.SensorReportsChangeTheirPin : Prop :=
  (∀ s : State,
     (∀ l turned, exec (.managerKeyChange l turned) s = .next { s with
       pins := { s.pins with keyTurned := s.pins.keyTurned.set l turned } }) ∧
     (∀ k, exec (.emptyLevelNotEmpty k) s = .next { s with
       pins := { s.pins with levelEmpty := s.pins.levelEmpty.set k.val false k.isLt } }) ∧
     s.portLevel .office = 0 ∧
     ∀ l, s.portLevel (.lane l) = if s.pins.keyTurned.get l then 1 else 2) ∧
  (∀ (s : State) (k : StoreId),
     let seen := { s with pins := { s.pins with
       levelEmpty := s.pins.levelEmpty.set k.val true k.isLt } }
     (s.pins.levelEmpty[k] = true → exec (.emptyLevelReport k) s = .next s) ∧
     (s.phase = .running → s.pins.levelEmpty[k] = false →
       (0 < (s.store k).physical →
         exec (.emptyLevelReport k) s = .next (seen.markUncertain k).finish) ∧
       ((s.store k).physical = 0 → exec (.emptyLevelReport k) s = .next seen.finish)))

/-! ### The inventory -/

/-- R2: WRITE DENOMINATION, its checks in order; the class entries that name a denomination whose value is
written 0 or whose kind changes become REJECT. That a value written 0 over a value of 0 "becomes 0" is the
model's reading (log 28), and that an enabled byte other than 0 and 1 is refused with the rule's RANGE checks its
choice (log 9). -/
def Obligations.WriteDenominationChecksThenWrites : Prop :=
  ∀ (s : State) (i hi lo kb eb : Byte), s.takes .office →
    let value := hi.toNat * 256 + lo.toNat
    let out := fun a => s.answered .office 0x28 a
    let run := exec (.writeDenomination .office [i, hi, lo, kb, eb]) s
    (¬(s.mode .one = .closed ∧ s.mode .two = .closed) → run = out (refuse .state)) ∧
    (s.mode .one = .closed → s.mode .two = .closed →
      ((readIndex i = none ∨ 50000 < value ∨ readKind kb = none ∨ readFlag eb = none) →
        run = out (refuse .range)) ∧
      ∀ d k e, readIndex i = some d → value ≤ 50000 → readKind kb = some k →
        readFlag eb = some e →
        let clash := ∃ d', d' ≠ d ∧ s.value d' ≠ 0 ∧ s.value d' = value ∧ (s.denom d').kind = k
        let differs := value ≠ s.value d ∨ k ≠ (s.denom d).kind
        let held := (∃ j, (s.store j).denom = some d ∧ (s.store j).physical ≠ 0) ∨
          ∃ j, (s.box j).countOf d ≠ 0
        let drops := value = 0 ∨ k ≠ (s.denom d).kind
        let assigned := ∃ j, (s.store j).denom = some d
        (value ≠ 0 → clash → run = out (refuse .range)) ∧
        (¬(value ≠ 0 ∧ clash) →
          (differs → held → run = out (refuse .holdsStock)) ∧
          (¬(differs ∧ held) →
            (drops → assigned → run = out (refuse .state)) ∧
            (¬(drops ∧ assigned) → ∃ u : State,
              run = u.closeEvent.answered .office 0x28 done ∧
              u.denom d = { value := value, kind := k, enabled := e } ∧
              (∀ d', d' ≠ d → u.denom d' = s.denom d') ∧
              (∀ (j : Kind) (c : ClassCode), (u.classes.get j)[c] =
                if drops ∧ (s.classes.get j)[c] = some d then none else (s.classes.get j)[c]) ∧
              u = { s with denoms := u.denoms, classes := u.classes }))))

/-- R5: WRITE CLASS ENTRY needs both lanes CLOSED, a code of at most 62 and REJECT or a used denomination of
the table's kind, and writes that one entry. That a table byte other than 0 and 1 is refused with the rule's RANGE
checks is the model's choice (log 9). -/
def Obligations.WriteClassEntryWritesOneEntry : Prop :=
  ∀ (s : State) (table code entry : Byte), s.takes .office →
    let run := exec (.writeClassEntry .office [table, code, entry]) s
    (¬(s.mode .one = .closed ∧ s.mode .two = .closed) →
      run = s.answered .office 0x29 (refuse .state)) ∧
    (s.mode .one = .closed → s.mode .two = .closed →
      ((readKind table = none ∨ 62 < code.toNat ∨ readIndexOrNone entry = none) →
        run = s.answered .office 0x29 (refuse .range)) ∧
      ∀ (k : Kind) (c : ClassCode) (e : Option Denom), readKind table = some k →
        c.val ≤ 62 → code.toNat = c.val → readIndexOrNone entry = some e →
        ((∃ d, e = some d ∧ (s.value d = 0 ∨ (s.denom d).kind ≠ k)) →
          run = s.answered .office 0x29 (refuse .range)) ∧
        ((∀ d, e = some d → s.value d ≠ 0 ∧ (s.denom d).kind = k) →
          let classes := s.classes.set k ((s.classes.get k).set c.val e c.isLt)
          run = ({ s with classes := classes }.closeEvent).answered .office 0x29 done))

/-- R146: ASSIGN STORE, its checks in order and the store's state after it. A JAMMED store given a
denomination stays JAMMED, a state the rule's table does not list (log 24). That a roles byte with another bit set
is refused with the rule's RANGE checks is the model's choice (log 9). -/
def Obligations.AssignStoreWritesAnEmptyStore : Prop :=
  ∀ (s : State) (sb db hi lo rb : Byte), s.takes .office →
    let capacity := hi.toNat * 256 + lo.toNat
    let out := fun a => s.answered .office 0x2A a
    let run := exec (.assignStore .office [sb, db, hi, lo, rb]) s
    (¬(s.mode .one = .closed ∧ s.mode .two = .closed) → run = out (refuse .state)) ∧
    (s.mode .one = .closed → s.mode .two = .closed →
      ((readIndex sb = none ∨ readIndexOrNone db = none ∨ readTwoFlags rb = none ∨ capacity = 0 ∨
        4095 < capacity) → run = out (refuse .range)) ∧
      ∀ k d pay fill, readIndex sb = some k → readIndexOrNone db = some d →
        readTwoFlags rb = some (pay, fill) → 1 ≤ capacity → capacity ≤ 4095 →
        let x := s.store k
        let fits := ∀ e, d = some e → s.value e ≠ 0 ∧
          (s.denom e).kind = if k.val < 8 then .coin else .note
        (¬fits → run = out (refuse .range)) ∧
        (fits → x.physical ≠ 0 → run = out (refuse .holdsStock)) ∧
        (fits → x.physical = 0 → (x.fills ≠ [] ∨ x.state = .paying) → run = out (refuse .state)) ∧
        (fits → x.physical = 0 → x.fills = [] → x.state ≠ .paying →
          let after : StoreState :=
            if x.state = .absent then .absent
            else if d = none then .disabled
            else if x.state = .disabled then .disabled
            else if x.state = .jammed then .jammed
            else if d = x.denom then x.state
            else .uncertain
          let y := { x with
            denom := d, capacity := capacity, pay := pay, fill := fill, state := after }
          run = ((s.setStore k y).closeEvent).answered .office 0x2A done))

/-- R19, R20, R46, R76, R80, R81: WRITE LIMITS needs both lanes CLOSED, writes every value clamped, and
replies with the values as held. -/
def Obligations.WriteLimitsClampsEveryValue : Prop :=
  ∀ (s : State) (coins notes u t1 t0 c1 c0 n1 n0 : Byte), s.takes .office →
    let run := exec (.writeLimits .office [coins, notes, u, t1, t0, c1, c0, n1, n0]) s
    (¬(s.mode .one = .closed ∧ s.mode .two = .closed) →
      run = s.answered .office 0x2B (refuse .state)) ∧
    (s.mode .one = .closed → s.mode .two = .closed →
      let held (k : Kind) (least n : Nat) : Cashbox :=
        { s.box k with
          capacity := max (max least (min 8000 n)) ((s.box k).count + (s.box k).promised) }
      let t := { s with
        limits :=
          { coinLimit := max 1 (min 60 coins.toNat), noteLimit := max 1 (min 30 notes.toNat)
            roundingUnit := if u.toNat ≤ 3 then 1 else if u.toNat ≤ 7 then 5 else 10
            presentTimeout := max 10 (min 300 (t1.toNat * 256 + t0.toNat)) }
        boxes :=
          { coin := held .coin 1 (c1.toNat * 256 + c0.toNat)
            note := held .note 31 (n1.toNat * 256 + n0.toNat) } }
      run = t.closeEvent.answered .office 0x2B (answer t.limitBytes))

/-- R136: WRITE PROFILE ENTRY clamps the three marks to the summed capacity of the index and orders them
around the target; it writes the pending profile alone.

R138, R139: COMMIT PROFILE arms the switch; at a quiet point (both sales IDLE, no skim live, the planner
FREE) the switch is made in the same event; an armed switch is left as it is. -/
def Obligations.ProfileIsWrittenAndCommitted : Prop :=
  (∀ (s : State) (i l1 l0 t1 t0 h1 h0 : Byte), s.takes .office →
     let run := exec (.writeProfileEntry .office [i, l1, l0, t1, t0, h1, h0]) s
     (11 < i.toNat → run = s.answered .office 0x2C (refuse .range)) ∧
     (∀ d : Denom, i.toNat = d.val →
       let top := min 4095 (((allStores.filter (fun k => (s.store k).denom == some d)).map
         (fun k => (s.store k).capacity)).sum)
       let low := min (l1.toNat * 256 + l0.toNat) top
       let target := min (t1.toNat * 256 + t0.toNat) top
       let high := min (h1.toNat * 256 + h0.toNat) top
       let m : Marks := { low := min low target, target := target, high := max high target }
       run = { s with pendingMarks := s.pendingMarks.set d.val m d.isLt }.answered .office 0x2C
         (answer (bigEndian 2 m.low ++ bigEndian 2 m.target ++ bigEndian 2 m.high)))) ∧
  (∀ s : State, s.takes .office →
     let quiet := (s.sale .one).state = .idle ∧ (s.sale .two).state = .idle ∧
       s.skimLive = false ∧ s.planner.work = none
     let run := exec (.commitProfile .office []) s
     (s.armed = true → run = s.answered .office 0x2D done) ∧
     (s.armed = false → ¬quiet →
       run = { s with armed := true }.closeEvent.answered .office 0x2D done) ∧
     (s.armed = false → quiet →
       run = (({ s with active := s.pendingMarks, armed := false }.officeFlag .profileSwitched
         true).closeEvent).answered .office 0x2D done))

/-- R14, R15, R145: DISABLE STORE, ENABLE STORE and CLEAR JAM by the store's state. -/
def Obligations.StoreServiceFollowsTheStoreState : Prop :=
  ∀ s : State, s.takes .office →
    (∀ k : StoreId,
      let b : Byte := BitVec.ofNat 8 k.val
      let goes (x : StoreState) := (s.setStore k { s.store k with state := x }).closeEvent
      exec (.disableStore .office [b]) s =
        (if (s.store k).state = .disabled then s.answered .office 0x36 done
        else if (s.store k).state ≠ .paying ∧ (s.store k).state ≠ .absent ∧
            (s.store k).reserved = 0 then (goes .disabled).answered .office 0x36 done
        else s.answered .office 0x36 (refuse .state)) ∧
      exec (.enableStore .office [b]) s =
        (if (s.store k).state = .disabled ∧ (s.store k).denom ≠ none then
          (goes .uncertain).answered .office 0x35 done
        else s.answered .office 0x35 (refuse .state)) ∧
      exec (.clearJam .office [b]) s =
        (if (s.store k).state = .jammed then (goes .uncertain).answered .office 0x34 done
        else s.answered .office 0x34 (refuse .state))) ∧
    (∀ b : Byte, 11 < b.toNat →
      exec (.disableStore .office [b]) s = s.answered .office 0x36 (refuse .range) ∧
      exec (.enableStore .office [b]) s = s.answered .office 0x35 (refuse .range) ∧
      exec (.clearJam .office [b]) s = s.answered .office 0x34 (refuse .range))

/-- R144: DECLARE COUNT, its checks in order; a request that passes exchanges the count, books the
difference ADJUSTED (R150: up to its limits, past which the shift is inexact), takes the store to READY and
replies with the previous count. A store has a denomination where it is not DISABLED (R6). -/
def Obligations.DeclareCountExchangesTheCount : Prop :=
  ∀ (s : State) (b hi lo : Byte), s.takes .office →
    let n := hi.toNat * 256 + lo.toNat
    let run := exec (.declareCount .office [b, hi, lo]) s
    (11 < b.toNat → run = s.answered .office 0x33 (refuse .range)) ∧
    ∀ k : StoreId, b.toNat = k.val →
      let x := s.store k
      let ready := x.state = .uncertain ∨ (x.state = .ready ∧ x.reserved = 0)
      ((¬ready ∨ x.fills ≠ []) → run = s.answered .office 0x33 (refuse .state)) ∧
      (ready → x.fills = [] → x.capacity < n → run = s.answered .office 0x33 (refuse .range)) ∧
      (ready → x.fills = [] → n ≤ x.capacity → x.physical < 65536 → ∃ u : State,
        run = u.closeEvent.answered .office 0x33 (answer (bigEndian 2 x.physical)) ∧
        u.stores = (s.setStore k { x with physical := n, state := .ready }).stores ∧
        (∀ d, x.denom = some d →
          u.counters d = { s.counters d with
            adjusted := max (-2147483647) (min 2147483647
              ((s.counters d).adjusted + ((n : Int) - (x.physical : Int)))) }) ∧
        (∀ e, x.denom ≠ some e → u.counters e = s.counters e) ∧
        u = { s with stores := u.stores, totals := u.totals, officeNotices := u.officeNotices } ∧
        s.inexactFollows u (∃ d, x.denom = some d ∧
          let sum := (s.counters d).adjusted + ((n : Int) - (x.physical : Int))
          (2147483647 < sum ∨ sum < -2147483647)) ∧
        u.totals.opening = s.totals.opening ∧ u.totals.shift = s.totals.shift ∧
        u.totals.previous = s.totals.previous)

/-- R22: the exchange stage follows the box's sensor, and CASHBOX EMPTIED books and zeroes the counts of a
present, exchanged box (R150: up to the counter's limit, past which the shift is inexact) and is refused
otherwise. CASHBOX_IN is stated here, CASHBOX_OUT with the skim work it stops. -/
def Obligations.CashboxIsEmptiedAfterItsExchange : Prop :=
  ∀ s : State,
    (∀ k, s.phase = .running →
      let stage : Stage := if (s.box k).stage = .outSeen then .exchanged else (s.box k).stage
      exec (.cashboxIn k) s = .next (({ s with
        pins := { s.pins with boxIn := s.pins.boxIn.set k true } }.setBox k
          { s.box k with present := true, stage := stage }).closeEvent)) ∧
    (s.takes .office →
      (∀ b : Byte, 1 < b.toNat →
        exec (.cashboxEmptied .office [b]) s = s.answered .office 0x37 (refuse .range)) ∧
      ∀ k : Kind,
        let run := exec (.cashboxEmptied .office [k.code]) s
        (¬((s.box k).present = true ∧ (s.box k).stage = .exchanged) →
          run = s.answered .office 0x37 (refuse .state)) ∧
        ((s.box k).present = true → (s.box k).stage = .exchanged → ∃ u : State,
          run = u.closeEvent.answered .office 0x37 done ∧
          u.boxes = s.boxes.set k
            { s.box k with counts := Vector.replicate 12 0, stage := .none } ∧
          (∀ d, u.counters d = { s.counters d with
            emptied := min 4294967295 ((s.counters d).emptied + (s.box k).countOf d) }) ∧
          u = { s with boxes := u.boxes, totals := u.totals, officeNotices := u.officeNotices } ∧
          s.inexactFollows u (∃ d, 4294967295 < (s.counters d).emptied + (s.box k).countOf d) ∧
          u.totals.opening = s.totals.opening ∧ u.totals.shift = s.totals.shift ∧
          u.totals.previous = s.totals.previous))

/-- R141–R143, R130: SKIM TO TARGET and EMPTY STORE are refused while a skim is live and otherwise clear the
office's tallies and place the request; STOP SKIM withdraws a waiting skim, marks one in work stopped and
drops the WAITING office strokes with what they hold of their stores and cashboxes, their slots and tallies
following (R95, R101, R105). -/
def Obligations.SkimIsPlacedAndStopped : Prop :=
  ∀ s : State, s.takes .office →
    let live := s.planner.waitingSkim ≠ none ∨ (∃ q, s.jobInWork = some (.skim q)) ∨
      ∃ k, s.pool.chain .office k ≠ []
    let placed (q : SkimRequest) : State :=
      { s with
        pool := { s.pool with
          tallies := { s.pool.tallies with office := { coin := Tally.zero, note := Tally.zero } } }
        planner := { s.planner with waitingSkim := some q } }
    (live →
      exec (.skimToTarget .office []) s = s.answered .office 0x30 (refuse .state) ∧
      (∀ k : StoreId, exec (.emptyStore .office [BitVec.ofNat 8 k.val]) s =
        s.answered .office 0x31 (refuse .state)) ∧
      let stopped (w : Work) : Work := match w.job with
        | .skim _ => { w with stopped := true }
        | .lane _ _ => w
      ∃ u : State,
        exec (.stopSkim .office []) s = u.finish.answered .office 0x32 done ∧
        State.givesBack { s with planner := { s.planner with
          waitingSkim := none, work := s.planner.work.map stopped } } u
          (fun r => if waitingOf .office r then r.count else 0) ∧
        s.endsRecords u (fun _ => false) (waitingOf .office)) ∧
    (¬live →
      exec (.skimToTarget .office []) s = (placed .toTarget).finish.answered .office 0x30
        accepted ∧
      (∀ k : StoreId, exec (.emptyStore .office [BitVec.ofNat 8 k.val]) s =
        (placed (.emptyStore k)).finish.answered .office 0x31 accepted) ∧
      exec (.stopSkim .office []) s = s.answered .office 0x32 done) ∧
    (∀ b : Byte, 11 < b.toNat →
      exec (.emptyStore .office [b]) s = s.answered .office 0x31 (refuse .range))

/-- R153, R154: CLOSE SHIFT is refused while a sale, a pending fill, a stroke or planner work is open, and
otherwise copies the shift, opens the new one at the holdings with its counters 0, and answers the number of
the shift closed.

R149: the holdings of a denomination are the physical counts of its stores and its count in the cashbox of its
kind.

R156, R157: CLEAR CURRENCY, its checks in order; it closes the shift as R154 gives, makes every entry
unused, every class REJECT and every store UNASSIGNED, and zeroes both profiles. An entry keeps its kind,
which no block reads while it is unused (R1). -/
def Obligations.ShiftIsClosedAndCurrencyCleared : Prop :=
  (∀ (s : State) (d : Denom), s.holdings d =
     ((allStores.filter (fun k => (s.store k).denom == some d)).map
       (fun k => (s.store k).physical)).sum + (s.box (s.denom d).kind).countOf d) ∧
  (∀ s : State, s.takes .office →
     let busy := (s.sale .one).state ≠ .idle ∨ (s.sale .two).state ≠ .idle ∨
       (∃ k, (s.store k).fills ≠ []) ∨ s.pool.records ≠ [] ∨ s.planner.work ≠ none ∨
       s.planner.waitingSkim ≠ none ∨ ∃ l, s.planner.waitingLane.get l ≠ none
     let run := exec (.closeShift .office []) s
     (busy → run = s.answered .office 0x38 (refuse .state)) ∧
     (¬busy → ∃ u : State,
       run = u.closeEvent.answered .office 0x38 (answer (bigEndian 2 s.totals.shift.toNat)) ∧
       s.closesShift u ∧ (∀ d, (u.shiftLine d).imbalance = 0) ∧
       u = { s with totals := u.totals, officeNotices := u.officeNotices })) ∧
  (∀ s : State, s.takes .office →
     let allowed := s.mode .one = .closed ∧ s.mode .two = .closed ∧ (∀ k, (s.store k).fills = []) ∧
       s.skimLive = false ∧ s.planner.work = none ∧ ∀ l, s.planner.waitingLane.get l = none
     let run := exec (.clearCurrency .office []) s
     (¬allowed → run = s.answered .office 0x39 (refuse .state)) ∧
     (allowed → (∃ d, s.holdings d ≠ 0) → run = s.answered .office 0x39 (refuse .holdsStock)) ∧
     (allowed → (∀ d, s.holdings d = 0) → ∃ u : State,
       run = u.closeEvent.answered .office 0x39 (answer (bigEndian 2 s.totals.shift.toNat)) ∧
       s.closesShift u ∧
       (∀ d, u.denom d = { value := 0, kind := (s.denom d).kind, enabled := false }) ∧
       (∀ (k : Kind) (c : ClassCode), (u.classes.get k)[c] = none) ∧
       (∀ k, u.store k = { s.store k with
         denom := none
         state := if (s.store k).state = .absent then .absent else .disabled }) ∧
       (∀ d : Denom, u.active[d] = Marks.zero ∧ u.pendingMarks[d] = Marks.zero) ∧
       u.armed = false ∧
       u = { s with denoms := u.denoms, classes := u.classes, stores := u.stores,
                    active := u.active, pendingMarks := u.pendingMarks, armed := u.armed,
                    totals := u.totals, officeNotices := u.officeNotices }))

/-! ### The intake and the stores -/

/-- R53, R52: a strobe from a head whose latch is EMPTY is taken; a FULL latch keeps its report. That the
head then holds no answer is the model's choice (log 19).

R4, R54–R60, R62: a route decision returns a piece by steps 1 to 3 with nothing done, gives it to the store of
its denomination with the lowest physical + fill pending that can take it, one no path's latch names (R64), else
to the cashbox of its kind, else returns it with PIECE_RETURNED; a routed piece is credited by R61. -/
def Obligations.ReportIsLatchedAndRouted : Prop :=
  (∀ (s : State) (l : Lane) (k : Kind) (code : ClassCode), s.phase = .running →
     ((s.head l k).latch = none → exec (.headStrobe l k code) s =
       .next (s.setHead l k { latch := some code, answer := none })) ∧
     ((s.head l k).latch ≠ none → exec (.headStrobe l k code) s = .next s)) ∧
  (∀ (s : State) (l : Lane) (k : Kind) (code : ClassCode), s.phase = .running →
     (s.head l k).latch = some code →
     let run := exec (.routeDecision l k) s
     let replies (t : State) (a : Answer) := t.setHead l k { latch := none, answer := some a }
     let entry : Option Denom := if code.val = 63 then none else (s.classes.get k)[code]
     let counter : FillCounter := if s.mode l = .load then .loaded else .accepted
     ((entry = none ∨ ∃ d, entry = some d ∧ s.enabled d = false) →
       run = .next (replies s .giveBack).closeEvent) ∧
     (∀ d, entry = some d → s.enabled d = true →
       let letsIn := s.mode l = .load ∨ (s.mode l = .serve ∧ (s.sale l).state = .tendering ∧
         (s.sale l).tendered + s.value d ≤ 131071)
       let credited (t : State) := if s.mode l = .serve then t.credit l (s.value d) else t
       let limit (j : StoreId) := if s.mode l = .load then (s.store j).capacity
         else min (s.store j).capacity (s.marks d).high
       let isOpen (j : StoreId) := (s.store j).denom = some d ∧ (s.store j).state = .ready ∧
         (s.store j).fill = true ∧ (s.store j).fills.length < 4 ∧
         ∀ p x, (s.path p).latch = some x → x.store ≠ j
       let filled (j : StoreId) := (s.store j).physical + (s.store j).fills.length
       let candidate (j : StoreId) := isOpen j ∧ filled j < limit j
       (¬letsIn → run = .next (replies s .giveBack).closeEvent) ∧
       (letsIn → ∀ j, candidate j →
         (∀ i, candidate i → filled j < filled i ∨ (filled j = filled i ∧ j.val ≤ i.val)) →
         let window := if k = .coin then 120 else 600
         run = .next (replies (credited (s.setStore j { s.store j with
           fills := (s.store j).fills ++ [{ denom := d, counter := counter, windowMs := window }]
           })) (.store j)).finish) ∧
       (letsIn → (∀ j, ¬candidate j) → 0 < s.space k → ∃ u : State,
         run = .next (replies (credited u) .cashbox).finish ∧
         u.boxes = s.boxes.set k ((s.box k).setCount d ((s.box k).countOf d + 1)) ∧
         u.totals = (s.book counter.counter d 1).totals ∧
         (u.officeNotices.flags.skimAdvised = true ↔
           s.officeNotices.flags.skimAdvised = true ∨ (s.mode l = .serve ∧ ∃ j, isOpen j)) ∧
         s.inexactFollows (u.officeFlag .skimAdvised s.officeNotices.flags.skimAdvised)
           (4294967295 < (s.counters d).get counter.counter + 1) ∧
         u = { s with boxes := u.boxes, totals := u.totals, officeNotices := u.officeNotices }) ∧
       (letsIn → (∀ j, ¬candidate j) → s.space k = 0 →
         run = .next ((replies (s.laneFlag l .pieceReturned true) .giveBack).closeEvent))))

/-- R65, R67: an entry pulse confirms the head of the fill-pending list, or is a stray entry on an empty
list; in either case a store at capacity keeps its count, books nothing and is marked UNCERTAIN. A JAMMED or
ABSENT store counts no stray entry, an UNASSIGNED one neither.

R66: at the expiry of its route window the head of the list leaves it, is booked to its counter and
UNPLACED, and its store is marked UNCERTAIN; physical does not change. -/
def Obligations.FillIsConfirmedOrExpires : Prop :=
  (∀ (s : State) (k : StoreId), s.phase = .running →
     let x := s.store k
     let run := exec (.entryPulse k) s
     (∀ f rest, x.fills = f :: rest →
       x.state = .ready ∨ x.state = .uncertain ∨ x.state = .disabled →
       (x.physical < x.capacity → run = .next ((s.setStore k
         { x with fills := rest, physical := x.physical + 1 }).book f.counter.counter f.denom
           1).finish) ∧
       (x.capacity ≤ x.physical →
         run = .next ((s.setStore k { x with fills := rest }).markUncertain k).finish)) ∧
     (x.fills = [] →
       ((x.denom = none ∨ x.state = .jammed ∨ x.state = .absent) → run = .next s.finish) ∧
       (∀ d, x.denom = some d → x.state ≠ .jammed → x.state ≠ .absent →
         (x.physical < x.capacity → run = .next (((s.setStore k
           { x with physical := x.physical + 1 }).bookAdjusted d 1).markUncertain k).finish) ∧
         (x.capacity ≤ x.physical → run = .next (s.markUncertain k).finish)))) ∧
  (∀ (s : State) (k : StoreId) (f : Fill) (rest : List Fill), s.phase = .running →
     (s.store k).fills = f :: rest →
     exec (.routeWindowExpiry k) s = .next (((((s.setStore k
       { s.store k with fills := rest }).book f.counter.counter f.denom 1).book .unplaced f.denom
         1).markUncertain k).finish))

/-- R12, R126: a READY store marked UNCERTAIN goes there at once and drops its WAITING strokes, which give
back what they hold, their slots and tallies following (R95, R101, R102, R105); a PAYING store holds the mark; in any
other state nothing changes.

R124, R18, R41: lowering a WAITING stroke takes one piece off its count, and that piece is given back as the
pieces of a dropped stroke are. -/
def Obligations.StoreIsMarkedAndStrokesLowered : Prop :=
  (∀ (s : State) (k : StoreId),
     ((s.store k).state = .ready →
       (s.setStore k { s.store k with state := .uncertain }).givesBack (s.markUncertain k)
         (fun r => if waitingOn k r then r.count else 0) ∧
       s.endsRecords (s.markUncertain k) (fun _ => false) (waitingOn k)) ∧
     ((s.store k).state = .paying →
       s.markUncertain k = s.setStore k { s.store k with marked := true }) ∧
     ((s.store k).state ≠ .ready → (s.store k).state ≠ .paying → s.markUncertain k = s)) ∧
  (∀ (s : State) (r : Stroke), s.pool.records.filter (fun q => q.slot == r.slot) = [r] →
     s.givesBack (s.lowerStroke r) (fun q => if q.slot = r.slot then 1 else 0) ∧
     (s.lowerStroke r).pool = { s.pool with records := s.pool.records.map (fun q : Stroke =>
       if q.slot = r.slot then { q with count := q.count - 1 } else q) })

/-- R9, R127, R10: a cassette out books the store's count REMOVED, ends its running stroke and drops its
WAITING ones, which give back what they hold, their slots and tallies following (R95, R101, R102, R105), books
its pending fills to their counters and UNPLACED, and leaves it ABSENT with nothing in it; a cassette in takes an
ABSENT store to UNCERTAIN, or DISABLED if UNASSIGNED, with nothing counted; a report that changes nothing changes
nothing. -/
def Obligations.CassetteLeavesAndReturns : Prop :=
  ∀ (s : State) (k : StoreId), s.phase = .running →
    let x := s.store k
    let seen (b : Bool) := { s with pins := { s.pins with
      cassetteIn := s.pins.cassetteIn.set k.val b k.isLt } }
    let removed := match x.denom with
      | some d => (seen false).book .removed d x.physical
      | none => seen false
    (x.state = .absent → exec (.cassetteOut k) s = .next (seen false)) ∧
    (x.state ≠ .absent → ∃ u : State, removed.givesBack u (x.heldBy k) ∧
      removed.endsRecords u x.channel.runs (waitingOn k) ∧
      exec (.cassetteOut k) s = .next (((x.fills.foldl (fun t f =>
        (t.book f.counter.counter f.denom 1).book .unplaced f.denom 1) u).setStore k
          { x with physical := 0, reserved := 0, state := .absent, fills := [],
                   inFlight := false, marked := false, channel := .idle }).finish)) ∧
    (x.state ≠ .absent → exec (.cassetteIn k) s = .next (seen true)) ∧
    (x.state = .absent →
      let after : StoreState := if x.denom = none then .disabled else .uncertain
      exec (.cassetteIn k) s = .next (((seen true).setStore k
        { x with physical := 0, reserved := 0, fills := [], state := after }).closeEvent))

/-- R22, R23, R128: a cashbox out moves its stage, drops the WAITING skim strokes into it, and takes a skim
stroke DRIVING into it to AFTER-RUN, its window opening, with what it still holds of its store and of the
box released. Its counts stay. -/
def Obligations.CashboxOutStopsItsSkim : Prop :=
  ∀ (s : State) (k : Kind), s.phase = .running →
    let dropped (r : Stroke) := waitingOf .office r && r.path == k
    let stage : Stage := if (s.box k).stage = .none then .outSeen else (s.box k).stage
    let out := { s with pins := { s.pins with boxIn := s.pins.boxIn.set k false } }.setBox k
      { s.box k with present := false, stage := stage }
    let after (t u : State) := exec (.cashboxOut k) s = .next u.finish ∧
      t.givesBack u (fun r => if dropped r then r.count else 0) ∧
      s.endsRecords u (fun _ => false) dropped
    ((∀ r ∈ s.pool.records, r.owner = .office → r.path = k → r.state ≠ .running) →
      ∃ u, after out u) ∧
    (∀ r slot ms, s.runningSkim k = some r → (s.store r.store).channel = .driving slot ms →
      let x := s.store r.store
      let window := if k = .coin then 200 else 300
      ∃ u, after ((out.setStore r.store { x with
          reserved := x.reserved - (r.count - r.delivered)
          channel := .afterRun slot window }).setBox k { out.box k with
            promised := (s.box k).promised - (r.count - r.delivered) }) u) ∧
    (∀ r slot ms, s.runningSkim k = some r → (s.store r.store).channel = .afterRun slot ms →
      ∃ u, after out u)

/-! ### The paths -/

/-- R111, R117: re-homing ends AVAILABLE at the path's cashbox destination; a completed move puts the
diverter at its destination, and a further move starts at once, of 150 ms or 250 ms, when the latch names
another destination and no stroke of the path runs. At every boundary of its path a move starts by the same rule:
the path AVAILABLE, no move in progress, no stroke running, and a latch that names another destination than the
diverter stands at, or one whose position is UNKNOWN; else none does, and a RE-HOMING path moves no diverter.

R118, R119, R11: the latched stroke starts when the path is AVAILABLE with no move, the diverter stands at
its destination and its store is READY with nothing pending: the record runs, the store goes to PAYING with
its marker set and its deadline armed by the count, and the latch empties. Otherwise nothing starts. That
the start is an event of its own is the model's reading (log 15). -/
def Obligations.DiverterArrivesAndTheStrokeStarts : Prop :=
  (∀ (s : State) (k : Kind), s.phase = .running →
     (∀ ms, (s.path k).availability = .rehoming ms →
       exec (.rehomeComplete k) s = .next ((s.setPath k { s.path k with
         availability := .available
         position := some (if k = .coin then .coinBox else .noteBox) }).finish)) ∧
     (∀ m, (s.path k).move = some m → (s.path k).availability = .available →
       let arrived := { s.path k with move := none, position := some m.dest }
       let again := ∃ x, (s.path k).latch = some x ∧ x.dest ≠ m.dest ∧
         ∀ r ∈ s.pool.records, r.path = k → r.state ≠ .running
       (¬again → exec (.diverterMoveComplete k) s = .next (s.setPath k arrived)) ∧
       (again → ∀ x, (s.path k).latch = some x →
         exec (.diverterMoveComplete k) s = .next (s.setPath k { arrived with
           position := none
           move := some { dest := x.dest, ms := if k = .coin then 150 else 250 } })))) ∧
  (∀ (s : State) (k : Kind),
     let may (x : Latch) := (s.path k).availability = .available ∧ (s.path k).move = none ∧
       (s.path k).position ≠ some x.dest ∧
       ∀ r ∈ s.pool.records, r.path = k → r.state ≠ .running
     ((s.path k).latch = none → s.startMove k = s) ∧
     ∀ x, (s.path k).latch = some x →
       (may x → s.startMove k = s.setPath k { s.path k with
         position := none, move := some { dest := x.dest, ms := if k = .coin then 150 else 250 } }) ∧
       (¬may x → s.startMove k = s)) ∧
  (∀ (s : State) (k : Kind) (x : Latch) (r : Stroke), s.phase = .running →
     (s.path k).latch = some x → s.record? x.slot = some r →
     let may := (s.path k).availability = .available ∧ (s.path k).move = none ∧
       (s.path k).position = some x.dest ∧ (s.store x.store).state = .ready ∧
       (s.store x.store).fills = []
     let deadline := if k = .coin then 400 + 80 * r.count else 1000 + 300 * r.count
     (¬may → exec (.strokeStart k) s = .next s) ∧
     (may → exec (.strokeStart k) s = .next
       ({ (s.setStore x.store { s.store x.store with
             state := .paying, inFlight := true, channel := .driving x.slot deadline }).setPath k
           { s.path k with latch := none } with
          pool := { s.pool with records := s.pool.records.map (fun q : Stroke =>
            if q.slot = x.slot then { q with state := .running } else q) } }.closeEvent)))

/-- R120, R121, R40: a piece pulse on a DRIVING channel counts one piece of the running stroke: delivered
up, physical and reserved down, the sale paid and PAID booked, or the cashbox counted and SKIMMED booked.
The piece that completes the count opens the after-run window of 200 ms or 300 ms. -/
def Obligations.PiecePulseCountsADrivenPiece : Prop :=
  ∀ (s : State) (k : StoreId) (slot : SlotId) (ms : Nat) (r : Stroke) (d : Denom),
    s.phase = .running → (s.store k).channel = .driving slot ms → s.record? slot = some r →
    (s.store k).denom = some d →
    let t := { s.setStore k { s.store k with
        physical := (s.store k).physical - 1, reserved := (s.store k).reserved - 1,
        channel := if r.delivered + 1 < r.count then .driving slot ms
          else .afterRun r.slot (if k.val < 8 then 200 else 300) } with
      pool := { s.pool with records := s.pool.records.map (fun q : Stroke =>
        if q.slot = r.slot then { q with delivered := q.delivered + 1 } else q) } }
    (∀ l, r.owner = .lane l → exec (.piecePulse k) s = .next (((t.setSale l
      ({ s.sale l with paid := (s.sale l).paid + s.value d }.setPieces d
        ((s.sale l).paidPieces d + 1))).book .paid d 1).closeEvent)) ∧
    (r.owner = .office → exec (.piecePulse k) s = .next (((t.setBox r.path
      { (s.box r.path).setCount d ((s.box r.path).countOf d + 1) with
        promised := (s.box r.path).promised - 1 }).book .skimmed d 1).closeEvent))

/-- R122–R124: an over-pay piece of a lane's stroke, after its count was complete, raises paid, overpay and
the pieces paid and books PAID; out of a counted store it lowers physical, taking a reservation deficit from
the WAITING stroke on the store planned last; at physical 0 it is booked ADJUSTED +1 as found, and the store
is marked. Delivered does not change.

R123, R122, R124: an over-pay piece of a skim stroke is booked SKIMMED and counted in its cashbox; at count
+ promised at capacity it takes the place of a promised piece, lowering the office's WAITING stroke into the
box planned last, or raises a capacity below 8,000, or is booked ADJUSTED −1. Out of a counted store it
lowers physical, a deficit then taken as for a lane; at physical 0 it is booked ADJUSTED +1 as found, and
the store is marked (the order of the two opposite bookings is the model's choice, log 18).

R16: an unbidden piece of a READY, UNCERTAIN or DISABLED store lowers a physical count above 0 and books
ADJUSTED −1; a READY store is marked UNCERTAIN; a JAMMED or ABSENT store counts nothing.

R97, R123, R124, R101: a WAITING stroke lowered to 0 is DROPPED: it leaves the pool, its slot and its tally
following, and holds nothing to give back. -/
def Obligations.PiecesBeyondTheCount : Prop :=
  (∀ (s : State) (k : StoreId) (slot : SlotId) (ms : Nat) (r : Stroke) (d : Denom) (l : Lane),
     s.phase = .running → (s.store k).channel = .afterRun slot ms → s.record? slot = some r →
     (s.store k).denom = some d → r.owner = .lane l →
     let paid (t : State) := (t.setSale l ({ s.sale l with
       paid := (s.sale l).paid + s.value d, overpay := (s.sale l).overpay + s.value d }.setPieces d
         ((s.sale l).paidPieces d + 1))).book .paid d 1
     let latest := (s.pool.records.filter (waitingOn k)).getLast?
     (0 < (s.store k).physical → (∀ q ∈ s.pool.records, q.state = .waiting → 0 < q.count) →
       let t := paid (s.setStore k { s.store k with physical := (s.store k).physical - 1 })
       (((s.store k).reserved < (s.store k).physical ∨ latest = none) →
         exec (.piecePulse k) s = .next t.finish) ∧
       (∀ q, (s.store k).physical ≤ (s.store k).reserved → latest = some q →
         exec (.piecePulse k) s = .next (t.lowerStroke q).dropEmptied.finish)) ∧
     ((s.store k).physical = 0 → (s.store k).state = .paying →
       (∀ q ∈ s.pool.records, q.state = .waiting → 0 < q.count) →
       exec (.piecePulse k) s = .next (((paid (s.bookAdjusted d 1)).setStore k
         { s.store k with marked := true }).finish))) ∧
  (∀ (s : State) (k : StoreId) (slot : SlotId) (ms : Nat) (r : Stroke) (d : Denom),
     s.phase = .running → (s.store k).channel = .afterRun slot ms → s.record? slot = some r →
     (s.store k).denom = some d → r.owner = .office →
     let b := s.box r.path
     let intoBox (t : State) : State :=
       if b.count + b.promised < b.capacity then
         t.setBox r.path (b.setCount d (b.countOf d + 1))
       else if 0 < b.promised then
         match (s.pool.records.filter (fun q => waitingOf .office q && q.path == r.path)).getLast? with
         | some q => (t.setBox r.path (b.setCount d (b.countOf d + 1))).lowerStroke q
         | none => t.setBox r.path
             { b.setCount d (b.countOf d + 1) with promised := b.promised - 1 }
       else if b.capacity < 8000 then
         t.setBox r.path { b.setCount d (b.countOf d + 1) with capacity := b.count + 1 }
       else t.bookAdjusted d (-1)
     (0 < (s.store k).physical →
       let t := (intoBox (s.setStore k
         { s.store k with physical := (s.store k).physical - 1 })).book .skimmed d 1
       ((t.store k).reserved ≤ (t.store k).physical →
         exec (.piecePulse k) s = .next t.dropEmptied.finish) ∧
       ((t.store k).physical < (t.store k).reserved →
         (∀ q, (t.pool.records.filter (waitingOn k)).getLast? = some q →
           exec (.piecePulse k) s = .next (t.lowerStroke q).dropEmptied.finish) ∧
         (t.pool.records.filter (waitingOn k) = [] →
           exec (.piecePulse k) s = .next t.dropEmptied.finish))) ∧
     ((s.store k).physical = 0 → exec (.piecePulse k) s = .next
       ((((intoBox (s.bookAdjusted d 1)).book .skimmed d 1).markUncertain k).dropEmptied).finish)) ∧
  (∀ (s : State) (k : StoreId) (d : Denom), s.phase = .running → (s.store k).channel = .idle →
     (s.store k).denom = some d →
     let counted := if 0 < (s.store k).physical then
         (s.setStore k { s.store k with physical := (s.store k).physical - 1 }).bookAdjusted d (-1)
       else s
     let run := exec (.piecePulse k) s
     ((s.store k).state = .ready → run = .next (counted.markUncertain k).finish) ∧
     ((s.store k).state = .uncertain ∨ (s.store k).state = .disabled → run = .next counted.finish) ∧
     ((s.store k).state = .jammed ∨ (s.store k).state = .absent → run = .next s.finish)) ∧
  (∀ s : State,
     s.endsRecords s.dropEmptied (fun _ => false) (fun r => r.state == .waiting && r.count == 0) ∧
     s.dropEmptied = { s with pool := s.dropEmptied.pool })

/-- R121, R125, R126, R41, R105: the close of the after-run window ends the running stroke DONE and takes
its store to READY, or to UNCERTAIN with its WAITING strokes dropped if it was marked; the expiry of the
deadline jams the store, gives the undelivered pieces back and drops its WAITING strokes. The ended records
leave the pool, their slots lie on the free list with the highest on top, and the chains' tallies count them
(R95, R101, R102). -/
def Obligations.StrokeEndsNormallyOrJams : Prop :=
  ∀ (s : State) (k : StoreId) (slot : SlotId) (ms : Nat), s.phase = .running →
    let x := s.store k
    (x.channel = .afterRun slot ms → ∃ u : State,
      s.givesBack u (fun r => if x.marked then x.heldBy k r else 0) ∧
      s.endsRecords u x.channel.runs (fun r => x.marked && waitingOn k r) ∧
      let after : StoreState := if x.marked then .uncertain else .ready
      exec (.afterRunWindowClose k) s = .next ((u.setStore k { u.store k with
        state := after, inFlight := false, marked := false, channel := .idle }).finish)) ∧
    (x.channel = .driving slot ms → ∃ u : State,
      s.givesBack u (x.heldBy k) ∧
      s.endsRecords u x.channel.runs (waitingOn k) ∧
      exec (.strokeDeadlineExpiry k) s = .next ((u.setStore k { u.store k with
        state := .jammed, inFlight := false, marked := false, channel := .idle }).finish))

/-! ### The planner -/

/-- R78–R80, R82–R84, R86–R88: over a snapshot whose every usable denomination has a value, a lane plan is the
best candidate of its search. The usable denominations, from stores that a make-up of a lane busy there leaves out,
stand in order of value, the note before the coin of one value. Pass 1, on the stock above the low marks, is taken
if it leaves nothing; else pass 2, on the whole free stock, if it does; else the one that leaves less, pass 1 where
they leave the same, and what is left is the shortfall. The counts are laid out over the stores by R86 and R87.

R80, R84: so the plan pays its target less its shortfall, within its piece budgets. -/
def Obligations.LanePlanIsTheBestOfItsSearch : Prop :=
  ∀ (n : Snapshot) (limits : Limits) (r : LaneRequest),
    (∀ d, (n.denom d).enabled = true → 0 < (n.denom d).value) →
    (∀ k d, (n.store k).denom = some d → (n.denom d).kind = storeKind k) →
    let plan := n.lanePlan limits r
    let excluded := if r = .makeup then n.busy else []
    let budget : Budgets :=
      { coins := limits.coinLimit - if r = .makeup then n.coinsCommitted else 0
        notes := limits.noteLimit - if r = .makeup then n.notesCommitted else 0 }
    let valueOf (k : StoreId) : Nat := match (n.store k).denom with
      | some d => (n.denom d).value
      | none => 0
    (∃ (ds : List Denom) (one two : List (List Nat)) (best1 best2 : List Nat),
      (∀ d, d ∈ ds ↔ ∃ k, n.plannedFrom excluded d k) ∧ ds.Nodup ∧
      ds.Pairwise (fun d e => (n.denom e).value < (n.denom d).value ∨
        ((n.denom e).value = (n.denom d).value ∧ ¬((n.denom d).kind = .coin ∧ (n.denom e).kind = .note))) ∧
      let stocked (stock : Denom → Nat) : List Stocked :=
        ds.map (fun d => { value := (n.denom d).value, kind := (n.denom d).kind, stock := stock d })
      let comfortable := stocked (fun d => n.freeStock excluded d - (n.denom d).low)
      let full := stocked (n.freeStock excluded)
      isPass comfortable n.target budget one ∧ isBest comfortable n.target one best1 ∧
      isPass full n.target budget two ∧ isBest full n.target two best2 ∧
      let left1 := n.target - worthOf comfortable best1
      let left2 := n.target - worthOf full best2
      let best := if left1 = 0 then best1 else if left2 = 0 then best2
        else if left1 ≤ left2 then best1 else best2
      plan.shortfall = n.target - worthOf full best ∧ ds.map (n.planned plan.strokes) = best) ∧
    n.laidOut excluded plan.strokes ∧
    (plan.strokes.map (fun x => x.count * valueOf x.store)).sum + plan.shortfall = n.target ∧
    plan.coins = ((plan.strokes.filter (fun x => x.store.val < 8)).map (·.count)).sum ∧
    plan.notes = ((plan.strokes.filter (fun x => 8 ≤ x.store.val)).map (·.count)).sum ∧
    plan.coins ≤ budget.coins ∧ plan.notes ≤ budget.notes

/-- R7, R17: the free count of a store is physical − reserved while it is READY or PAYING and 0 in every other
state; the reservation returns it as it was before the add, and is made exactly when it is at least the amount,
raising reserved by it. R91: the reservations of a plan are made in its order, or none is.

R87, R95, R96, R97, R100: the strokes of a plan take the slots from the top of the free list and join the end of
the planning order in the order of the plan, each WAITING with delivered 0 and the destination of its owner and
path.

R91–R93, R36, R38: the completion of a settle whose plan is exact or allowed short and whose every
reservation is made lays the strokes down in the order of the plan, takes the sale to PAYING with the
committed counts, and frees the planner; one refused for want of an exact plan goes back to TENDERING with
SETTLE_REFUSED; a cancelled one becomes a refund with nothing reserved; an attempt whose check fails is made
anew with a new snapshot, until the third hands back STOCK_CHANGED. -/
def Obligations.ReservationIsMadeAndSettleCompletes : Prop :=
  (∀ (s : State) (k : StoreId) (n : Nat),
     (s.reserve k n).1 = (s.store k).free ∧
     (n ≤ (s.store k).free → (s.reserve k n).2 =
       some (s.setStore k { s.store k with reserved := (s.store k).reserved + n })) ∧
     ((s.store k).free < n → (s.reserve k n).2 = none) ∧
     (s.store k).free = (if (s.store k).state = .ready ∨ (s.store k).state = .paying
       then (s.store k).physical - (s.store k).reserved else 0)) ∧
  (∀ s : State, s.reserveAll [] = some s ∧ ∀ (x : Planned) (rest : List Planned),
     s.reserveAll (x :: rest) = if x.count ≤ (s.store x.store).free then
       (s.setStore x.store { s.store x.store with
         reserved := (s.store x.store).reserved + x.count }).reserveAll rest
     else none) ∧
  (∀ (p : Pool) (o : Owner) (origin : Origin) (plan : List Planned), plan.length ≤ p.free.length →
     let path (x : Planned) : Kind := if x.store.val < 8 then .coin else .note
     p.write o origin plan =
       { p with
         free := p.free.drop plan.length
         records := p.records ++ (p.free.zip plan).map (fun (slot, x) =>
           { slot := slot, owner := o, path := path x, store := x.store, count := x.count,
             delivered := 0, origin := origin, state := .waiting,
             dest := match o, path x with
               | .lane l, .coin => .cup l
               | .lane l, .note => .pres l
               | .office, .coin => .coinBox
               | .office, .note => .noteBox }) }) ∧
  (∀ (s : State) (l : Lane) (w : Work), s.phase = .running → s.planner.work = some w →
     w.job = .lane l .settle →
     let plan := w.snap.lanePlan s.limits .settle
     let freed := { s with planner := { s.planner with work := none } }
     let run := exec .attemptCompletion s
     let refused (result : SettleResult) := (freed.setSale l { s.sale l with
       lastResult := result, target := 0, targetKind := .none,
       state := .tendering }).laneFlag l .settleRefused true
     let goes (t : State) (x : Sale) := t.setSale l { x with
       lastResult := if plan.shortfall = 0 then .exact else .short
       shortfall := x.shortfall + plan.shortfall
       coinsCommitted := plan.coins, notesCommitted := plan.notes, state := .paying }
     ((s.sale l).cancelPending = true → run = .next (freed.beginRefund l).finish) ∧
     ((s.sale l).cancelPending = false →
       (0 < plan.shortfall ∧ w.snap.acceptShort = false → run = .next (refused .noExact).finish) ∧
       (¬(0 < plan.shortfall ∧ w.snap.acceptShort = false) →
         (plan.strokes = [] → run = .next (goes freed (s.sale l)).finish) ∧
         (∀ t, plan.strokes ≠ [] → s.reserveAll plan.strokes = some t →
           plan.strokes.length ≤ s.pool.free.length →
           run = .next (goes { t with
             planner := { s.planner with work := none }
             pool := s.pool.write (.lane l) .main plan.strokes } (s.sale l)).finish) ∧
         (plan.strokes ≠ [] → s.reserveAll plan.strokes = none →
           (w.attempt < 3 → run = .next ({ s with planner := { s.planner with
             work := some { w with
               attempt := w.attempt + 1
               snap := s.snapshot w.job w.snap.target } } }.finish)) ∧
           (3 ≤ w.attempt → run = .next (refused .stockChanged).finish)))))

/-- R39, R42, R44, R91–R93: the completion of a refund takes the sale to PAYING, with its plan laid down or,
after the third failed check, with its whole target in shortfall; the completion of a make-up adds its
pieces to the committed counts and its shortfall, or after the third failed check its whole target, to
shortfall, and asks for the next make-up while value is owed; a halted make-up lays down nothing and its
target is shortfall. -/
def Obligations.RefundAndMakeupCompleteByTheirPlan : Prop :=
  ∀ (s : State) (l : Lane) (w : Work), s.phase = .running → s.planner.work = some w →
    let freed := { s with planner := { s.planner with work := none } }
    let run := exec .attemptCompletion s
    let anew := { s with planner := { s.planner with work := some { w with
      attempt := w.attempt + 1, snap := s.snapshot w.job w.snap.target } } }
    (w.job = .lane l .refund →
      let plan := w.snap.lanePlan s.limits .refund
      let goes (t : State) := t.setSale l { s.sale l with
        lastResult := if plan.shortfall = 0 then .exact else .short
        shortfall := (s.sale l).shortfall + plan.shortfall
        coinsCommitted := plan.coins, notesCommitted := plan.notes, state := .paying }
      (plan.strokes = [] → run = .next (goes freed).finish) ∧
      (∀ t, plan.strokes ≠ [] → s.reserveAll plan.strokes = some t →
        plan.strokes.length ≤ s.pool.free.length →
        run = .next (goes { t with
          planner := { s.planner with work := none }
          pool := s.pool.write (.lane l) .main plan.strokes }).finish) ∧
      (plan.strokes ≠ [] → s.reserveAll plan.strokes = none →
        (w.attempt < 3 → run = .next anew.finish) ∧
        (3 ≤ w.attempt → run = .next (freed.setSale l { s.sale l with
          shortfall := (s.sale l).target, lastResult := .stockChanged,
          state := .paying }).finish))) ∧
    (w.job = .lane l .makeup →
      let plan := w.snap.lanePlan s.limits .makeup
      let owesMore (t : State) := if 0 < (s.sale l).owed then t.placeLane l (some .makeup) else t
      let short (n : Nat) := freed.setSale l
        { s.sale l with shortfall := (s.sale l).shortfall + n }
      let goes (t : State) := owesMore (t.setSale l { s.sale l with
        shortfall := (s.sale l).shortfall + plan.shortfall
        coinsCommitted := (s.sale l).coinsCommitted + plan.coins
        notesCommitted := (s.sale l).notesCommitted + plan.notes })
      ((s.sale l).haltPending = true → run = .next (short w.snap.target).finish) ∧
      ((s.sale l).haltPending = false →
        (plan.strokes = [] → run = .next (goes freed).finish) ∧
        (∀ t, plan.strokes ≠ [] → s.reserveAll plan.strokes = some t →
          plan.strokes.length ≤ s.pool.free.length →
          run = .next (goes { t with
            planner := { s.planner with work := none }
            pool := s.pool.write (.lane l) .makeup plan.strokes }).finish) ∧
        (plan.strokes ≠ [] → s.reserveAll plan.strokes = none →
          (w.attempt < 3 → run = .next anew.finish) ∧
          (3 ≤ w.attempt → run = .next (owesMore (short w.snap.target)).finish))))

/-- R19, R20: the space of a cashbox is capacity − count − promised, less the headroom of 30 of the note cashbox,
while it is present, and 0 where that is not positive or the box is away.

R21, R86, R87, R89–R93, R143: a skim to target allots each denomination, the larger values of its kind before
it, its excess over its target or what is left of its cashbox's space, and lays that out over its stores; an EMPTY
STORE allots the free count within the space. A skim's completion lays the strokes
down and raises the promised counts where the space still allows and every reservation is made; a stopped
skim, one with no stroke, and one whose third check fails are over with nothing moved. -/
def Obligations.SkimCompletesByItsPlan : Prop :=
  (∀ (s : State) (k : Kind), s.space k =
    if (s.box k).present = true then
      (s.box k).capacity - ((allDenoms.map (s.box k).countOf).sum + (s.box k).promised +
        if k = .note then 30 else 0)
    else 0) ∧
  (∀ (n : Snapshot) (q : SkimRequest),
    (∀ k d, (n.store k).denom = some d → (n.denom d).kind = storeKind k) →
    let plan := n.skimPlan q
    plan.coins ≤ n.space.coin ∧ plan.notes ≤ n.space.note ∧ plan.shortfall = 0 ∧
    plan.coins = ((plan.strokes.filter (fun x => x.store.val < 8)).map (·.count)).sum ∧
    plan.notes = ((plan.strokes.filter (fun x => 8 ≤ x.store.val)).map (·.count)).sum ∧
    (∀ k, q = .emptyStore k → plan.strokes =
      (if min (n.store k).free (n.space.get (storeKind k)) = 0 then []
      else [{ store := k, count := min (n.store k).free (n.space.get (storeKind k)) }])) ∧
    (q = .toTarget → n.laidOut [] plan.strokes ∧
      ((∀ d e, (n.denom d).enabled = true → (n.denom e).enabled = true →
          (n.denom d).kind = (n.denom e).kind → (n.denom d).value = (n.denom e).value → d = e) →
        ∀ d, (n.denom d).enabled = true →
          let before := allDenoms.filter (fun e => (n.denom e).kind == (n.denom d).kind &&
            decide ((n.denom d).value < (n.denom e).value))
          n.planned plan.strokes d = min (n.freeStock [] d - (n.denom d).target)
            (n.space.get (n.denom d).kind - (before.map (n.planned plan.strokes)).sum)) ∧
      ∀ d, (n.denom d).enabled = false → n.planned plan.strokes d = 0)) ∧
  (∀ (s : State) (w : Work) (q : SkimRequest), s.phase = .running → s.planner.work = some w →
    w.job = .skim q →
    let plan := w.snap.skimPlan q
    let freed := { s with planner := { s.planner with work := none } }
    let run := exec .attemptCompletion s
    let fits := plan.coins ≤ s.space .coin ∧ plan.notes ≤ s.space .note
    (w.stopped = true ∨ plan.strokes = [] → run = .next freed.finish) ∧
    (w.stopped = false → plan.strokes ≠ [] →
      (∀ t, fits → s.reserveAll plan.strokes = some t →
        plan.strokes.length ≤ s.pool.free.length →
        run = .next { t with
          planner := { s.planner with work := none }
          pool := s.pool.write .office .main plan.strokes
          boxes :=
            { coin := { s.box .coin with promised := (s.box .coin).promised + plan.coins }
              note := { s.box .note with promised := (s.box .note).promised + plan.notes } }
          }.finish) ∧
      (¬fits ∨ s.reserveAll plan.strokes = none →
        (w.attempt < 3 → run = .next { s with planner := { s.planner with
          work := some { w with
            attempt := w.attempt + 1
            snap := s.snapshot w.job w.snap.target } } }.finish) ∧
        (3 ≤ w.attempt → run = .next freed.finish))))
end

