-- ==== Sys2Proof/Laws/State.lean ====
section
/-! SUPPORT. One lemma for each field of the state that an update leaves alone, and what a read gives after
a write of the same piece and of another. -/

namespace Sys2Proof

@[simp] theorem PerLane.get_set_self {α : Type} (t : PerLane α) (l : Lane) (x : α) :
    (t.set l x).get l = x := by cases l <;> rfl

theorem PerLane.get_set_ne {α : Type} (t : PerLane α) (l m : Lane) (x : α) (h : m ≠ l) :
    (t.set l x).get m = t.get m := by cases l <;> cases m <;> first | rfl | exact absurd rfl h

@[simp] theorem PerKind.get_set_self {α : Type} (t : PerKind α) (k : Kind) (x : α) :
    (t.set k x).get k = x := by cases k <;> rfl

theorem PerKind.get_set_ne {α : Type} (t : PerKind α) (k j : Kind) (x : α) (h : j ≠ k) :
    (t.set k x).get j = t.get j := by cases k <;> cases j <;> first | rfl | exact absurd rfl h

@[simp] theorem PerParty.get_set_self {α : Type} (t : PerParty α) (p : Port) (x : α) :
    (t.set p x).get p = x := by rcases p with (_ | _) | _ <;> rfl

theorem PerParty.get_set_ne {α : Type} (t : PerParty α) (p q : Port) (x : α) (h : q ≠ p) :
    (t.set p x).get q = t.get q := by
  rcases p with (_ | _) | _ <;> rcases q with (_ | _) | _ <;> first | rfl | exact absurd rfl h

@[simp] theorem PerParty.set_set {α : Type} (t : PerParty α) (p : Port) (x y : α) :
    (t.set p x).set p y = t.set p y := by rcases p with (_ | _) | _ <;> rfl

@[simp] theorem tabulate_get {α : Type} (f : Fin 12 → α) (i : Fin 12) : (tabulate f)[i] = f i := by
  revert i; simp [Fin.forall_fin_succ, tabulate]

@[simp] theorem PerLane.set_set {α : Type} (t : PerLane α) (l : Lane) (x y : α) :
    (t.set l x).set l y = t.set l y := by cases l <;> rfl

@[simp] theorem PerKind.set_set {α : Type} (t : PerKind α) (k : Kind) (x y : α) :
    (t.set k x).set k y = t.set k y := by cases k <;> rfl

namespace Machine

@[simp] theorem State.setStore_pending (s : State) (k : StoreId) (x : Store) :
    (s.setStore k x).pending = s.pending := rfl
@[simp] theorem State.setStore_phase (s : State) (k : StoreId) (x : Store) :
    (s.setStore k x).phase = s.phase := rfl
@[simp] theorem State.setStore_pins (s : State) (k : StoreId) (x : Store) :
    (s.setStore k x).pins = s.pins := rfl
@[simp] theorem State.setStore_denoms (s : State) (k : StoreId) (x : Store) :
    (s.setStore k x).denoms = s.denoms := rfl
@[simp] theorem State.setStore_classes (s : State) (k : StoreId) (x : Store) :
    (s.setStore k x).classes = s.classes := rfl
@[simp] theorem State.setStore_boxes (s : State) (k : StoreId) (x : Store) :
    (s.setStore k x).boxes = s.boxes := rfl
@[simp] theorem State.setStore_limits (s : State) (k : StoreId) (x : Store) :
    (s.setStore k x).limits = s.limits := rfl
@[simp] theorem State.setStore_lanes (s : State) (k : StoreId) (x : Store) :
    (s.setStore k x).lanes = s.lanes := rfl
@[simp] theorem State.setStore_heads (s : State) (k : StoreId) (x : Store) :
    (s.setStore k x).heads = s.heads := rfl
@[simp] theorem State.setStore_planner (s : State) (k : StoreId) (x : Store) :
    (s.setStore k x).planner = s.planner := rfl
@[simp] theorem State.setStore_pool (s : State) (k : StoreId) (x : Store) :
    (s.setStore k x).pool = s.pool := rfl
@[simp] theorem State.setStore_paths (s : State) (k : StoreId) (x : Store) :
    (s.setStore k x).paths = s.paths := rfl
@[simp] theorem State.setStore_presenterOpen (s : State) (k : StoreId) (x : Store) :
    (s.setStore k x).presenterOpen = s.presenterOpen := rfl
@[simp] theorem State.setStore_active (s : State) (k : StoreId) (x : Store) :
    (s.setStore k x).active = s.active := rfl
@[simp] theorem State.setStore_pendingMarks (s : State) (k : StoreId) (x : Store) :
    (s.setStore k x).pendingMarks = s.pendingMarks := rfl
@[simp] theorem State.setStore_armed (s : State) (k : StoreId) (x : Store) :
    (s.setStore k x).armed = s.armed := rfl
@[simp] theorem State.setStore_totals (s : State) (k : StoreId) (x : Store) :
    (s.setStore k x).totals = s.totals := rfl
@[simp] theorem State.setStore_officeNotices (s : State) (k : StoreId) (x : Store) :
    (s.setStore k x).officeNotices = s.officeNotices := rfl
@[simp] theorem State.setStore_laneNotices (s : State) (k : StoreId) (x : Store) :
    (s.setStore k x).laneNotices = s.laneNotices := rfl
@[simp] theorem State.setStore_ports (s : State) (k : StoreId) (x : Store) :
    (s.setStore k x).ports = s.ports := rfl
@[simp] theorem State.setStore_retained (s : State) (k : StoreId) (x : Store) :
    (s.setStore k x).retained = s.retained := rfl

@[simp] theorem State.modStore_pending (s : State) (k : StoreId) (f : Store → Store) :
    (s.modStore k f).pending = s.pending := rfl
@[simp] theorem State.modStore_phase (s : State) (k : StoreId) (f : Store → Store) :
    (s.modStore k f).phase = s.phase := rfl
@[simp] theorem State.modStore_pins (s : State) (k : StoreId) (f : Store → Store) :
    (s.modStore k f).pins = s.pins := rfl
@[simp] theorem State.modStore_denoms (s : State) (k : StoreId) (f : Store → Store) :
    (s.modStore k f).denoms = s.denoms := rfl
@[simp] theorem State.modStore_classes (s : State) (k : StoreId) (f : Store → Store) :
    (s.modStore k f).classes = s.classes := rfl
@[simp] theorem State.modStore_boxes (s : State) (k : StoreId) (f : Store → Store) :
    (s.modStore k f).boxes = s.boxes := rfl
@[simp] theorem State.modStore_limits (s : State) (k : StoreId) (f : Store → Store) :
    (s.modStore k f).limits = s.limits := rfl
@[simp] theorem State.modStore_lanes (s : State) (k : StoreId) (f : Store → Store) :
    (s.modStore k f).lanes = s.lanes := rfl
@[simp] theorem State.modStore_heads (s : State) (k : StoreId) (f : Store → Store) :
    (s.modStore k f).heads = s.heads := rfl
@[simp] theorem State.modStore_planner (s : State) (k : StoreId) (f : Store → Store) :
    (s.modStore k f).planner = s.planner := rfl
@[simp] theorem State.modStore_pool (s : State) (k : StoreId) (f : Store → Store) :
    (s.modStore k f).pool = s.pool := rfl
@[simp] theorem State.modStore_paths (s : State) (k : StoreId) (f : Store → Store) :
    (s.modStore k f).paths = s.paths := rfl
@[simp] theorem State.modStore_presenterOpen (s : State) (k : StoreId) (f : Store → Store) :
    (s.modStore k f).presenterOpen = s.presenterOpen := rfl
@[simp] theorem State.modStore_active (s : State) (k : StoreId) (f : Store → Store) :
    (s.modStore k f).active = s.active := rfl
@[simp] theorem State.modStore_pendingMarks (s : State) (k : StoreId) (f : Store → Store) :
    (s.modStore k f).pendingMarks = s.pendingMarks := rfl
@[simp] theorem State.modStore_armed (s : State) (k : StoreId) (f : Store → Store) :
    (s.modStore k f).armed = s.armed := rfl
@[simp] theorem State.modStore_totals (s : State) (k : StoreId) (f : Store → Store) :
    (s.modStore k f).totals = s.totals := rfl
@[simp] theorem State.modStore_officeNotices (s : State) (k : StoreId) (f : Store → Store) :
    (s.modStore k f).officeNotices = s.officeNotices := rfl
@[simp] theorem State.modStore_laneNotices (s : State) (k : StoreId) (f : Store → Store) :
    (s.modStore k f).laneNotices = s.laneNotices := rfl
@[simp] theorem State.modStore_ports (s : State) (k : StoreId) (f : Store → Store) :
    (s.modStore k f).ports = s.ports := rfl
@[simp] theorem State.modStore_retained (s : State) (k : StoreId) (f : Store → Store) :
    (s.modStore k f).retained = s.retained := rfl

@[simp] theorem State.setBox_pending (s : State) (k : Kind) (x : Cashbox) :
    (s.setBox k x).pending = s.pending := rfl
@[simp] theorem State.setBox_phase (s : State) (k : Kind) (x : Cashbox) :
    (s.setBox k x).phase = s.phase := rfl
@[simp] theorem State.setBox_pins (s : State) (k : Kind) (x : Cashbox) :
    (s.setBox k x).pins = s.pins := rfl
@[simp] theorem State.setBox_denoms (s : State) (k : Kind) (x : Cashbox) :
    (s.setBox k x).denoms = s.denoms := rfl
@[simp] theorem State.setBox_classes (s : State) (k : Kind) (x : Cashbox) :
    (s.setBox k x).classes = s.classes := rfl
@[simp] theorem State.setBox_stores (s : State) (k : Kind) (x : Cashbox) :
    (s.setBox k x).stores = s.stores := rfl
@[simp] theorem State.setBox_limits (s : State) (k : Kind) (x : Cashbox) :
    (s.setBox k x).limits = s.limits := rfl
@[simp] theorem State.setBox_lanes (s : State) (k : Kind) (x : Cashbox) :
    (s.setBox k x).lanes = s.lanes := rfl
@[simp] theorem State.setBox_heads (s : State) (k : Kind) (x : Cashbox) :
    (s.setBox k x).heads = s.heads := rfl
@[simp] theorem State.setBox_planner (s : State) (k : Kind) (x : Cashbox) :
    (s.setBox k x).planner = s.planner := rfl
@[simp] theorem State.setBox_pool (s : State) (k : Kind) (x : Cashbox) :
    (s.setBox k x).pool = s.pool := rfl
@[simp] theorem State.setBox_paths (s : State) (k : Kind) (x : Cashbox) :
    (s.setBox k x).paths = s.paths := rfl
@[simp] theorem State.setBox_presenterOpen (s : State) (k : Kind) (x : Cashbox) :
    (s.setBox k x).presenterOpen = s.presenterOpen := rfl
@[simp] theorem State.setBox_active (s : State) (k : Kind) (x : Cashbox) :
    (s.setBox k x).active = s.active := rfl
@[simp] theorem State.setBox_pendingMarks (s : State) (k : Kind) (x : Cashbox) :
    (s.setBox k x).pendingMarks = s.pendingMarks := rfl
@[simp] theorem State.setBox_armed (s : State) (k : Kind) (x : Cashbox) :
    (s.setBox k x).armed = s.armed := rfl
@[simp] theorem State.setBox_totals (s : State) (k : Kind) (x : Cashbox) :
    (s.setBox k x).totals = s.totals := rfl
@[simp] theorem State.setBox_officeNotices (s : State) (k : Kind) (x : Cashbox) :
    (s.setBox k x).officeNotices = s.officeNotices := rfl
@[simp] theorem State.setBox_laneNotices (s : State) (k : Kind) (x : Cashbox) :
    (s.setBox k x).laneNotices = s.laneNotices := rfl
@[simp] theorem State.setBox_ports (s : State) (k : Kind) (x : Cashbox) :
    (s.setBox k x).ports = s.ports := rfl
@[simp] theorem State.setBox_retained (s : State) (k : Kind) (x : Cashbox) :
    (s.setBox k x).retained = s.retained := rfl

@[simp] theorem State.modBox_pending (s : State) (k : Kind) (f : Cashbox → Cashbox) :
    (s.modBox k f).pending = s.pending := rfl
@[simp] theorem State.modBox_phase (s : State) (k : Kind) (f : Cashbox → Cashbox) :
    (s.modBox k f).phase = s.phase := rfl
@[simp] theorem State.modBox_pins (s : State) (k : Kind) (f : Cashbox → Cashbox) :
    (s.modBox k f).pins = s.pins := rfl
@[simp] theorem State.modBox_denoms (s : State) (k : Kind) (f : Cashbox → Cashbox) :
    (s.modBox k f).denoms = s.denoms := rfl
@[simp] theorem State.modBox_classes (s : State) (k : Kind) (f : Cashbox → Cashbox) :
    (s.modBox k f).classes = s.classes := rfl
@[simp] theorem State.modBox_stores (s : State) (k : Kind) (f : Cashbox → Cashbox) :
    (s.modBox k f).stores = s.stores := rfl
@[simp] theorem State.modBox_limits (s : State) (k : Kind) (f : Cashbox → Cashbox) :
    (s.modBox k f).limits = s.limits := rfl
@[simp] theorem State.modBox_lanes (s : State) (k : Kind) (f : Cashbox → Cashbox) :
    (s.modBox k f).lanes = s.lanes := rfl
@[simp] theorem State.modBox_heads (s : State) (k : Kind) (f : Cashbox → Cashbox) :
    (s.modBox k f).heads = s.heads := rfl
@[simp] theorem State.modBox_planner (s : State) (k : Kind) (f : Cashbox → Cashbox) :
    (s.modBox k f).planner = s.planner := rfl
@[simp] theorem State.modBox_pool (s : State) (k : Kind) (f : Cashbox → Cashbox) :
    (s.modBox k f).pool = s.pool := rfl
@[simp] theorem State.modBox_paths (s : State) (k : Kind) (f : Cashbox → Cashbox) :
    (s.modBox k f).paths = s.paths := rfl
@[simp] theorem State.modBox_presenterOpen (s : State) (k : Kind) (f : Cashbox → Cashbox) :
    (s.modBox k f).presenterOpen = s.presenterOpen := rfl
@[simp] theorem State.modBox_active (s : State) (k : Kind) (f : Cashbox → Cashbox) :
    (s.modBox k f).active = s.active := rfl
@[simp] theorem State.modBox_pendingMarks (s : State) (k : Kind) (f : Cashbox → Cashbox) :
    (s.modBox k f).pendingMarks = s.pendingMarks := rfl
@[simp] theorem State.modBox_armed (s : State) (k : Kind) (f : Cashbox → Cashbox) :
    (s.modBox k f).armed = s.armed := rfl
@[simp] theorem State.modBox_totals (s : State) (k : Kind) (f : Cashbox → Cashbox) :
    (s.modBox k f).totals = s.totals := rfl
@[simp] theorem State.modBox_officeNotices (s : State) (k : Kind) (f : Cashbox → Cashbox) :
    (s.modBox k f).officeNotices = s.officeNotices := rfl
@[simp] theorem State.modBox_laneNotices (s : State) (k : Kind) (f : Cashbox → Cashbox) :
    (s.modBox k f).laneNotices = s.laneNotices := rfl
@[simp] theorem State.modBox_ports (s : State) (k : Kind) (f : Cashbox → Cashbox) :
    (s.modBox k f).ports = s.ports := rfl
@[simp] theorem State.modBox_retained (s : State) (k : Kind) (f : Cashbox → Cashbox) :
    (s.modBox k f).retained = s.retained := rfl

@[simp] theorem State.setLane_pending (s : State) (l : Lane) (x : LaneControl) :
    (s.setLane l x).pending = s.pending := rfl
@[simp] theorem State.setLane_phase (s : State) (l : Lane) (x : LaneControl) :
    (s.setLane l x).phase = s.phase := rfl
@[simp] theorem State.setLane_pins (s : State) (l : Lane) (x : LaneControl) :
    (s.setLane l x).pins = s.pins := rfl
@[simp] theorem State.setLane_denoms (s : State) (l : Lane) (x : LaneControl) :
    (s.setLane l x).denoms = s.denoms := rfl
@[simp] theorem State.setLane_classes (s : State) (l : Lane) (x : LaneControl) :
    (s.setLane l x).classes = s.classes := rfl
@[simp] theorem State.setLane_stores (s : State) (l : Lane) (x : LaneControl) :
    (s.setLane l x).stores = s.stores := rfl
@[simp] theorem State.setLane_boxes (s : State) (l : Lane) (x : LaneControl) :
    (s.setLane l x).boxes = s.boxes := rfl
@[simp] theorem State.setLane_limits (s : State) (l : Lane) (x : LaneControl) :
    (s.setLane l x).limits = s.limits := rfl
@[simp] theorem State.setLane_heads (s : State) (l : Lane) (x : LaneControl) :
    (s.setLane l x).heads = s.heads := rfl
@[simp] theorem State.setLane_planner (s : State) (l : Lane) (x : LaneControl) :
    (s.setLane l x).planner = s.planner := rfl
@[simp] theorem State.setLane_pool (s : State) (l : Lane) (x : LaneControl) :
    (s.setLane l x).pool = s.pool := rfl
@[simp] theorem State.setLane_paths (s : State) (l : Lane) (x : LaneControl) :
    (s.setLane l x).paths = s.paths := rfl
@[simp] theorem State.setLane_presenterOpen (s : State) (l : Lane) (x : LaneControl) :
    (s.setLane l x).presenterOpen = s.presenterOpen := rfl
@[simp] theorem State.setLane_active (s : State) (l : Lane) (x : LaneControl) :
    (s.setLane l x).active = s.active := rfl
@[simp] theorem State.setLane_pendingMarks (s : State) (l : Lane) (x : LaneControl) :
    (s.setLane l x).pendingMarks = s.pendingMarks := rfl
@[simp] theorem State.setLane_armed (s : State) (l : Lane) (x : LaneControl) :
    (s.setLane l x).armed = s.armed := rfl
@[simp] theorem State.setLane_totals (s : State) (l : Lane) (x : LaneControl) :
    (s.setLane l x).totals = s.totals := rfl
@[simp] theorem State.setLane_officeNotices (s : State) (l : Lane) (x : LaneControl) :
    (s.setLane l x).officeNotices = s.officeNotices := rfl
@[simp] theorem State.setLane_laneNotices (s : State) (l : Lane) (x : LaneControl) :
    (s.setLane l x).laneNotices = s.laneNotices := rfl
@[simp] theorem State.setLane_ports (s : State) (l : Lane) (x : LaneControl) :
    (s.setLane l x).ports = s.ports := rfl
@[simp] theorem State.setLane_retained (s : State) (l : Lane) (x : LaneControl) :
    (s.setLane l x).retained = s.retained := rfl

@[simp] theorem State.setMode_pending (s : State) (l : Lane) (m : Mode) :
    (s.setMode l m).pending = s.pending := rfl
@[simp] theorem State.setMode_phase (s : State) (l : Lane) (m : Mode) :
    (s.setMode l m).phase = s.phase := rfl
@[simp] theorem State.setMode_pins (s : State) (l : Lane) (m : Mode) :
    (s.setMode l m).pins = s.pins := rfl
@[simp] theorem State.setMode_denoms (s : State) (l : Lane) (m : Mode) :
    (s.setMode l m).denoms = s.denoms := rfl
@[simp] theorem State.setMode_classes (s : State) (l : Lane) (m : Mode) :
    (s.setMode l m).classes = s.classes := rfl
@[simp] theorem State.setMode_stores (s : State) (l : Lane) (m : Mode) :
    (s.setMode l m).stores = s.stores := rfl
@[simp] theorem State.setMode_boxes (s : State) (l : Lane) (m : Mode) :
    (s.setMode l m).boxes = s.boxes := rfl
@[simp] theorem State.setMode_limits (s : State) (l : Lane) (m : Mode) :
    (s.setMode l m).limits = s.limits := rfl
@[simp] theorem State.setMode_heads (s : State) (l : Lane) (m : Mode) :
    (s.setMode l m).heads = s.heads := rfl
@[simp] theorem State.setMode_planner (s : State) (l : Lane) (m : Mode) :
    (s.setMode l m).planner = s.planner := rfl
@[simp] theorem State.setMode_pool (s : State) (l : Lane) (m : Mode) :
    (s.setMode l m).pool = s.pool := rfl
@[simp] theorem State.setMode_paths (s : State) (l : Lane) (m : Mode) :
    (s.setMode l m).paths = s.paths := rfl
@[simp] theorem State.setMode_presenterOpen (s : State) (l : Lane) (m : Mode) :
    (s.setMode l m).presenterOpen = s.presenterOpen := rfl
@[simp] theorem State.setMode_active (s : State) (l : Lane) (m : Mode) :
    (s.setMode l m).active = s.active := rfl
@[simp] theorem State.setMode_pendingMarks (s : State) (l : Lane) (m : Mode) :
    (s.setMode l m).pendingMarks = s.pendingMarks := rfl
@[simp] theorem State.setMode_armed (s : State) (l : Lane) (m : Mode) :
    (s.setMode l m).armed = s.armed := rfl
@[simp] theorem State.setMode_totals (s : State) (l : Lane) (m : Mode) :
    (s.setMode l m).totals = s.totals := rfl
@[simp] theorem State.setMode_officeNotices (s : State) (l : Lane) (m : Mode) :
    (s.setMode l m).officeNotices = s.officeNotices := rfl
@[simp] theorem State.setMode_laneNotices (s : State) (l : Lane) (m : Mode) :
    (s.setMode l m).laneNotices = s.laneNotices := rfl
@[simp] theorem State.setMode_ports (s : State) (l : Lane) (m : Mode) :
    (s.setMode l m).ports = s.ports := rfl
@[simp] theorem State.setMode_retained (s : State) (l : Lane) (m : Mode) :
    (s.setMode l m).retained = s.retained := rfl

@[simp] theorem State.setSlot_pending (s : State) (l : Lane) (c : Option Completion) :
    (s.setSlot l c).pending = s.pending := rfl
@[simp] theorem State.setSlot_phase (s : State) (l : Lane) (c : Option Completion) :
    (s.setSlot l c).phase = s.phase := rfl
@[simp] theorem State.setSlot_pins (s : State) (l : Lane) (c : Option Completion) :
    (s.setSlot l c).pins = s.pins := rfl
@[simp] theorem State.setSlot_denoms (s : State) (l : Lane) (c : Option Completion) :
    (s.setSlot l c).denoms = s.denoms := rfl
@[simp] theorem State.setSlot_classes (s : State) (l : Lane) (c : Option Completion) :
    (s.setSlot l c).classes = s.classes := rfl
@[simp] theorem State.setSlot_stores (s : State) (l : Lane) (c : Option Completion) :
    (s.setSlot l c).stores = s.stores := rfl
@[simp] theorem State.setSlot_boxes (s : State) (l : Lane) (c : Option Completion) :
    (s.setSlot l c).boxes = s.boxes := rfl
@[simp] theorem State.setSlot_limits (s : State) (l : Lane) (c : Option Completion) :
    (s.setSlot l c).limits = s.limits := rfl
@[simp] theorem State.setSlot_heads (s : State) (l : Lane) (c : Option Completion) :
    (s.setSlot l c).heads = s.heads := rfl
@[simp] theorem State.setSlot_planner (s : State) (l : Lane) (c : Option Completion) :
    (s.setSlot l c).planner = s.planner := rfl
@[simp] theorem State.setSlot_pool (s : State) (l : Lane) (c : Option Completion) :
    (s.setSlot l c).pool = s.pool := rfl
@[simp] theorem State.setSlot_paths (s : State) (l : Lane) (c : Option Completion) :
    (s.setSlot l c).paths = s.paths := rfl
@[simp] theorem State.setSlot_presenterOpen (s : State) (l : Lane) (c : Option Completion) :
    (s.setSlot l c).presenterOpen = s.presenterOpen := rfl
@[simp] theorem State.setSlot_active (s : State) (l : Lane) (c : Option Completion) :
    (s.setSlot l c).active = s.active := rfl
@[simp] theorem State.setSlot_pendingMarks (s : State) (l : Lane) (c : Option Completion) :
    (s.setSlot l c).pendingMarks = s.pendingMarks := rfl
@[simp] theorem State.setSlot_armed (s : State) (l : Lane) (c : Option Completion) :
    (s.setSlot l c).armed = s.armed := rfl
@[simp] theorem State.setSlot_totals (s : State) (l : Lane) (c : Option Completion) :
    (s.setSlot l c).totals = s.totals := rfl
@[simp] theorem State.setSlot_officeNotices (s : State) (l : Lane) (c : Option Completion) :
    (s.setSlot l c).officeNotices = s.officeNotices := rfl
@[simp] theorem State.setSlot_laneNotices (s : State) (l : Lane) (c : Option Completion) :
    (s.setSlot l c).laneNotices = s.laneNotices := rfl
@[simp] theorem State.setSlot_ports (s : State) (l : Lane) (c : Option Completion) :
    (s.setSlot l c).ports = s.ports := rfl
@[simp] theorem State.setSlot_retained (s : State) (l : Lane) (c : Option Completion) :
    (s.setSlot l c).retained = s.retained := rfl

@[simp] theorem State.setSale_pending (s : State) (l : Lane) (x : Sale) :
    (s.setSale l x).pending = s.pending := rfl
@[simp] theorem State.setSale_phase (s : State) (l : Lane) (x : Sale) :
    (s.setSale l x).phase = s.phase := rfl
@[simp] theorem State.setSale_pins (s : State) (l : Lane) (x : Sale) :
    (s.setSale l x).pins = s.pins := rfl
@[simp] theorem State.setSale_denoms (s : State) (l : Lane) (x : Sale) :
    (s.setSale l x).denoms = s.denoms := rfl
@[simp] theorem State.setSale_classes (s : State) (l : Lane) (x : Sale) :
    (s.setSale l x).classes = s.classes := rfl
@[simp] theorem State.setSale_stores (s : State) (l : Lane) (x : Sale) :
    (s.setSale l x).stores = s.stores := rfl
@[simp] theorem State.setSale_boxes (s : State) (l : Lane) (x : Sale) :
    (s.setSale l x).boxes = s.boxes := rfl
@[simp] theorem State.setSale_limits (s : State) (l : Lane) (x : Sale) :
    (s.setSale l x).limits = s.limits := rfl
@[simp] theorem State.setSale_heads (s : State) (l : Lane) (x : Sale) :
    (s.setSale l x).heads = s.heads := rfl
@[simp] theorem State.setSale_planner (s : State) (l : Lane) (x : Sale) :
    (s.setSale l x).planner = s.planner := rfl
@[simp] theorem State.setSale_pool (s : State) (l : Lane) (x : Sale) :
    (s.setSale l x).pool = s.pool := rfl
@[simp] theorem State.setSale_paths (s : State) (l : Lane) (x : Sale) :
    (s.setSale l x).paths = s.paths := rfl
@[simp] theorem State.setSale_presenterOpen (s : State) (l : Lane) (x : Sale) :
    (s.setSale l x).presenterOpen = s.presenterOpen := rfl
@[simp] theorem State.setSale_active (s : State) (l : Lane) (x : Sale) :
    (s.setSale l x).active = s.active := rfl
@[simp] theorem State.setSale_pendingMarks (s : State) (l : Lane) (x : Sale) :
    (s.setSale l x).pendingMarks = s.pendingMarks := rfl
@[simp] theorem State.setSale_armed (s : State) (l : Lane) (x : Sale) :
    (s.setSale l x).armed = s.armed := rfl
@[simp] theorem State.setSale_totals (s : State) (l : Lane) (x : Sale) :
    (s.setSale l x).totals = s.totals := rfl
@[simp] theorem State.setSale_officeNotices (s : State) (l : Lane) (x : Sale) :
    (s.setSale l x).officeNotices = s.officeNotices := rfl
@[simp] theorem State.setSale_laneNotices (s : State) (l : Lane) (x : Sale) :
    (s.setSale l x).laneNotices = s.laneNotices := rfl
@[simp] theorem State.setSale_ports (s : State) (l : Lane) (x : Sale) :
    (s.setSale l x).ports = s.ports := rfl
@[simp] theorem State.setSale_retained (s : State) (l : Lane) (x : Sale) :
    (s.setSale l x).retained = s.retained := rfl

@[simp] theorem State.modSale_pending (s : State) (l : Lane) (f : Sale → Sale) :
    (s.modSale l f).pending = s.pending := rfl
@[simp] theorem State.modSale_phase (s : State) (l : Lane) (f : Sale → Sale) :
    (s.modSale l f).phase = s.phase := rfl
@[simp] theorem State.modSale_pins (s : State) (l : Lane) (f : Sale → Sale) :
    (s.modSale l f).pins = s.pins := rfl
@[simp] theorem State.modSale_denoms (s : State) (l : Lane) (f : Sale → Sale) :
    (s.modSale l f).denoms = s.denoms := rfl
@[simp] theorem State.modSale_classes (s : State) (l : Lane) (f : Sale → Sale) :
    (s.modSale l f).classes = s.classes := rfl
@[simp] theorem State.modSale_stores (s : State) (l : Lane) (f : Sale → Sale) :
    (s.modSale l f).stores = s.stores := rfl
@[simp] theorem State.modSale_boxes (s : State) (l : Lane) (f : Sale → Sale) :
    (s.modSale l f).boxes = s.boxes := rfl
@[simp] theorem State.modSale_limits (s : State) (l : Lane) (f : Sale → Sale) :
    (s.modSale l f).limits = s.limits := rfl
@[simp] theorem State.modSale_heads (s : State) (l : Lane) (f : Sale → Sale) :
    (s.modSale l f).heads = s.heads := rfl
@[simp] theorem State.modSale_planner (s : State) (l : Lane) (f : Sale → Sale) :
    (s.modSale l f).planner = s.planner := rfl
@[simp] theorem State.modSale_pool (s : State) (l : Lane) (f : Sale → Sale) :
    (s.modSale l f).pool = s.pool := rfl
@[simp] theorem State.modSale_paths (s : State) (l : Lane) (f : Sale → Sale) :
    (s.modSale l f).paths = s.paths := rfl
@[simp] theorem State.modSale_presenterOpen (s : State) (l : Lane) (f : Sale → Sale) :
    (s.modSale l f).presenterOpen = s.presenterOpen := rfl
@[simp] theorem State.modSale_active (s : State) (l : Lane) (f : Sale → Sale) :
    (s.modSale l f).active = s.active := rfl
@[simp] theorem State.modSale_pendingMarks (s : State) (l : Lane) (f : Sale → Sale) :
    (s.modSale l f).pendingMarks = s.pendingMarks := rfl
@[simp] theorem State.modSale_armed (s : State) (l : Lane) (f : Sale → Sale) :
    (s.modSale l f).armed = s.armed := rfl
@[simp] theorem State.modSale_totals (s : State) (l : Lane) (f : Sale → Sale) :
    (s.modSale l f).totals = s.totals := rfl
@[simp] theorem State.modSale_officeNotices (s : State) (l : Lane) (f : Sale → Sale) :
    (s.modSale l f).officeNotices = s.officeNotices := rfl
@[simp] theorem State.modSale_laneNotices (s : State) (l : Lane) (f : Sale → Sale) :
    (s.modSale l f).laneNotices = s.laneNotices := rfl
@[simp] theorem State.modSale_ports (s : State) (l : Lane) (f : Sale → Sale) :
    (s.modSale l f).ports = s.ports := rfl
@[simp] theorem State.modSale_retained (s : State) (l : Lane) (f : Sale → Sale) :
    (s.modSale l f).retained = s.retained := rfl

@[simp] theorem State.setHead_pending (s : State) (l : Lane) (k : Kind) (x : Head) :
    (s.setHead l k x).pending = s.pending := rfl
@[simp] theorem State.setHead_phase (s : State) (l : Lane) (k : Kind) (x : Head) :
    (s.setHead l k x).phase = s.phase := rfl
@[simp] theorem State.setHead_pins (s : State) (l : Lane) (k : Kind) (x : Head) :
    (s.setHead l k x).pins = s.pins := rfl
@[simp] theorem State.setHead_denoms (s : State) (l : Lane) (k : Kind) (x : Head) :
    (s.setHead l k x).denoms = s.denoms := rfl
@[simp] theorem State.setHead_classes (s : State) (l : Lane) (k : Kind) (x : Head) :
    (s.setHead l k x).classes = s.classes := rfl
@[simp] theorem State.setHead_stores (s : State) (l : Lane) (k : Kind) (x : Head) :
    (s.setHead l k x).stores = s.stores := rfl
@[simp] theorem State.setHead_boxes (s : State) (l : Lane) (k : Kind) (x : Head) :
    (s.setHead l k x).boxes = s.boxes := rfl
@[simp] theorem State.setHead_limits (s : State) (l : Lane) (k : Kind) (x : Head) :
    (s.setHead l k x).limits = s.limits := rfl
@[simp] theorem State.setHead_lanes (s : State) (l : Lane) (k : Kind) (x : Head) :
    (s.setHead l k x).lanes = s.lanes := rfl
@[simp] theorem State.setHead_planner (s : State) (l : Lane) (k : Kind) (x : Head) :
    (s.setHead l k x).planner = s.planner := rfl
@[simp] theorem State.setHead_pool (s : State) (l : Lane) (k : Kind) (x : Head) :
    (s.setHead l k x).pool = s.pool := rfl
@[simp] theorem State.setHead_paths (s : State) (l : Lane) (k : Kind) (x : Head) :
    (s.setHead l k x).paths = s.paths := rfl
@[simp] theorem State.setHead_presenterOpen (s : State) (l : Lane) (k : Kind) (x : Head) :
    (s.setHead l k x).presenterOpen = s.presenterOpen := rfl
@[simp] theorem State.setHead_active (s : State) (l : Lane) (k : Kind) (x : Head) :
    (s.setHead l k x).active = s.active := rfl
@[simp] theorem State.setHead_pendingMarks (s : State) (l : Lane) (k : Kind) (x : Head) :
    (s.setHead l k x).pendingMarks = s.pendingMarks := rfl
@[simp] theorem State.setHead_armed (s : State) (l : Lane) (k : Kind) (x : Head) :
    (s.setHead l k x).armed = s.armed := rfl
@[simp] theorem State.setHead_totals (s : State) (l : Lane) (k : Kind) (x : Head) :
    (s.setHead l k x).totals = s.totals := rfl
@[simp] theorem State.setHead_officeNotices (s : State) (l : Lane) (k : Kind) (x : Head) :
    (s.setHead l k x).officeNotices = s.officeNotices := rfl
@[simp] theorem State.setHead_laneNotices (s : State) (l : Lane) (k : Kind) (x : Head) :
    (s.setHead l k x).laneNotices = s.laneNotices := rfl
@[simp] theorem State.setHead_ports (s : State) (l : Lane) (k : Kind) (x : Head) :
    (s.setHead l k x).ports = s.ports := rfl
@[simp] theorem State.setHead_retained (s : State) (l : Lane) (k : Kind) (x : Head) :
    (s.setHead l k x).retained = s.retained := rfl

@[simp] theorem State.setPath_pending (s : State) (k : Kind) (x : Arbiter) :
    (s.setPath k x).pending = s.pending := rfl
@[simp] theorem State.setPath_phase (s : State) (k : Kind) (x : Arbiter) :
    (s.setPath k x).phase = s.phase := rfl
@[simp] theorem State.setPath_pins (s : State) (k : Kind) (x : Arbiter) :
    (s.setPath k x).pins = s.pins := rfl
@[simp] theorem State.setPath_denoms (s : State) (k : Kind) (x : Arbiter) :
    (s.setPath k x).denoms = s.denoms := rfl
@[simp] theorem State.setPath_classes (s : State) (k : Kind) (x : Arbiter) :
    (s.setPath k x).classes = s.classes := rfl
@[simp] theorem State.setPath_stores (s : State) (k : Kind) (x : Arbiter) :
    (s.setPath k x).stores = s.stores := rfl
@[simp] theorem State.setPath_boxes (s : State) (k : Kind) (x : Arbiter) :
    (s.setPath k x).boxes = s.boxes := rfl
@[simp] theorem State.setPath_limits (s : State) (k : Kind) (x : Arbiter) :
    (s.setPath k x).limits = s.limits := rfl
@[simp] theorem State.setPath_lanes (s : State) (k : Kind) (x : Arbiter) :
    (s.setPath k x).lanes = s.lanes := rfl
@[simp] theorem State.setPath_heads (s : State) (k : Kind) (x : Arbiter) :
    (s.setPath k x).heads = s.heads := rfl
@[simp] theorem State.setPath_planner (s : State) (k : Kind) (x : Arbiter) :
    (s.setPath k x).planner = s.planner := rfl
@[simp] theorem State.setPath_pool (s : State) (k : Kind) (x : Arbiter) :
    (s.setPath k x).pool = s.pool := rfl
@[simp] theorem State.setPath_presenterOpen (s : State) (k : Kind) (x : Arbiter) :
    (s.setPath k x).presenterOpen = s.presenterOpen := rfl
@[simp] theorem State.setPath_active (s : State) (k : Kind) (x : Arbiter) :
    (s.setPath k x).active = s.active := rfl
@[simp] theorem State.setPath_pendingMarks (s : State) (k : Kind) (x : Arbiter) :
    (s.setPath k x).pendingMarks = s.pendingMarks := rfl
@[simp] theorem State.setPath_armed (s : State) (k : Kind) (x : Arbiter) :
    (s.setPath k x).armed = s.armed := rfl
@[simp] theorem State.setPath_totals (s : State) (k : Kind) (x : Arbiter) :
    (s.setPath k x).totals = s.totals := rfl
@[simp] theorem State.setPath_officeNotices (s : State) (k : Kind) (x : Arbiter) :
    (s.setPath k x).officeNotices = s.officeNotices := rfl
@[simp] theorem State.setPath_laneNotices (s : State) (k : Kind) (x : Arbiter) :
    (s.setPath k x).laneNotices = s.laneNotices := rfl
@[simp] theorem State.setPath_ports (s : State) (k : Kind) (x : Arbiter) :
    (s.setPath k x).ports = s.ports := rfl
@[simp] theorem State.setPath_retained (s : State) (k : Kind) (x : Arbiter) :
    (s.setPath k x).retained = s.retained := rfl

@[simp] theorem State.modPath_pending (s : State) (k : Kind) (f : Arbiter → Arbiter) :
    (s.modPath k f).pending = s.pending := rfl
@[simp] theorem State.modPath_phase (s : State) (k : Kind) (f : Arbiter → Arbiter) :
    (s.modPath k f).phase = s.phase := rfl
@[simp] theorem State.modPath_pins (s : State) (k : Kind) (f : Arbiter → Arbiter) :
    (s.modPath k f).pins = s.pins := rfl
@[simp] theorem State.modPath_denoms (s : State) (k : Kind) (f : Arbiter → Arbiter) :
    (s.modPath k f).denoms = s.denoms := rfl
@[simp] theorem State.modPath_classes (s : State) (k : Kind) (f : Arbiter → Arbiter) :
    (s.modPath k f).classes = s.classes := rfl
@[simp] theorem State.modPath_stores (s : State) (k : Kind) (f : Arbiter → Arbiter) :
    (s.modPath k f).stores = s.stores := rfl
@[simp] theorem State.modPath_boxes (s : State) (k : Kind) (f : Arbiter → Arbiter) :
    (s.modPath k f).boxes = s.boxes := rfl
@[simp] theorem State.modPath_limits (s : State) (k : Kind) (f : Arbiter → Arbiter) :
    (s.modPath k f).limits = s.limits := rfl
@[simp] theorem State.modPath_lanes (s : State) (k : Kind) (f : Arbiter → Arbiter) :
    (s.modPath k f).lanes = s.lanes := rfl
@[simp] theorem State.modPath_heads (s : State) (k : Kind) (f : Arbiter → Arbiter) :
    (s.modPath k f).heads = s.heads := rfl
@[simp] theorem State.modPath_planner (s : State) (k : Kind) (f : Arbiter → Arbiter) :
    (s.modPath k f).planner = s.planner := rfl
@[simp] theorem State.modPath_pool (s : State) (k : Kind) (f : Arbiter → Arbiter) :
    (s.modPath k f).pool = s.pool := rfl
@[simp] theorem State.modPath_presenterOpen (s : State) (k : Kind) (f : Arbiter → Arbiter) :
    (s.modPath k f).presenterOpen = s.presenterOpen := rfl
@[simp] theorem State.modPath_active (s : State) (k : Kind) (f : Arbiter → Arbiter) :
    (s.modPath k f).active = s.active := rfl
@[simp] theorem State.modPath_pendingMarks (s : State) (k : Kind) (f : Arbiter → Arbiter) :
    (s.modPath k f).pendingMarks = s.pendingMarks := rfl
@[simp] theorem State.modPath_armed (s : State) (k : Kind) (f : Arbiter → Arbiter) :
    (s.modPath k f).armed = s.armed := rfl
@[simp] theorem State.modPath_totals (s : State) (k : Kind) (f : Arbiter → Arbiter) :
    (s.modPath k f).totals = s.totals := rfl
@[simp] theorem State.modPath_officeNotices (s : State) (k : Kind) (f : Arbiter → Arbiter) :
    (s.modPath k f).officeNotices = s.officeNotices := rfl
@[simp] theorem State.modPath_laneNotices (s : State) (k : Kind) (f : Arbiter → Arbiter) :
    (s.modPath k f).laneNotices = s.laneNotices := rfl
@[simp] theorem State.modPath_ports (s : State) (k : Kind) (f : Arbiter → Arbiter) :
    (s.modPath k f).ports = s.ports := rfl
@[simp] theorem State.modPath_retained (s : State) (k : Kind) (f : Arbiter → Arbiter) :
    (s.modPath k f).retained = s.retained := rfl

@[simp] theorem State.setPort_pending (s : State) (p : Port) (x : LinkPort) :
    (s.setPort p x).pending = s.pending := rfl
@[simp] theorem State.setPort_phase (s : State) (p : Port) (x : LinkPort) :
    (s.setPort p x).phase = s.phase := rfl
@[simp] theorem State.setPort_pins (s : State) (p : Port) (x : LinkPort) :
    (s.setPort p x).pins = s.pins := rfl
@[simp] theorem State.setPort_denoms (s : State) (p : Port) (x : LinkPort) :
    (s.setPort p x).denoms = s.denoms := rfl
@[simp] theorem State.setPort_classes (s : State) (p : Port) (x : LinkPort) :
    (s.setPort p x).classes = s.classes := rfl
@[simp] theorem State.setPort_stores (s : State) (p : Port) (x : LinkPort) :
    (s.setPort p x).stores = s.stores := rfl
@[simp] theorem State.setPort_boxes (s : State) (p : Port) (x : LinkPort) :
    (s.setPort p x).boxes = s.boxes := rfl
@[simp] theorem State.setPort_limits (s : State) (p : Port) (x : LinkPort) :
    (s.setPort p x).limits = s.limits := rfl
@[simp] theorem State.setPort_lanes (s : State) (p : Port) (x : LinkPort) :
    (s.setPort p x).lanes = s.lanes := rfl
@[simp] theorem State.setPort_heads (s : State) (p : Port) (x : LinkPort) :
    (s.setPort p x).heads = s.heads := rfl
@[simp] theorem State.setPort_planner (s : State) (p : Port) (x : LinkPort) :
    (s.setPort p x).planner = s.planner := rfl
@[simp] theorem State.setPort_pool (s : State) (p : Port) (x : LinkPort) :
    (s.setPort p x).pool = s.pool := rfl
@[simp] theorem State.setPort_paths (s : State) (p : Port) (x : LinkPort) :
    (s.setPort p x).paths = s.paths := rfl
@[simp] theorem State.setPort_presenterOpen (s : State) (p : Port) (x : LinkPort) :
    (s.setPort p x).presenterOpen = s.presenterOpen := rfl
@[simp] theorem State.setPort_active (s : State) (p : Port) (x : LinkPort) :
    (s.setPort p x).active = s.active := rfl
@[simp] theorem State.setPort_pendingMarks (s : State) (p : Port) (x : LinkPort) :
    (s.setPort p x).pendingMarks = s.pendingMarks := rfl
@[simp] theorem State.setPort_armed (s : State) (p : Port) (x : LinkPort) :
    (s.setPort p x).armed = s.armed := rfl
@[simp] theorem State.setPort_totals (s : State) (p : Port) (x : LinkPort) :
    (s.setPort p x).totals = s.totals := rfl
@[simp] theorem State.setPort_officeNotices (s : State) (p : Port) (x : LinkPort) :
    (s.setPort p x).officeNotices = s.officeNotices := rfl
@[simp] theorem State.setPort_laneNotices (s : State) (p : Port) (x : LinkPort) :
    (s.setPort p x).laneNotices = s.laneNotices := rfl
@[simp] theorem State.setPort_retained (s : State) (p : Port) (x : LinkPort) :
    (s.setPort p x).retained = s.retained := rfl

@[simp] theorem State.modPort_pending (s : State) (p : Port) (f : LinkPort → LinkPort) :
    (s.modPort p f).pending = s.pending := rfl
@[simp] theorem State.modPort_phase (s : State) (p : Port) (f : LinkPort → LinkPort) :
    (s.modPort p f).phase = s.phase := rfl
@[simp] theorem State.modPort_pins (s : State) (p : Port) (f : LinkPort → LinkPort) :
    (s.modPort p f).pins = s.pins := rfl
@[simp] theorem State.modPort_denoms (s : State) (p : Port) (f : LinkPort → LinkPort) :
    (s.modPort p f).denoms = s.denoms := rfl
@[simp] theorem State.modPort_classes (s : State) (p : Port) (f : LinkPort → LinkPort) :
    (s.modPort p f).classes = s.classes := rfl
@[simp] theorem State.modPort_stores (s : State) (p : Port) (f : LinkPort → LinkPort) :
    (s.modPort p f).stores = s.stores := rfl
@[simp] theorem State.modPort_boxes (s : State) (p : Port) (f : LinkPort → LinkPort) :
    (s.modPort p f).boxes = s.boxes := rfl
@[simp] theorem State.modPort_limits (s : State) (p : Port) (f : LinkPort → LinkPort) :
    (s.modPort p f).limits = s.limits := rfl
@[simp] theorem State.modPort_lanes (s : State) (p : Port) (f : LinkPort → LinkPort) :
    (s.modPort p f).lanes = s.lanes := rfl
@[simp] theorem State.modPort_heads (s : State) (p : Port) (f : LinkPort → LinkPort) :
    (s.modPort p f).heads = s.heads := rfl
@[simp] theorem State.modPort_planner (s : State) (p : Port) (f : LinkPort → LinkPort) :
    (s.modPort p f).planner = s.planner := rfl
@[simp] theorem State.modPort_pool (s : State) (p : Port) (f : LinkPort → LinkPort) :
    (s.modPort p f).pool = s.pool := rfl
@[simp] theorem State.modPort_paths (s : State) (p : Port) (f : LinkPort → LinkPort) :
    (s.modPort p f).paths = s.paths := rfl
@[simp] theorem State.modPort_presenterOpen (s : State) (p : Port) (f : LinkPort → LinkPort) :
    (s.modPort p f).presenterOpen = s.presenterOpen := rfl
@[simp] theorem State.modPort_active (s : State) (p : Port) (f : LinkPort → LinkPort) :
    (s.modPort p f).active = s.active := rfl
@[simp] theorem State.modPort_pendingMarks (s : State) (p : Port) (f : LinkPort → LinkPort) :
    (s.modPort p f).pendingMarks = s.pendingMarks := rfl
@[simp] theorem State.modPort_armed (s : State) (p : Port) (f : LinkPort → LinkPort) :
    (s.modPort p f).armed = s.armed := rfl
@[simp] theorem State.modPort_totals (s : State) (p : Port) (f : LinkPort → LinkPort) :
    (s.modPort p f).totals = s.totals := rfl
@[simp] theorem State.modPort_officeNotices (s : State) (p : Port) (f : LinkPort → LinkPort) :
    (s.modPort p f).officeNotices = s.officeNotices := rfl
@[simp] theorem State.modPort_laneNotices (s : State) (p : Port) (f : LinkPort → LinkPort) :
    (s.modPort p f).laneNotices = s.laneNotices := rfl
@[simp] theorem State.modPort_retained (s : State) (p : Port) (f : LinkPort → LinkPort) :
    (s.modPort p f).retained = s.retained := rfl

@[simp] theorem State.setDenom_pending (s : State) (d : Denom) (x : Denomination) :
    (s.setDenom d x).pending = s.pending := rfl
@[simp] theorem State.setDenom_phase (s : State) (d : Denom) (x : Denomination) :
    (s.setDenom d x).phase = s.phase := rfl
@[simp] theorem State.setDenom_pins (s : State) (d : Denom) (x : Denomination) :
    (s.setDenom d x).pins = s.pins := rfl
@[simp] theorem State.setDenom_classes (s : State) (d : Denom) (x : Denomination) :
    (s.setDenom d x).classes = s.classes := rfl
@[simp] theorem State.setDenom_stores (s : State) (d : Denom) (x : Denomination) :
    (s.setDenom d x).stores = s.stores := rfl
@[simp] theorem State.setDenom_boxes (s : State) (d : Denom) (x : Denomination) :
    (s.setDenom d x).boxes = s.boxes := rfl
@[simp] theorem State.setDenom_limits (s : State) (d : Denom) (x : Denomination) :
    (s.setDenom d x).limits = s.limits := rfl
@[simp] theorem State.setDenom_lanes (s : State) (d : Denom) (x : Denomination) :
    (s.setDenom d x).lanes = s.lanes := rfl
@[simp] theorem State.setDenom_heads (s : State) (d : Denom) (x : Denomination) :
    (s.setDenom d x).heads = s.heads := rfl
@[simp] theorem State.setDenom_planner (s : State) (d : Denom) (x : Denomination) :
    (s.setDenom d x).planner = s.planner := rfl
@[simp] theorem State.setDenom_pool (s : State) (d : Denom) (x : Denomination) :
    (s.setDenom d x).pool = s.pool := rfl
@[simp] theorem State.setDenom_paths (s : State) (d : Denom) (x : Denomination) :
    (s.setDenom d x).paths = s.paths := rfl
@[simp] theorem State.setDenom_presenterOpen (s : State) (d : Denom) (x : Denomination) :
    (s.setDenom d x).presenterOpen = s.presenterOpen := rfl
@[simp] theorem State.setDenom_active (s : State) (d : Denom) (x : Denomination) :
    (s.setDenom d x).active = s.active := rfl
@[simp] theorem State.setDenom_pendingMarks (s : State) (d : Denom) (x : Denomination) :
    (s.setDenom d x).pendingMarks = s.pendingMarks := rfl
@[simp] theorem State.setDenom_armed (s : State) (d : Denom) (x : Denomination) :
    (s.setDenom d x).armed = s.armed := rfl
@[simp] theorem State.setDenom_totals (s : State) (d : Denom) (x : Denomination) :
    (s.setDenom d x).totals = s.totals := rfl
@[simp] theorem State.setDenom_officeNotices (s : State) (d : Denom) (x : Denomination) :
    (s.setDenom d x).officeNotices = s.officeNotices := rfl
@[simp] theorem State.setDenom_laneNotices (s : State) (d : Denom) (x : Denomination) :
    (s.setDenom d x).laneNotices = s.laneNotices := rfl
@[simp] theorem State.setDenom_ports (s : State) (d : Denom) (x : Denomination) :
    (s.setDenom d x).ports = s.ports := rfl
@[simp] theorem State.setDenom_retained (s : State) (d : Denom) (x : Denomination) :
    (s.setDenom d x).retained = s.retained := rfl

@[simp] theorem State.placeLane_pending (s : State) (l : Lane) (r : Option LaneRequest) :
    (s.placeLane l r).pending = s.pending := rfl
@[simp] theorem State.placeLane_phase (s : State) (l : Lane) (r : Option LaneRequest) :
    (s.placeLane l r).phase = s.phase := rfl
@[simp] theorem State.placeLane_pins (s : State) (l : Lane) (r : Option LaneRequest) :
    (s.placeLane l r).pins = s.pins := rfl
@[simp] theorem State.placeLane_denoms (s : State) (l : Lane) (r : Option LaneRequest) :
    (s.placeLane l r).denoms = s.denoms := rfl
@[simp] theorem State.placeLane_classes (s : State) (l : Lane) (r : Option LaneRequest) :
    (s.placeLane l r).classes = s.classes := rfl
@[simp] theorem State.placeLane_stores (s : State) (l : Lane) (r : Option LaneRequest) :
    (s.placeLane l r).stores = s.stores := rfl
@[simp] theorem State.placeLane_boxes (s : State) (l : Lane) (r : Option LaneRequest) :
    (s.placeLane l r).boxes = s.boxes := rfl
@[simp] theorem State.placeLane_limits (s : State) (l : Lane) (r : Option LaneRequest) :
    (s.placeLane l r).limits = s.limits := rfl
@[simp] theorem State.placeLane_lanes (s : State) (l : Lane) (r : Option LaneRequest) :
    (s.placeLane l r).lanes = s.lanes := rfl
@[simp] theorem State.placeLane_heads (s : State) (l : Lane) (r : Option LaneRequest) :
    (s.placeLane l r).heads = s.heads := rfl
@[simp] theorem State.placeLane_pool (s : State) (l : Lane) (r : Option LaneRequest) :
    (s.placeLane l r).pool = s.pool := rfl
@[simp] theorem State.placeLane_paths (s : State) (l : Lane) (r : Option LaneRequest) :
    (s.placeLane l r).paths = s.paths := rfl
@[simp] theorem State.placeLane_presenterOpen (s : State) (l : Lane) (r : Option LaneRequest) :
    (s.placeLane l r).presenterOpen = s.presenterOpen := rfl
@[simp] theorem State.placeLane_active (s : State) (l : Lane) (r : Option LaneRequest) :
    (s.placeLane l r).active = s.active := rfl
@[simp] theorem State.placeLane_pendingMarks (s : State) (l : Lane) (r : Option LaneRequest) :
    (s.placeLane l r).pendingMarks = s.pendingMarks := rfl
@[simp] theorem State.placeLane_armed (s : State) (l : Lane) (r : Option LaneRequest) :
    (s.placeLane l r).armed = s.armed := rfl
@[simp] theorem State.placeLane_totals (s : State) (l : Lane) (r : Option LaneRequest) :
    (s.placeLane l r).totals = s.totals := rfl
@[simp] theorem State.placeLane_officeNotices (s : State) (l : Lane) (r : Option LaneRequest) :
    (s.placeLane l r).officeNotices = s.officeNotices := rfl
@[simp] theorem State.placeLane_laneNotices (s : State) (l : Lane) (r : Option LaneRequest) :
    (s.placeLane l r).laneNotices = s.laneNotices := rfl
@[simp] theorem State.placeLane_ports (s : State) (l : Lane) (r : Option LaneRequest) :
    (s.placeLane l r).ports = s.ports := rfl
@[simp] theorem State.placeLane_retained (s : State) (l : Lane) (r : Option LaneRequest) :
    (s.placeLane l r).retained = s.retained := rfl

@[simp] theorem State.placeSkim_pending (s : State) (r : Option SkimRequest) :
    (s.placeSkim r).pending = s.pending := rfl
@[simp] theorem State.placeSkim_phase (s : State) (r : Option SkimRequest) :
    (s.placeSkim r).phase = s.phase := rfl
@[simp] theorem State.placeSkim_pins (s : State) (r : Option SkimRequest) :
    (s.placeSkim r).pins = s.pins := rfl
@[simp] theorem State.placeSkim_denoms (s : State) (r : Option SkimRequest) :
    (s.placeSkim r).denoms = s.denoms := rfl
@[simp] theorem State.placeSkim_classes (s : State) (r : Option SkimRequest) :
    (s.placeSkim r).classes = s.classes := rfl
@[simp] theorem State.placeSkim_stores (s : State) (r : Option SkimRequest) :
    (s.placeSkim r).stores = s.stores := rfl
@[simp] theorem State.placeSkim_boxes (s : State) (r : Option SkimRequest) :
    (s.placeSkim r).boxes = s.boxes := rfl
@[simp] theorem State.placeSkim_limits (s : State) (r : Option SkimRequest) :
    (s.placeSkim r).limits = s.limits := rfl
@[simp] theorem State.placeSkim_lanes (s : State) (r : Option SkimRequest) :
    (s.placeSkim r).lanes = s.lanes := rfl
@[simp] theorem State.placeSkim_heads (s : State) (r : Option SkimRequest) :
    (s.placeSkim r).heads = s.heads := rfl
@[simp] theorem State.placeSkim_pool (s : State) (r : Option SkimRequest) :
    (s.placeSkim r).pool = s.pool := rfl
@[simp] theorem State.placeSkim_paths (s : State) (r : Option SkimRequest) :
    (s.placeSkim r).paths = s.paths := rfl
@[simp] theorem State.placeSkim_presenterOpen (s : State) (r : Option SkimRequest) :
    (s.placeSkim r).presenterOpen = s.presenterOpen := rfl
@[simp] theorem State.placeSkim_active (s : State) (r : Option SkimRequest) :
    (s.placeSkim r).active = s.active := rfl
@[simp] theorem State.placeSkim_pendingMarks (s : State) (r : Option SkimRequest) :
    (s.placeSkim r).pendingMarks = s.pendingMarks := rfl
@[simp] theorem State.placeSkim_armed (s : State) (r : Option SkimRequest) :
    (s.placeSkim r).armed = s.armed := rfl
@[simp] theorem State.placeSkim_totals (s : State) (r : Option SkimRequest) :
    (s.placeSkim r).totals = s.totals := rfl
@[simp] theorem State.placeSkim_officeNotices (s : State) (r : Option SkimRequest) :
    (s.placeSkim r).officeNotices = s.officeNotices := rfl
@[simp] theorem State.placeSkim_laneNotices (s : State) (r : Option SkimRequest) :
    (s.placeSkim r).laneNotices = s.laneNotices := rfl
@[simp] theorem State.placeSkim_ports (s : State) (r : Option SkimRequest) :
    (s.placeSkim r).ports = s.ports := rfl
@[simp] theorem State.placeSkim_retained (s : State) (r : Option SkimRequest) :
    (s.placeSkim r).retained = s.retained := rfl

@[simp] theorem State.freePlanner_pending (s : State) : s.freePlanner.pending = s.pending := rfl
@[simp] theorem State.freePlanner_phase (s : State) : s.freePlanner.phase = s.phase := rfl
@[simp] theorem State.freePlanner_pins (s : State) : s.freePlanner.pins = s.pins := rfl
@[simp] theorem State.freePlanner_denoms (s : State) : s.freePlanner.denoms = s.denoms := rfl
@[simp] theorem State.freePlanner_classes (s : State) : s.freePlanner.classes = s.classes := rfl
@[simp] theorem State.freePlanner_stores (s : State) : s.freePlanner.stores = s.stores := rfl
@[simp] theorem State.freePlanner_boxes (s : State) : s.freePlanner.boxes = s.boxes := rfl
@[simp] theorem State.freePlanner_limits (s : State) : s.freePlanner.limits = s.limits := rfl
@[simp] theorem State.freePlanner_lanes (s : State) : s.freePlanner.lanes = s.lanes := rfl
@[simp] theorem State.freePlanner_heads (s : State) : s.freePlanner.heads = s.heads := rfl
@[simp] theorem State.freePlanner_pool (s : State) : s.freePlanner.pool = s.pool := rfl
@[simp] theorem State.freePlanner_paths (s : State) : s.freePlanner.paths = s.paths := rfl
@[simp] theorem State.freePlanner_presenterOpen (s : State) :
    s.freePlanner.presenterOpen = s.presenterOpen := rfl
@[simp] theorem State.freePlanner_active (s : State) : s.freePlanner.active = s.active := rfl
@[simp] theorem State.freePlanner_pendingMarks (s : State) :
    s.freePlanner.pendingMarks = s.pendingMarks := rfl
@[simp] theorem State.freePlanner_armed (s : State) : s.freePlanner.armed = s.armed := rfl
@[simp] theorem State.freePlanner_totals (s : State) : s.freePlanner.totals = s.totals := rfl
@[simp] theorem State.freePlanner_officeNotices (s : State) :
    s.freePlanner.officeNotices = s.officeNotices := rfl
@[simp] theorem State.freePlanner_laneNotices (s : State) :
    s.freePlanner.laneNotices = s.laneNotices := rfl
@[simp] theorem State.freePlanner_ports (s : State) : s.freePlanner.ports = s.ports := rfl
@[simp] theorem State.freePlanner_retained (s : State) : s.freePlanner.retained = s.retained := rfl

@[simp] theorem State.officeFlag_pending (s : State) (n : OfficeNotice) (v : Bool) :
    (s.officeFlag n v).pending = s.pending := rfl
@[simp] theorem State.officeFlag_phase (s : State) (n : OfficeNotice) (v : Bool) :
    (s.officeFlag n v).phase = s.phase := rfl
@[simp] theorem State.officeFlag_pins (s : State) (n : OfficeNotice) (v : Bool) :
    (s.officeFlag n v).pins = s.pins := rfl
@[simp] theorem State.officeFlag_denoms (s : State) (n : OfficeNotice) (v : Bool) :
    (s.officeFlag n v).denoms = s.denoms := rfl
@[simp] theorem State.officeFlag_classes (s : State) (n : OfficeNotice) (v : Bool) :
    (s.officeFlag n v).classes = s.classes := rfl
@[simp] theorem State.officeFlag_stores (s : State) (n : OfficeNotice) (v : Bool) :
    (s.officeFlag n v).stores = s.stores := rfl
@[simp] theorem State.officeFlag_boxes (s : State) (n : OfficeNotice) (v : Bool) :
    (s.officeFlag n v).boxes = s.boxes := rfl
@[simp] theorem State.officeFlag_limits (s : State) (n : OfficeNotice) (v : Bool) :
    (s.officeFlag n v).limits = s.limits := rfl
@[simp] theorem State.officeFlag_lanes (s : State) (n : OfficeNotice) (v : Bool) :
    (s.officeFlag n v).lanes = s.lanes := rfl
@[simp] theorem State.officeFlag_heads (s : State) (n : OfficeNotice) (v : Bool) :
    (s.officeFlag n v).heads = s.heads := rfl
@[simp] theorem State.officeFlag_planner (s : State) (n : OfficeNotice) (v : Bool) :
    (s.officeFlag n v).planner = s.planner := rfl
@[simp] theorem State.officeFlag_pool (s : State) (n : OfficeNotice) (v : Bool) :
    (s.officeFlag n v).pool = s.pool := rfl
@[simp] theorem State.officeFlag_paths (s : State) (n : OfficeNotice) (v : Bool) :
    (s.officeFlag n v).paths = s.paths := rfl
@[simp] theorem State.officeFlag_presenterOpen (s : State) (n : OfficeNotice) (v : Bool) :
    (s.officeFlag n v).presenterOpen = s.presenterOpen := rfl
@[simp] theorem State.officeFlag_active (s : State) (n : OfficeNotice) (v : Bool) :
    (s.officeFlag n v).active = s.active := rfl
@[simp] theorem State.officeFlag_pendingMarks (s : State) (n : OfficeNotice) (v : Bool) :
    (s.officeFlag n v).pendingMarks = s.pendingMarks := rfl
@[simp] theorem State.officeFlag_armed (s : State) (n : OfficeNotice) (v : Bool) :
    (s.officeFlag n v).armed = s.armed := rfl
@[simp] theorem State.officeFlag_totals (s : State) (n : OfficeNotice) (v : Bool) :
    (s.officeFlag n v).totals = s.totals := rfl
@[simp] theorem State.officeFlag_laneNotices (s : State) (n : OfficeNotice) (v : Bool) :
    (s.officeFlag n v).laneNotices = s.laneNotices := rfl
@[simp] theorem State.officeFlag_ports (s : State) (n : OfficeNotice) (v : Bool) :
    (s.officeFlag n v).ports = s.ports := rfl
@[simp] theorem State.officeFlag_retained (s : State) (n : OfficeNotice) (v : Bool) :
    (s.officeFlag n v).retained = s.retained := rfl

@[simp] theorem State.laneFlag_pending (s : State) (l : Lane) (n : LaneNotice) (v : Bool) :
    (s.laneFlag l n v).pending = s.pending := rfl
@[simp] theorem State.laneFlag_phase (s : State) (l : Lane) (n : LaneNotice) (v : Bool) :
    (s.laneFlag l n v).phase = s.phase := rfl
@[simp] theorem State.laneFlag_pins (s : State) (l : Lane) (n : LaneNotice) (v : Bool) :
    (s.laneFlag l n v).pins = s.pins := rfl
@[simp] theorem State.laneFlag_denoms (s : State) (l : Lane) (n : LaneNotice) (v : Bool) :
    (s.laneFlag l n v).denoms = s.denoms := rfl
@[simp] theorem State.laneFlag_classes (s : State) (l : Lane) (n : LaneNotice) (v : Bool) :
    (s.laneFlag l n v).classes = s.classes := rfl
@[simp] theorem State.laneFlag_stores (s : State) (l : Lane) (n : LaneNotice) (v : Bool) :
    (s.laneFlag l n v).stores = s.stores := rfl
@[simp] theorem State.laneFlag_boxes (s : State) (l : Lane) (n : LaneNotice) (v : Bool) :
    (s.laneFlag l n v).boxes = s.boxes := rfl
@[simp] theorem State.laneFlag_limits (s : State) (l : Lane) (n : LaneNotice) (v : Bool) :
    (s.laneFlag l n v).limits = s.limits := rfl
@[simp] theorem State.laneFlag_lanes (s : State) (l : Lane) (n : LaneNotice) (v : Bool) :
    (s.laneFlag l n v).lanes = s.lanes := rfl
@[simp] theorem State.laneFlag_heads (s : State) (l : Lane) (n : LaneNotice) (v : Bool) :
    (s.laneFlag l n v).heads = s.heads := rfl
@[simp] theorem State.laneFlag_planner (s : State) (l : Lane) (n : LaneNotice) (v : Bool) :
    (s.laneFlag l n v).planner = s.planner := rfl
@[simp] theorem State.laneFlag_pool (s : State) (l : Lane) (n : LaneNotice) (v : Bool) :
    (s.laneFlag l n v).pool = s.pool := rfl
@[simp] theorem State.laneFlag_paths (s : State) (l : Lane) (n : LaneNotice) (v : Bool) :
    (s.laneFlag l n v).paths = s.paths := rfl
@[simp] theorem State.laneFlag_presenterOpen (s : State) (l : Lane) (n : LaneNotice) (v : Bool) :
    (s.laneFlag l n v).presenterOpen = s.presenterOpen := rfl
@[simp] theorem State.laneFlag_active (s : State) (l : Lane) (n : LaneNotice) (v : Bool) :
    (s.laneFlag l n v).active = s.active := rfl
@[simp] theorem State.laneFlag_pendingMarks (s : State) (l : Lane) (n : LaneNotice) (v : Bool) :
    (s.laneFlag l n v).pendingMarks = s.pendingMarks := rfl
@[simp] theorem State.laneFlag_armed (s : State) (l : Lane) (n : LaneNotice) (v : Bool) :
    (s.laneFlag l n v).armed = s.armed := rfl
@[simp] theorem State.laneFlag_totals (s : State) (l : Lane) (n : LaneNotice) (v : Bool) :
    (s.laneFlag l n v).totals = s.totals := rfl
@[simp] theorem State.laneFlag_officeNotices (s : State) (l : Lane) (n : LaneNotice) (v : Bool) :
    (s.laneFlag l n v).officeNotices = s.officeNotices := rfl
@[simp] theorem State.laneFlag_ports (s : State) (l : Lane) (n : LaneNotice) (v : Bool) :
    (s.laneFlag l n v).ports = s.ports := rfl
@[simp] theorem State.laneFlag_retained (s : State) (l : Lane) (n : LaneNotice) (v : Bool) :
    (s.laneFlag l n v).retained = s.retained := rfl

@[simp] theorem State.setCounters_pending (s : State) (d : Denom) (c : Counters) :
    (s.setCounters d c).pending = s.pending := rfl
@[simp] theorem State.setCounters_phase (s : State) (d : Denom) (c : Counters) :
    (s.setCounters d c).phase = s.phase := rfl
@[simp] theorem State.setCounters_pins (s : State) (d : Denom) (c : Counters) :
    (s.setCounters d c).pins = s.pins := rfl
@[simp] theorem State.setCounters_denoms (s : State) (d : Denom) (c : Counters) :
    (s.setCounters d c).denoms = s.denoms := rfl
@[simp] theorem State.setCounters_classes (s : State) (d : Denom) (c : Counters) :
    (s.setCounters d c).classes = s.classes := rfl
@[simp] theorem State.setCounters_stores (s : State) (d : Denom) (c : Counters) :
    (s.setCounters d c).stores = s.stores := rfl
@[simp] theorem State.setCounters_boxes (s : State) (d : Denom) (c : Counters) :
    (s.setCounters d c).boxes = s.boxes := rfl
@[simp] theorem State.setCounters_limits (s : State) (d : Denom) (c : Counters) :
    (s.setCounters d c).limits = s.limits := rfl
@[simp] theorem State.setCounters_lanes (s : State) (d : Denom) (c : Counters) :
    (s.setCounters d c).lanes = s.lanes := rfl
@[simp] theorem State.setCounters_heads (s : State) (d : Denom) (c : Counters) :
    (s.setCounters d c).heads = s.heads := rfl
@[simp] theorem State.setCounters_planner (s : State) (d : Denom) (c : Counters) :
    (s.setCounters d c).planner = s.planner := rfl
@[simp] theorem State.setCounters_pool (s : State) (d : Denom) (c : Counters) :
    (s.setCounters d c).pool = s.pool := rfl
@[simp] theorem State.setCounters_paths (s : State) (d : Denom) (c : Counters) :
    (s.setCounters d c).paths = s.paths := rfl
@[simp] theorem State.setCounters_presenterOpen (s : State) (d : Denom) (c : Counters) :
    (s.setCounters d c).presenterOpen = s.presenterOpen := rfl
@[simp] theorem State.setCounters_active (s : State) (d : Denom) (c : Counters) :
    (s.setCounters d c).active = s.active := rfl
@[simp] theorem State.setCounters_pendingMarks (s : State) (d : Denom) (c : Counters) :
    (s.setCounters d c).pendingMarks = s.pendingMarks := rfl
@[simp] theorem State.setCounters_armed (s : State) (d : Denom) (c : Counters) :
    (s.setCounters d c).armed = s.armed := rfl
@[simp] theorem State.setCounters_officeNotices (s : State) (d : Denom) (c : Counters) :
    (s.setCounters d c).officeNotices = s.officeNotices := rfl
@[simp] theorem State.setCounters_laneNotices (s : State) (d : Denom) (c : Counters) :
    (s.setCounters d c).laneNotices = s.laneNotices := rfl
@[simp] theorem State.setCounters_ports (s : State) (d : Denom) (c : Counters) :
    (s.setCounters d c).ports = s.ports := rfl
@[simp] theorem State.setCounters_retained (s : State) (d : Denom) (c : Counters) :
    (s.setCounters d c).retained = s.retained := rfl

@[simp] theorem State.markInexact_pending (s : State) : s.markInexact.pending = s.pending := rfl
@[simp] theorem State.markInexact_phase (s : State) : s.markInexact.phase = s.phase := rfl
@[simp] theorem State.markInexact_pins (s : State) : s.markInexact.pins = s.pins := rfl
@[simp] theorem State.markInexact_denoms (s : State) : s.markInexact.denoms = s.denoms := rfl
@[simp] theorem State.markInexact_classes (s : State) : s.markInexact.classes = s.classes := rfl
@[simp] theorem State.markInexact_stores (s : State) : s.markInexact.stores = s.stores := rfl
@[simp] theorem State.markInexact_boxes (s : State) : s.markInexact.boxes = s.boxes := rfl
@[simp] theorem State.markInexact_limits (s : State) : s.markInexact.limits = s.limits := rfl
@[simp] theorem State.markInexact_lanes (s : State) : s.markInexact.lanes = s.lanes := rfl
@[simp] theorem State.markInexact_heads (s : State) : s.markInexact.heads = s.heads := rfl
@[simp] theorem State.markInexact_planner (s : State) : s.markInexact.planner = s.planner := rfl
@[simp] theorem State.markInexact_pool (s : State) : s.markInexact.pool = s.pool := rfl
@[simp] theorem State.markInexact_paths (s : State) : s.markInexact.paths = s.paths := rfl
@[simp] theorem State.markInexact_presenterOpen (s : State) :
    s.markInexact.presenterOpen = s.presenterOpen := rfl
@[simp] theorem State.markInexact_active (s : State) : s.markInexact.active = s.active := rfl
@[simp] theorem State.markInexact_pendingMarks (s : State) :
    s.markInexact.pendingMarks = s.pendingMarks := rfl
@[simp] theorem State.markInexact_armed (s : State) : s.markInexact.armed = s.armed := rfl
@[simp] theorem State.markInexact_laneNotices (s : State) :
    s.markInexact.laneNotices = s.laneNotices := rfl
@[simp] theorem State.markInexact_ports (s : State) : s.markInexact.ports = s.ports := rfl
@[simp] theorem State.markInexact_retained (s : State) : s.markInexact.retained = s.retained := rfl

@[simp] theorem State.setTally_pending (s : State) (o : Owner) (k : Kind) (t : Tally) :
    (s.setTally o k t).pending = s.pending := rfl
@[simp] theorem State.setTally_phase (s : State) (o : Owner) (k : Kind) (t : Tally) :
    (s.setTally o k t).phase = s.phase := rfl
@[simp] theorem State.setTally_pins (s : State) (o : Owner) (k : Kind) (t : Tally) :
    (s.setTally o k t).pins = s.pins := rfl
@[simp] theorem State.setTally_denoms (s : State) (o : Owner) (k : Kind) (t : Tally) :
    (s.setTally o k t).denoms = s.denoms := rfl
@[simp] theorem State.setTally_classes (s : State) (o : Owner) (k : Kind) (t : Tally) :
    (s.setTally o k t).classes = s.classes := rfl
@[simp] theorem State.setTally_stores (s : State) (o : Owner) (k : Kind) (t : Tally) :
    (s.setTally o k t).stores = s.stores := rfl
@[simp] theorem State.setTally_boxes (s : State) (o : Owner) (k : Kind) (t : Tally) :
    (s.setTally o k t).boxes = s.boxes := rfl
@[simp] theorem State.setTally_limits (s : State) (o : Owner) (k : Kind) (t : Tally) :
    (s.setTally o k t).limits = s.limits := rfl
@[simp] theorem State.setTally_lanes (s : State) (o : Owner) (k : Kind) (t : Tally) :
    (s.setTally o k t).lanes = s.lanes := rfl
@[simp] theorem State.setTally_heads (s : State) (o : Owner) (k : Kind) (t : Tally) :
    (s.setTally o k t).heads = s.heads := rfl
@[simp] theorem State.setTally_planner (s : State) (o : Owner) (k : Kind) (t : Tally) :
    (s.setTally o k t).planner = s.planner := rfl
@[simp] theorem State.setTally_paths (s : State) (o : Owner) (k : Kind) (t : Tally) :
    (s.setTally o k t).paths = s.paths := rfl
@[simp] theorem State.setTally_presenterOpen (s : State) (o : Owner) (k : Kind) (t : Tally) :
    (s.setTally o k t).presenterOpen = s.presenterOpen := rfl
@[simp] theorem State.setTally_active (s : State) (o : Owner) (k : Kind) (t : Tally) :
    (s.setTally o k t).active = s.active := rfl
@[simp] theorem State.setTally_pendingMarks (s : State) (o : Owner) (k : Kind) (t : Tally) :
    (s.setTally o k t).pendingMarks = s.pendingMarks := rfl
@[simp] theorem State.setTally_armed (s : State) (o : Owner) (k : Kind) (t : Tally) :
    (s.setTally o k t).armed = s.armed := rfl
@[simp] theorem State.setTally_totals (s : State) (o : Owner) (k : Kind) (t : Tally) :
    (s.setTally o k t).totals = s.totals := rfl
@[simp] theorem State.setTally_officeNotices (s : State) (o : Owner) (k : Kind) (t : Tally) :
    (s.setTally o k t).officeNotices = s.officeNotices := rfl
@[simp] theorem State.setTally_laneNotices (s : State) (o : Owner) (k : Kind) (t : Tally) :
    (s.setTally o k t).laneNotices = s.laneNotices := rfl
@[simp] theorem State.setTally_ports (s : State) (o : Owner) (k : Kind) (t : Tally) :
    (s.setTally o k t).ports = s.ports := rfl
@[simp] theorem State.setTally_retained (s : State) (o : Owner) (k : Kind) (t : Tally) :
    (s.setTally o k t).retained = s.retained := rfl

@[simp] theorem State.clearTallies_pending (s : State) (o : Owner) :
    (s.clearTallies o).pending = s.pending := rfl
@[simp] theorem State.clearTallies_phase (s : State) (o : Owner) :
    (s.clearTallies o).phase = s.phase := rfl
@[simp] theorem State.clearTallies_pins (s : State) (o : Owner) :
    (s.clearTallies o).pins = s.pins := rfl
@[simp] theorem State.clearTallies_denoms (s : State) (o : Owner) :
    (s.clearTallies o).denoms = s.denoms := rfl
@[simp] theorem State.clearTallies_classes (s : State) (o : Owner) :
    (s.clearTallies o).classes = s.classes := rfl
@[simp] theorem State.clearTallies_stores (s : State) (o : Owner) :
    (s.clearTallies o).stores = s.stores := rfl
@[simp] theorem State.clearTallies_boxes (s : State) (o : Owner) :
    (s.clearTallies o).boxes = s.boxes := rfl
@[simp] theorem State.clearTallies_limits (s : State) (o : Owner) :
    (s.clearTallies o).limits = s.limits := rfl
@[simp] theorem State.clearTallies_lanes (s : State) (o : Owner) :
    (s.clearTallies o).lanes = s.lanes := rfl
@[simp] theorem State.clearTallies_heads (s : State) (o : Owner) :
    (s.clearTallies o).heads = s.heads := rfl
@[simp] theorem State.clearTallies_planner (s : State) (o : Owner) :
    (s.clearTallies o).planner = s.planner := rfl
@[simp] theorem State.clearTallies_paths (s : State) (o : Owner) :
    (s.clearTallies o).paths = s.paths := rfl
@[simp] theorem State.clearTallies_presenterOpen (s : State) (o : Owner) :
    (s.clearTallies o).presenterOpen = s.presenterOpen := rfl
@[simp] theorem State.clearTallies_active (s : State) (o : Owner) :
    (s.clearTallies o).active = s.active := rfl
@[simp] theorem State.clearTallies_pendingMarks (s : State) (o : Owner) :
    (s.clearTallies o).pendingMarks = s.pendingMarks := rfl
@[simp] theorem State.clearTallies_armed (s : State) (o : Owner) :
    (s.clearTallies o).armed = s.armed := rfl
@[simp] theorem State.clearTallies_totals (s : State) (o : Owner) :
    (s.clearTallies o).totals = s.totals := rfl
@[simp] theorem State.clearTallies_officeNotices (s : State) (o : Owner) :
    (s.clearTallies o).officeNotices = s.officeNotices := rfl
@[simp] theorem State.clearTallies_laneNotices (s : State) (o : Owner) :
    (s.clearTallies o).laneNotices = s.laneNotices := rfl
@[simp] theorem State.clearTallies_ports (s : State) (o : Owner) :
    (s.clearTallies o).ports = s.ports := rfl
@[simp] theorem State.clearTallies_retained (s : State) (o : Owner) :
    (s.clearTallies o).retained = s.retained := rfl

@[simp] theorem State.modRecord_pending (s : State) (x : SlotId) (f : Stroke → Stroke) :
    (s.modRecord x f).pending = s.pending := rfl
@[simp] theorem State.modRecord_phase (s : State) (x : SlotId) (f : Stroke → Stroke) :
    (s.modRecord x f).phase = s.phase := rfl
@[simp] theorem State.modRecord_pins (s : State) (x : SlotId) (f : Stroke → Stroke) :
    (s.modRecord x f).pins = s.pins := rfl
@[simp] theorem State.modRecord_denoms (s : State) (x : SlotId) (f : Stroke → Stroke) :
    (s.modRecord x f).denoms = s.denoms := rfl
@[simp] theorem State.modRecord_classes (s : State) (x : SlotId) (f : Stroke → Stroke) :
    (s.modRecord x f).classes = s.classes := rfl
@[simp] theorem State.modRecord_stores (s : State) (x : SlotId) (f : Stroke → Stroke) :
    (s.modRecord x f).stores = s.stores := rfl
@[simp] theorem State.modRecord_boxes (s : State) (x : SlotId) (f : Stroke → Stroke) :
    (s.modRecord x f).boxes = s.boxes := rfl
@[simp] theorem State.modRecord_limits (s : State) (x : SlotId) (f : Stroke → Stroke) :
    (s.modRecord x f).limits = s.limits := rfl
@[simp] theorem State.modRecord_lanes (s : State) (x : SlotId) (f : Stroke → Stroke) :
    (s.modRecord x f).lanes = s.lanes := rfl
@[simp] theorem State.modRecord_heads (s : State) (x : SlotId) (f : Stroke → Stroke) :
    (s.modRecord x f).heads = s.heads := rfl
@[simp] theorem State.modRecord_planner (s : State) (x : SlotId) (f : Stroke → Stroke) :
    (s.modRecord x f).planner = s.planner := rfl
@[simp] theorem State.modRecord_paths (s : State) (x : SlotId) (f : Stroke → Stroke) :
    (s.modRecord x f).paths = s.paths := rfl
@[simp] theorem State.modRecord_presenterOpen (s : State) (x : SlotId) (f : Stroke → Stroke) :
    (s.modRecord x f).presenterOpen = s.presenterOpen := rfl
@[simp] theorem State.modRecord_active (s : State) (x : SlotId) (f : Stroke → Stroke) :
    (s.modRecord x f).active = s.active := rfl
@[simp] theorem State.modRecord_pendingMarks (s : State) (x : SlotId) (f : Stroke → Stroke) :
    (s.modRecord x f).pendingMarks = s.pendingMarks := rfl
@[simp] theorem State.modRecord_armed (s : State) (x : SlotId) (f : Stroke → Stroke) :
    (s.modRecord x f).armed = s.armed := rfl
@[simp] theorem State.modRecord_totals (s : State) (x : SlotId) (f : Stroke → Stroke) :
    (s.modRecord x f).totals = s.totals := rfl
@[simp] theorem State.modRecord_officeNotices (s : State) (x : SlotId) (f : Stroke → Stroke) :
    (s.modRecord x f).officeNotices = s.officeNotices := rfl
@[simp] theorem State.modRecord_laneNotices (s : State) (x : SlotId) (f : Stroke → Stroke) :
    (s.modRecord x f).laneNotices = s.laneNotices := rfl
@[simp] theorem State.modRecord_ports (s : State) (x : SlotId) (f : Stroke → Stroke) :
    (s.modRecord x f).ports = s.ports := rfl
@[simp] theorem State.modRecord_retained (s : State) (x : SlotId) (f : Stroke → Stroke) :
    (s.modRecord x f).retained = s.retained := rfl

@[simp] theorem State.setCassettePin_pending (s : State) (k : StoreId) (b : Bool) :
    (s.setCassettePin k b).pending = s.pending := rfl
@[simp] theorem State.setCassettePin_phase (s : State) (k : StoreId) (b : Bool) :
    (s.setCassettePin k b).phase = s.phase := rfl
@[simp] theorem State.setCassettePin_denoms (s : State) (k : StoreId) (b : Bool) :
    (s.setCassettePin k b).denoms = s.denoms := rfl
@[simp] theorem State.setCassettePin_classes (s : State) (k : StoreId) (b : Bool) :
    (s.setCassettePin k b).classes = s.classes := rfl
@[simp] theorem State.setCassettePin_stores (s : State) (k : StoreId) (b : Bool) :
    (s.setCassettePin k b).stores = s.stores := rfl
@[simp] theorem State.setCassettePin_boxes (s : State) (k : StoreId) (b : Bool) :
    (s.setCassettePin k b).boxes = s.boxes := rfl
@[simp] theorem State.setCassettePin_limits (s : State) (k : StoreId) (b : Bool) :
    (s.setCassettePin k b).limits = s.limits := rfl
@[simp] theorem State.setCassettePin_lanes (s : State) (k : StoreId) (b : Bool) :
    (s.setCassettePin k b).lanes = s.lanes := rfl
@[simp] theorem State.setCassettePin_heads (s : State) (k : StoreId) (b : Bool) :
    (s.setCassettePin k b).heads = s.heads := rfl
@[simp] theorem State.setCassettePin_planner (s : State) (k : StoreId) (b : Bool) :
    (s.setCassettePin k b).planner = s.planner := rfl
@[simp] theorem State.setCassettePin_pool (s : State) (k : StoreId) (b : Bool) :
    (s.setCassettePin k b).pool = s.pool := rfl
@[simp] theorem State.setCassettePin_paths (s : State) (k : StoreId) (b : Bool) :
    (s.setCassettePin k b).paths = s.paths := rfl
@[simp] theorem State.setCassettePin_presenterOpen (s : State) (k : StoreId) (b : Bool) :
    (s.setCassettePin k b).presenterOpen = s.presenterOpen := rfl
@[simp] theorem State.setCassettePin_active (s : State) (k : StoreId) (b : Bool) :
    (s.setCassettePin k b).active = s.active := rfl
@[simp] theorem State.setCassettePin_pendingMarks (s : State) (k : StoreId) (b : Bool) :
    (s.setCassettePin k b).pendingMarks = s.pendingMarks := rfl
@[simp] theorem State.setCassettePin_armed (s : State) (k : StoreId) (b : Bool) :
    (s.setCassettePin k b).armed = s.armed := rfl
@[simp] theorem State.setCassettePin_totals (s : State) (k : StoreId) (b : Bool) :
    (s.setCassettePin k b).totals = s.totals := rfl
@[simp] theorem State.setCassettePin_officeNotices (s : State) (k : StoreId) (b : Bool) :
    (s.setCassettePin k b).officeNotices = s.officeNotices := rfl
@[simp] theorem State.setCassettePin_laneNotices (s : State) (k : StoreId) (b : Bool) :
    (s.setCassettePin k b).laneNotices = s.laneNotices := rfl
@[simp] theorem State.setCassettePin_ports (s : State) (k : StoreId) (b : Bool) :
    (s.setCassettePin k b).ports = s.ports := rfl
@[simp] theorem State.setCassettePin_retained (s : State) (k : StoreId) (b : Bool) :
    (s.setCassettePin k b).retained = s.retained := rfl

@[simp] theorem State.setLevelPin_pending (s : State) (k : StoreId) (b : Bool) :
    (s.setLevelPin k b).pending = s.pending := rfl
@[simp] theorem State.setLevelPin_phase (s : State) (k : StoreId) (b : Bool) :
    (s.setLevelPin k b).phase = s.phase := rfl
@[simp] theorem State.setLevelPin_denoms (s : State) (k : StoreId) (b : Bool) :
    (s.setLevelPin k b).denoms = s.denoms := rfl
@[simp] theorem State.setLevelPin_classes (s : State) (k : StoreId) (b : Bool) :
    (s.setLevelPin k b).classes = s.classes := rfl
@[simp] theorem State.setLevelPin_stores (s : State) (k : StoreId) (b : Bool) :
    (s.setLevelPin k b).stores = s.stores := rfl
@[simp] theorem State.setLevelPin_boxes (s : State) (k : StoreId) (b : Bool) :
    (s.setLevelPin k b).boxes = s.boxes := rfl
@[simp] theorem State.setLevelPin_limits (s : State) (k : StoreId) (b : Bool) :
    (s.setLevelPin k b).limits = s.limits := rfl
@[simp] theorem State.setLevelPin_lanes (s : State) (k : StoreId) (b : Bool) :
    (s.setLevelPin k b).lanes = s.lanes := rfl
@[simp] theorem State.setLevelPin_heads (s : State) (k : StoreId) (b : Bool) :
    (s.setLevelPin k b).heads = s.heads := rfl
@[simp] theorem State.setLevelPin_planner (s : State) (k : StoreId) (b : Bool) :
    (s.setLevelPin k b).planner = s.planner := rfl
@[simp] theorem State.setLevelPin_pool (s : State) (k : StoreId) (b : Bool) :
    (s.setLevelPin k b).pool = s.pool := rfl
@[simp] theorem State.setLevelPin_paths (s : State) (k : StoreId) (b : Bool) :
    (s.setLevelPin k b).paths = s.paths := rfl
@[simp] theorem State.setLevelPin_presenterOpen (s : State) (k : StoreId) (b : Bool) :
    (s.setLevelPin k b).presenterOpen = s.presenterOpen := rfl
@[simp] theorem State.setLevelPin_active (s : State) (k : StoreId) (b : Bool) :
    (s.setLevelPin k b).active = s.active := rfl
@[simp] theorem State.setLevelPin_pendingMarks (s : State) (k : StoreId) (b : Bool) :
    (s.setLevelPin k b).pendingMarks = s.pendingMarks := rfl
@[simp] theorem State.setLevelPin_armed (s : State) (k : StoreId) (b : Bool) :
    (s.setLevelPin k b).armed = s.armed := rfl
@[simp] theorem State.setLevelPin_totals (s : State) (k : StoreId) (b : Bool) :
    (s.setLevelPin k b).totals = s.totals := rfl
@[simp] theorem State.setLevelPin_officeNotices (s : State) (k : StoreId) (b : Bool) :
    (s.setLevelPin k b).officeNotices = s.officeNotices := rfl
@[simp] theorem State.setLevelPin_laneNotices (s : State) (k : StoreId) (b : Bool) :
    (s.setLevelPin k b).laneNotices = s.laneNotices := rfl
@[simp] theorem State.setLevelPin_ports (s : State) (k : StoreId) (b : Bool) :
    (s.setLevelPin k b).ports = s.ports := rfl
@[simp] theorem State.setLevelPin_retained (s : State) (k : StoreId) (b : Bool) :
    (s.setLevelPin k b).retained = s.retained := rfl

@[simp] theorem State.setBoxPin_pending (s : State) (k : Kind) (b : Bool) :
    (s.setBoxPin k b).pending = s.pending := rfl
@[simp] theorem State.setBoxPin_phase (s : State) (k : Kind) (b : Bool) :
    (s.setBoxPin k b).phase = s.phase := rfl
@[simp] theorem State.setBoxPin_denoms (s : State) (k : Kind) (b : Bool) :
    (s.setBoxPin k b).denoms = s.denoms := rfl
@[simp] theorem State.setBoxPin_classes (s : State) (k : Kind) (b : Bool) :
    (s.setBoxPin k b).classes = s.classes := rfl
@[simp] theorem State.setBoxPin_stores (s : State) (k : Kind) (b : Bool) :
    (s.setBoxPin k b).stores = s.stores := rfl
@[simp] theorem State.setBoxPin_boxes (s : State) (k : Kind) (b : Bool) :
    (s.setBoxPin k b).boxes = s.boxes := rfl
@[simp] theorem State.setBoxPin_limits (s : State) (k : Kind) (b : Bool) :
    (s.setBoxPin k b).limits = s.limits := rfl
@[simp] theorem State.setBoxPin_lanes (s : State) (k : Kind) (b : Bool) :
    (s.setBoxPin k b).lanes = s.lanes := rfl
@[simp] theorem State.setBoxPin_heads (s : State) (k : Kind) (b : Bool) :
    (s.setBoxPin k b).heads = s.heads := rfl
@[simp] theorem State.setBoxPin_planner (s : State) (k : Kind) (b : Bool) :
    (s.setBoxPin k b).planner = s.planner := rfl
@[simp] theorem State.setBoxPin_pool (s : State) (k : Kind) (b : Bool) :
    (s.setBoxPin k b).pool = s.pool := rfl
@[simp] theorem State.setBoxPin_paths (s : State) (k : Kind) (b : Bool) :
    (s.setBoxPin k b).paths = s.paths := rfl
@[simp] theorem State.setBoxPin_presenterOpen (s : State) (k : Kind) (b : Bool) :
    (s.setBoxPin k b).presenterOpen = s.presenterOpen := rfl
@[simp] theorem State.setBoxPin_active (s : State) (k : Kind) (b : Bool) :
    (s.setBoxPin k b).active = s.active := rfl
@[simp] theorem State.setBoxPin_pendingMarks (s : State) (k : Kind) (b : Bool) :
    (s.setBoxPin k b).pendingMarks = s.pendingMarks := rfl
@[simp] theorem State.setBoxPin_armed (s : State) (k : Kind) (b : Bool) :
    (s.setBoxPin k b).armed = s.armed := rfl
@[simp] theorem State.setBoxPin_totals (s : State) (k : Kind) (b : Bool) :
    (s.setBoxPin k b).totals = s.totals := rfl
@[simp] theorem State.setBoxPin_officeNotices (s : State) (k : Kind) (b : Bool) :
    (s.setBoxPin k b).officeNotices = s.officeNotices := rfl
@[simp] theorem State.setBoxPin_laneNotices (s : State) (k : Kind) (b : Bool) :
    (s.setBoxPin k b).laneNotices = s.laneNotices := rfl
@[simp] theorem State.setBoxPin_ports (s : State) (k : Kind) (b : Bool) :
    (s.setBoxPin k b).ports = s.ports := rfl
@[simp] theorem State.setBoxPin_retained (s : State) (k : Kind) (b : Bool) :
    (s.setBoxPin k b).retained = s.retained := rfl

@[simp] theorem State.setChutePin_pending (s : State) (l : Lane) (k : Kind) (b : Bool) :
    (s.setChutePin l k b).pending = s.pending := rfl
@[simp] theorem State.setChutePin_phase (s : State) (l : Lane) (k : Kind) (b : Bool) :
    (s.setChutePin l k b).phase = s.phase := rfl
@[simp] theorem State.setChutePin_denoms (s : State) (l : Lane) (k : Kind) (b : Bool) :
    (s.setChutePin l k b).denoms = s.denoms := rfl
@[simp] theorem State.setChutePin_classes (s : State) (l : Lane) (k : Kind) (b : Bool) :
    (s.setChutePin l k b).classes = s.classes := rfl
@[simp] theorem State.setChutePin_stores (s : State) (l : Lane) (k : Kind) (b : Bool) :
    (s.setChutePin l k b).stores = s.stores := rfl
@[simp] theorem State.setChutePin_boxes (s : State) (l : Lane) (k : Kind) (b : Bool) :
    (s.setChutePin l k b).boxes = s.boxes := rfl
@[simp] theorem State.setChutePin_limits (s : State) (l : Lane) (k : Kind) (b : Bool) :
    (s.setChutePin l k b).limits = s.limits := rfl
@[simp] theorem State.setChutePin_lanes (s : State) (l : Lane) (k : Kind) (b : Bool) :
    (s.setChutePin l k b).lanes = s.lanes := rfl
@[simp] theorem State.setChutePin_heads (s : State) (l : Lane) (k : Kind) (b : Bool) :
    (s.setChutePin l k b).heads = s.heads := rfl
@[simp] theorem State.setChutePin_planner (s : State) (l : Lane) (k : Kind) (b : Bool) :
    (s.setChutePin l k b).planner = s.planner := rfl
@[simp] theorem State.setChutePin_pool (s : State) (l : Lane) (k : Kind) (b : Bool) :
    (s.setChutePin l k b).pool = s.pool := rfl
@[simp] theorem State.setChutePin_paths (s : State) (l : Lane) (k : Kind) (b : Bool) :
    (s.setChutePin l k b).paths = s.paths := rfl
@[simp] theorem State.setChutePin_presenterOpen (s : State) (l : Lane) (k : Kind) (b : Bool) :
    (s.setChutePin l k b).presenterOpen = s.presenterOpen := rfl
@[simp] theorem State.setChutePin_active (s : State) (l : Lane) (k : Kind) (b : Bool) :
    (s.setChutePin l k b).active = s.active := rfl
@[simp] theorem State.setChutePin_pendingMarks (s : State) (l : Lane) (k : Kind) (b : Bool) :
    (s.setChutePin l k b).pendingMarks = s.pendingMarks := rfl
@[simp] theorem State.setChutePin_armed (s : State) (l : Lane) (k : Kind) (b : Bool) :
    (s.setChutePin l k b).armed = s.armed := rfl
@[simp] theorem State.setChutePin_totals (s : State) (l : Lane) (k : Kind) (b : Bool) :
    (s.setChutePin l k b).totals = s.totals := rfl
@[simp] theorem State.setChutePin_officeNotices (s : State) (l : Lane) (k : Kind) (b : Bool) :
    (s.setChutePin l k b).officeNotices = s.officeNotices := rfl
@[simp] theorem State.setChutePin_laneNotices (s : State) (l : Lane) (k : Kind) (b : Bool) :
    (s.setChutePin l k b).laneNotices = s.laneNotices := rfl
@[simp] theorem State.setChutePin_ports (s : State) (l : Lane) (k : Kind) (b : Bool) :
    (s.setChutePin l k b).ports = s.ports := rfl
@[simp] theorem State.setChutePin_retained (s : State) (l : Lane) (k : Kind) (b : Bool) :
    (s.setChutePin l k b).retained = s.retained := rfl

@[simp] theorem State.setClass_pending (s : State) (k : Kind) (c : ClassCode) (e : Option Denom) :
    (s.setClass k c e).pending = s.pending := rfl
@[simp] theorem State.setClass_phase (s : State) (k : Kind) (c : ClassCode) (e : Option Denom) :
    (s.setClass k c e).phase = s.phase := rfl
@[simp] theorem State.setClass_pins (s : State) (k : Kind) (c : ClassCode) (e : Option Denom) :
    (s.setClass k c e).pins = s.pins := rfl
@[simp] theorem State.setClass_denoms (s : State) (k : Kind) (c : ClassCode) (e : Option Denom) :
    (s.setClass k c e).denoms = s.denoms := rfl
@[simp] theorem State.setClass_stores (s : State) (k : Kind) (c : ClassCode) (e : Option Denom) :
    (s.setClass k c e).stores = s.stores := rfl
@[simp] theorem State.setClass_boxes (s : State) (k : Kind) (c : ClassCode) (e : Option Denom) :
    (s.setClass k c e).boxes = s.boxes := rfl
@[simp] theorem State.setClass_limits (s : State) (k : Kind) (c : ClassCode) (e : Option Denom) :
    (s.setClass k c e).limits = s.limits := rfl
@[simp] theorem State.setClass_lanes (s : State) (k : Kind) (c : ClassCode) (e : Option Denom) :
    (s.setClass k c e).lanes = s.lanes := rfl
@[simp] theorem State.setClass_heads (s : State) (k : Kind) (c : ClassCode) (e : Option Denom) :
    (s.setClass k c e).heads = s.heads := rfl
@[simp] theorem State.setClass_planner (s : State) (k : Kind) (c : ClassCode) (e : Option Denom) :
    (s.setClass k c e).planner = s.planner := rfl
@[simp] theorem State.setClass_pool (s : State) (k : Kind) (c : ClassCode) (e : Option Denom) :
    (s.setClass k c e).pool = s.pool := rfl
@[simp] theorem State.setClass_paths (s : State) (k : Kind) (c : ClassCode) (e : Option Denom) :
    (s.setClass k c e).paths = s.paths := rfl
@[simp] theorem State.setClass_presenterOpen (s : State) (k : Kind) (c : ClassCode) (e : Option Denom) :
    (s.setClass k c e).presenterOpen = s.presenterOpen := rfl
@[simp] theorem State.setClass_active (s : State) (k : Kind) (c : ClassCode) (e : Option Denom) :
    (s.setClass k c e).active = s.active := rfl
@[simp] theorem State.setClass_pendingMarks (s : State) (k : Kind) (c : ClassCode) (e : Option Denom) :
    (s.setClass k c e).pendingMarks = s.pendingMarks := rfl
@[simp] theorem State.setClass_armed (s : State) (k : Kind) (c : ClassCode) (e : Option Denom) :
    (s.setClass k c e).armed = s.armed := rfl
@[simp] theorem State.setClass_totals (s : State) (k : Kind) (c : ClassCode) (e : Option Denom) :
    (s.setClass k c e).totals = s.totals := rfl
@[simp] theorem State.setClass_officeNotices (s : State) (k : Kind) (c : ClassCode) (e : Option Denom) :
    (s.setClass k c e).officeNotices = s.officeNotices := rfl
@[simp] theorem State.setClass_laneNotices (s : State) (k : Kind) (c : ClassCode) (e : Option Denom) :
    (s.setClass k c e).laneNotices = s.laneNotices := rfl
@[simp] theorem State.setClass_ports (s : State) (k : Kind) (c : ClassCode) (e : Option Denom) :
    (s.setClass k c e).ports = s.ports := rfl
@[simp] theorem State.setClass_retained (s : State) (k : Kind) (c : ClassCode) (e : Option Denom) :
    (s.setClass k c e).retained = s.retained := rfl

@[simp] theorem State.setReceiver_pending (s : State) (p : Port) (x : Receiver) :
    (s.setReceiver p x).pending = s.pending := rfl
@[simp] theorem State.setReceiver_phase (s : State) (p : Port) (x : Receiver) :
    (s.setReceiver p x).phase = s.phase := rfl
@[simp] theorem State.setReceiver_pins (s : State) (p : Port) (x : Receiver) :
    (s.setReceiver p x).pins = s.pins := rfl
@[simp] theorem State.setReceiver_denoms (s : State) (p : Port) (x : Receiver) :
    (s.setReceiver p x).denoms = s.denoms := rfl
@[simp] theorem State.setReceiver_classes (s : State) (p : Port) (x : Receiver) :
    (s.setReceiver p x).classes = s.classes := rfl
@[simp] theorem State.setReceiver_stores (s : State) (p : Port) (x : Receiver) :
    (s.setReceiver p x).stores = s.stores := rfl
@[simp] theorem State.setReceiver_boxes (s : State) (p : Port) (x : Receiver) :
    (s.setReceiver p x).boxes = s.boxes := rfl
@[simp] theorem State.setReceiver_limits (s : State) (p : Port) (x : Receiver) :
    (s.setReceiver p x).limits = s.limits := rfl
@[simp] theorem State.setReceiver_lanes (s : State) (p : Port) (x : Receiver) :
    (s.setReceiver p x).lanes = s.lanes := rfl
@[simp] theorem State.setReceiver_heads (s : State) (p : Port) (x : Receiver) :
    (s.setReceiver p x).heads = s.heads := rfl
@[simp] theorem State.setReceiver_planner (s : State) (p : Port) (x : Receiver) :
    (s.setReceiver p x).planner = s.planner := rfl
@[simp] theorem State.setReceiver_pool (s : State) (p : Port) (x : Receiver) :
    (s.setReceiver p x).pool = s.pool := rfl
@[simp] theorem State.setReceiver_paths (s : State) (p : Port) (x : Receiver) :
    (s.setReceiver p x).paths = s.paths := rfl
@[simp] theorem State.setReceiver_presenterOpen (s : State) (p : Port) (x : Receiver) :
    (s.setReceiver p x).presenterOpen = s.presenterOpen := rfl
@[simp] theorem State.setReceiver_active (s : State) (p : Port) (x : Receiver) :
    (s.setReceiver p x).active = s.active := rfl
@[simp] theorem State.setReceiver_pendingMarks (s : State) (p : Port) (x : Receiver) :
    (s.setReceiver p x).pendingMarks = s.pendingMarks := rfl
@[simp] theorem State.setReceiver_armed (s : State) (p : Port) (x : Receiver) :
    (s.setReceiver p x).armed = s.armed := rfl
@[simp] theorem State.setReceiver_totals (s : State) (p : Port) (x : Receiver) :
    (s.setReceiver p x).totals = s.totals := rfl
@[simp] theorem State.setReceiver_officeNotices (s : State) (p : Port) (x : Receiver) :
    (s.setReceiver p x).officeNotices = s.officeNotices := rfl
@[simp] theorem State.setReceiver_laneNotices (s : State) (p : Port) (x : Receiver) :
    (s.setReceiver p x).laneNotices = s.laneNotices := rfl
@[simp] theorem State.setReceiver_retained (s : State) (p : Port) (x : Receiver) :
    (s.setReceiver p x).retained = s.retained := rfl

@[simp] theorem State.sendReply_pending (s : State) (p : Port) (c : Byte) (a : Response) (b : Bool) :
    (s.sendReply p c a b).pending = s.pending := rfl
@[simp] theorem State.sendReply_phase (s : State) (p : Port) (c : Byte) (a : Response) (b : Bool) :
    (s.sendReply p c a b).phase = s.phase := rfl
@[simp] theorem State.sendReply_pins (s : State) (p : Port) (c : Byte) (a : Response) (b : Bool) :
    (s.sendReply p c a b).pins = s.pins := rfl
@[simp] theorem State.sendReply_denoms (s : State) (p : Port) (c : Byte) (a : Response) (b : Bool) :
    (s.sendReply p c a b).denoms = s.denoms := rfl
@[simp] theorem State.sendReply_classes (s : State) (p : Port) (c : Byte) (a : Response) (b : Bool) :
    (s.sendReply p c a b).classes = s.classes := rfl
@[simp] theorem State.sendReply_stores (s : State) (p : Port) (c : Byte) (a : Response) (b : Bool) :
    (s.sendReply p c a b).stores = s.stores := rfl
@[simp] theorem State.sendReply_boxes (s : State) (p : Port) (c : Byte) (a : Response) (b : Bool) :
    (s.sendReply p c a b).boxes = s.boxes := rfl
@[simp] theorem State.sendReply_limits (s : State) (p : Port) (c : Byte) (a : Response) (b : Bool) :
    (s.sendReply p c a b).limits = s.limits := rfl
@[simp] theorem State.sendReply_lanes (s : State) (p : Port) (c : Byte) (a : Response) (b : Bool) :
    (s.sendReply p c a b).lanes = s.lanes := rfl
@[simp] theorem State.sendReply_heads (s : State) (p : Port) (c : Byte) (a : Response) (b : Bool) :
    (s.sendReply p c a b).heads = s.heads := rfl
@[simp] theorem State.sendReply_planner (s : State) (p : Port) (c : Byte) (a : Response) (b : Bool) :
    (s.sendReply p c a b).planner = s.planner := rfl
@[simp] theorem State.sendReply_pool (s : State) (p : Port) (c : Byte) (a : Response) (b : Bool) :
    (s.sendReply p c a b).pool = s.pool := rfl
@[simp] theorem State.sendReply_paths (s : State) (p : Port) (c : Byte) (a : Response) (b : Bool) :
    (s.sendReply p c a b).paths = s.paths := rfl
@[simp] theorem State.sendReply_presenterOpen (s : State) (p : Port) (c : Byte) (a : Response) (b : Bool) :
    (s.sendReply p c a b).presenterOpen = s.presenterOpen := rfl
@[simp] theorem State.sendReply_active (s : State) (p : Port) (c : Byte) (a : Response) (b : Bool) :
    (s.sendReply p c a b).active = s.active := rfl
@[simp] theorem State.sendReply_pendingMarks (s : State) (p : Port) (c : Byte) (a : Response) (b : Bool) :
    (s.sendReply p c a b).pendingMarks = s.pendingMarks := rfl
@[simp] theorem State.sendReply_armed (s : State) (p : Port) (c : Byte) (a : Response) (b : Bool) :
    (s.sendReply p c a b).armed = s.armed := rfl
@[simp] theorem State.sendReply_totals (s : State) (p : Port) (c : Byte) (a : Response) (b : Bool) :
    (s.sendReply p c a b).totals = s.totals := rfl
@[simp] theorem State.sendReply_officeNotices (s : State) (p : Port) (c : Byte) (a : Response) (b : Bool) :
    (s.sendReply p c a b).officeNotices = s.officeNotices := rfl
@[simp] theorem State.sendReply_laneNotices (s : State) (p : Port) (c : Byte) (a : Response) (b : Bool) :
    (s.sendReply p c a b).laneNotices = s.laneNotices := rfl
@[simp] theorem State.sendReply_retained (s : State) (p : Port) (c : Byte) (a : Response) (b : Bool) :
    (s.sendReply p c a b).retained = s.retained := rfl

@[simp] theorem State.refreshNotices_pending (s : State) :
    s.refreshNotices.pending = s.pending := rfl
@[simp] theorem State.refreshNotices_phase (s : State) : s.refreshNotices.phase = s.phase := rfl
@[simp] theorem State.refreshNotices_pins (s : State) : s.refreshNotices.pins = s.pins := rfl
@[simp] theorem State.refreshNotices_denoms (s : State) : s.refreshNotices.denoms = s.denoms := rfl
@[simp] theorem State.refreshNotices_classes (s : State) :
    s.refreshNotices.classes = s.classes := rfl
@[simp] theorem State.refreshNotices_stores (s : State) : s.refreshNotices.stores = s.stores := rfl
@[simp] theorem State.refreshNotices_boxes (s : State) : s.refreshNotices.boxes = s.boxes := rfl
@[simp] theorem State.refreshNotices_limits (s : State) : s.refreshNotices.limits = s.limits := rfl
@[simp] theorem State.refreshNotices_lanes (s : State) : s.refreshNotices.lanes = s.lanes := rfl
@[simp] theorem State.refreshNotices_heads (s : State) : s.refreshNotices.heads = s.heads := rfl
@[simp] theorem State.refreshNotices_planner (s : State) :
    s.refreshNotices.planner = s.planner := rfl
@[simp] theorem State.refreshNotices_pool (s : State) : s.refreshNotices.pool = s.pool := rfl
@[simp] theorem State.refreshNotices_paths (s : State) : s.refreshNotices.paths = s.paths := rfl
@[simp] theorem State.refreshNotices_presenterOpen (s : State) :
    s.refreshNotices.presenterOpen = s.presenterOpen := rfl
@[simp] theorem State.refreshNotices_active (s : State) : s.refreshNotices.active = s.active := rfl
@[simp] theorem State.refreshNotices_pendingMarks (s : State) :
    s.refreshNotices.pendingMarks = s.pendingMarks := rfl
@[simp] theorem State.refreshNotices_armed (s : State) : s.refreshNotices.armed = s.armed := rfl
@[simp] theorem State.refreshNotices_totals (s : State) : s.refreshNotices.totals = s.totals := rfl
@[simp] theorem State.refreshNotices_ports (s : State) : s.refreshNotices.ports = s.ports := rfl
@[simp] theorem State.refreshNotices_retained (s : State) :
    s.refreshNotices.retained = s.retained := rfl

@[simp] theorem State.makeDurable_pending (s : State) : s.makeDurable.pending = s.pending := rfl
@[simp] theorem State.makeDurable_phase (s : State) : s.makeDurable.phase = s.phase := rfl
@[simp] theorem State.makeDurable_pins (s : State) : s.makeDurable.pins = s.pins := rfl
@[simp] theorem State.makeDurable_denoms (s : State) : s.makeDurable.denoms = s.denoms := rfl
@[simp] theorem State.makeDurable_classes (s : State) : s.makeDurable.classes = s.classes := rfl
@[simp] theorem State.makeDurable_stores (s : State) : s.makeDurable.stores = s.stores := rfl
@[simp] theorem State.makeDurable_boxes (s : State) : s.makeDurable.boxes = s.boxes := rfl
@[simp] theorem State.makeDurable_limits (s : State) : s.makeDurable.limits = s.limits := rfl
@[simp] theorem State.makeDurable_lanes (s : State) : s.makeDurable.lanes = s.lanes := rfl
@[simp] theorem State.makeDurable_heads (s : State) : s.makeDurable.heads = s.heads := rfl
@[simp] theorem State.makeDurable_planner (s : State) : s.makeDurable.planner = s.planner := rfl
@[simp] theorem State.makeDurable_pool (s : State) : s.makeDurable.pool = s.pool := rfl
@[simp] theorem State.makeDurable_paths (s : State) : s.makeDurable.paths = s.paths := rfl
@[simp] theorem State.makeDurable_presenterOpen (s : State) :
    s.makeDurable.presenterOpen = s.presenterOpen := rfl
@[simp] theorem State.makeDurable_active (s : State) : s.makeDurable.active = s.active := rfl
@[simp] theorem State.makeDurable_pendingMarks (s : State) :
    s.makeDurable.pendingMarks = s.pendingMarks := rfl
@[simp] theorem State.makeDurable_armed (s : State) : s.makeDurable.armed = s.armed := rfl
@[simp] theorem State.makeDurable_totals (s : State) : s.makeDurable.totals = s.totals := rfl
@[simp] theorem State.makeDurable_officeNotices (s : State) :
    s.makeDurable.officeNotices = s.officeNotices := rfl
@[simp] theorem State.makeDurable_laneNotices (s : State) :
    s.makeDurable.laneNotices = s.laneNotices := rfl
@[simp] theorem State.makeDurable_ports (s : State) : s.makeDurable.ports = s.ports := rfl

@[simp] theorem State.closeEvent_pending (s : State) : s.closeEvent.pending = s.pending := rfl
@[simp] theorem State.closeEvent_phase (s : State) : s.closeEvent.phase = s.phase := rfl
@[simp] theorem State.closeEvent_pins (s : State) : s.closeEvent.pins = s.pins := rfl
@[simp] theorem State.closeEvent_denoms (s : State) : s.closeEvent.denoms = s.denoms := rfl
@[simp] theorem State.closeEvent_classes (s : State) : s.closeEvent.classes = s.classes := rfl
@[simp] theorem State.closeEvent_stores (s : State) : s.closeEvent.stores = s.stores := rfl
@[simp] theorem State.closeEvent_boxes (s : State) : s.closeEvent.boxes = s.boxes := rfl
@[simp] theorem State.closeEvent_limits (s : State) : s.closeEvent.limits = s.limits := rfl
@[simp] theorem State.closeEvent_lanes (s : State) : s.closeEvent.lanes = s.lanes := rfl
@[simp] theorem State.closeEvent_heads (s : State) : s.closeEvent.heads = s.heads := rfl
@[simp] theorem State.closeEvent_planner (s : State) : s.closeEvent.planner = s.planner := rfl
@[simp] theorem State.closeEvent_pool (s : State) : s.closeEvent.pool = s.pool := rfl
@[simp] theorem State.closeEvent_paths (s : State) : s.closeEvent.paths = s.paths := rfl
@[simp] theorem State.closeEvent_presenterOpen (s : State) :
    s.closeEvent.presenterOpen = s.presenterOpen := rfl
@[simp] theorem State.closeEvent_active (s : State) : s.closeEvent.active = s.active := rfl
@[simp] theorem State.closeEvent_pendingMarks (s : State) :
    s.closeEvent.pendingMarks = s.pendingMarks := rfl
@[simp] theorem State.closeEvent_armed (s : State) : s.closeEvent.armed = s.armed := rfl
@[simp] theorem State.closeEvent_totals (s : State) : s.closeEvent.totals = s.totals := rfl
@[simp] theorem State.closeEvent_ports (s : State) : s.closeEvent.ports = s.ports := rfl

@[simp] theorem State.withPending_phase (s : State) (q : List Instr) :
    (s.withPending q).phase = s.phase := rfl
@[simp] theorem State.withPending_pins (s : State) (q : List Instr) :
    (s.withPending q).pins = s.pins := rfl
@[simp] theorem State.withPending_denoms (s : State) (q : List Instr) :
    (s.withPending q).denoms = s.denoms := rfl
@[simp] theorem State.withPending_classes (s : State) (q : List Instr) :
    (s.withPending q).classes = s.classes := rfl
@[simp] theorem State.withPending_stores (s : State) (q : List Instr) :
    (s.withPending q).stores = s.stores := rfl
@[simp] theorem State.withPending_boxes (s : State) (q : List Instr) :
    (s.withPending q).boxes = s.boxes := rfl
@[simp] theorem State.withPending_limits (s : State) (q : List Instr) :
    (s.withPending q).limits = s.limits := rfl
@[simp] theorem State.withPending_lanes (s : State) (q : List Instr) :
    (s.withPending q).lanes = s.lanes := rfl
@[simp] theorem State.withPending_heads (s : State) (q : List Instr) :
    (s.withPending q).heads = s.heads := rfl
@[simp] theorem State.withPending_planner (s : State) (q : List Instr) :
    (s.withPending q).planner = s.planner := rfl
@[simp] theorem State.withPending_pool (s : State) (q : List Instr) :
    (s.withPending q).pool = s.pool := rfl
@[simp] theorem State.withPending_paths (s : State) (q : List Instr) :
    (s.withPending q).paths = s.paths := rfl
@[simp] theorem State.withPending_presenterOpen (s : State) (q : List Instr) :
    (s.withPending q).presenterOpen = s.presenterOpen := rfl
@[simp] theorem State.withPending_active (s : State) (q : List Instr) :
    (s.withPending q).active = s.active := rfl
@[simp] theorem State.withPending_pendingMarks (s : State) (q : List Instr) :
    (s.withPending q).pendingMarks = s.pendingMarks := rfl
@[simp] theorem State.withPending_armed (s : State) (q : List Instr) :
    (s.withPending q).armed = s.armed := rfl
@[simp] theorem State.withPending_totals (s : State) (q : List Instr) :
    (s.withPending q).totals = s.totals := rfl
@[simp] theorem State.withPending_officeNotices (s : State) (q : List Instr) :
    (s.withPending q).officeNotices = s.officeNotices := rfl
@[simp] theorem State.withPending_laneNotices (s : State) (q : List Instr) :
    (s.withPending q).laneNotices = s.laneNotices := rfl
@[simp] theorem State.withPending_ports (s : State) (q : List Instr) :
    (s.withPending q).ports = s.ports := rfl
@[simp] theorem State.withPending_retained (s : State) (q : List Instr) :
    (s.withPending q).retained = s.retained := rfl

/-! ### What a read gives after a write -/

@[simp] theorem State.store_setStore_self (s : State) (k : StoreId) (x : Store) :
    (s.setStore k x).store k = x := by simp [State.store, State.setStore]

theorem State.store_setStore_ne (s : State) (k j : StoreId) (x : Store) (h : j ≠ k) :
    (s.setStore k x).store j = s.store j := by
  have hv : k.val ≠ j.val := fun e => h (Fin.ext e.symm)
  simp [State.store, State.setStore, hv]

@[simp] theorem State.store_modStore_self (s : State) (k : StoreId) (f : Store → Store) :
    (s.modStore k f).store k = f (s.store k) := by simp [State.modStore]

theorem State.store_modStore_ne (s : State) (k j : StoreId) (f : Store → Store) (h : j ≠ k) :
    (s.modStore k f).store j = s.store j := s.store_setStore_ne k j _ h

/-- A store after a change of one store, in one formula. -/
theorem State.store_modStore (s : State) (k j : StoreId) (f : Store → Store) :
    (s.modStore k f).store j = if j = k then f (s.store k) else s.store j := by
  by_cases h : j = k
  · subst h; simp
  · simp [h, s.store_modStore_ne k j f h]

@[simp] theorem State.box_setBox_self (s : State) (k : Kind) (x : Cashbox) :
    (s.setBox k x).box k = x := by simp [State.box, State.setBox]

theorem State.box_setBox_ne (s : State) (k j : Kind) (x : Cashbox) (h : j ≠ k) :
    (s.setBox k x).box j = s.box j := PerKind.get_set_ne _ _ _ _ h

@[simp] theorem State.box_modBox_self (s : State) (k : Kind) (f : Cashbox → Cashbox) :
    (s.modBox k f).box k = f (s.box k) := by simp [State.modBox]

theorem State.box_modBox_ne (s : State) (k j : Kind) (f : Cashbox → Cashbox) (h : j ≠ k) :
    (s.modBox k f).box j = s.box j := s.box_setBox_ne k j _ h

@[simp] theorem State.lane_setLane_self (s : State) (l : Lane) (x : LaneControl) :
    (s.setLane l x).lane l = x := by simp [State.lane, State.setLane]

theorem State.lane_setLane_ne (s : State) (l m : Lane) (x : LaneControl) (h : m ≠ l) :
    (s.setLane l x).lane m = s.lane m := PerLane.get_set_ne _ _ _ _ h

@[simp] theorem State.sale_setSale_self (s : State) (l : Lane) (x : Sale) :
    (s.setSale l x).sale l = x := by simp [State.sale, State.setSale]

theorem State.sale_setSale_ne (s : State) (l m : Lane) (x : Sale) (h : m ≠ l) :
    (s.setSale l x).sale m = s.sale m := by
  simp [State.sale, State.setSale, s.lane_setLane_ne l m _ h]

@[simp] theorem State.sale_modSale_self (s : State) (l : Lane) (f : Sale → Sale) :
    (s.modSale l f).sale l = f (s.sale l) := by simp [State.modSale]

theorem State.sale_modSale_ne (s : State) (l m : Lane) (f : Sale → Sale) (h : m ≠ l) :
    (s.modSale l f).sale m = s.sale m := s.sale_setSale_ne l m _ h

@[simp] theorem State.mode_setSale (s : State) (l m : Lane) (x : Sale) :
    (s.setSale l x).mode m = s.mode m := by
  by_cases h : m = l
  · subst h; simp [State.mode, State.setSale]
  · simp [State.mode, State.setSale, s.lane_setLane_ne l m _ h]

@[simp] theorem State.slot_setSale (s : State) (l m : Lane) (x : Sale) :
    (s.setSale l x).slot m = s.slot m := by
  by_cases h : m = l
  · subst h; simp [State.slot, State.setSale]
  · simp [State.slot, State.setSale, s.lane_setLane_ne l m _ h]

@[simp] theorem State.mode_modSale (s : State) (l m : Lane) (f : Sale → Sale) :
    (s.modSale l f).mode m = s.mode m := s.mode_setSale l m _

@[simp] theorem State.slot_modSale (s : State) (l m : Lane) (f : Sale → Sale) :
    (s.modSale l f).slot m = s.slot m := s.slot_setSale l m _

@[simp] theorem State.slot_setSlot_self (s : State) (l : Lane) (c : Option Completion) :
    (s.setSlot l c).slot l = c := by simp [State.slot, State.setSlot]

@[simp] theorem State.sale_setSlot (s : State) (l m : Lane) (c : Option Completion) :
    (s.setSlot l c).sale m = s.sale m := by
  by_cases h : m = l
  · subst h; simp [State.sale, State.setSlot]
  · simp [State.sale, State.setSlot, s.lane_setLane_ne l m _ h]

@[simp] theorem State.mode_setSlot (s : State) (l m : Lane) (c : Option Completion) :
    (s.setSlot l c).mode m = s.mode m := by
  by_cases h : m = l
  · subst h; simp [State.mode, State.setSlot]
  · simp [State.mode, State.setSlot, s.lane_setLane_ne l m _ h]

@[simp] theorem State.path_setPath_self (s : State) (k : Kind) (x : Arbiter) :
    (s.setPath k x).path k = x := by simp [State.path, State.setPath]

theorem State.path_setPath_ne (s : State) (k j : Kind) (x : Arbiter) (h : j ≠ k) :
    (s.setPath k x).path j = s.path j := PerKind.get_set_ne _ _ _ _ h

@[simp] theorem State.path_modPath_self (s : State) (k : Kind) (f : Arbiter → Arbiter) :
    (s.modPath k f).path k = f (s.path k) := by simp [State.modPath]

theorem State.path_modPath_ne (s : State) (k j : Kind) (f : Arbiter → Arbiter) (h : j ≠ k) :
    (s.modPath k f).path j = s.path j := s.path_setPath_ne k j _ h

@[simp] theorem State.port_setPort_self (s : State) (p : Port) (x : LinkPort) :
    (s.setPort p x).port p = x := by simp [State.port, State.setPort]

theorem State.port_setPort_ne (s : State) (p q : Port) (x : LinkPort) (h : q ≠ p) :
    (s.setPort p x).port q = s.port q := PerParty.get_set_ne _ _ _ _ h

@[simp] theorem State.port_modPort_self (s : State) (p : Port) (f : LinkPort → LinkPort) :
    (s.modPort p f).port p = f (s.port p) := by simp [State.modPort]

theorem State.port_modPort_ne (s : State) (p q : Port) (f : LinkPort → LinkPort) (h : q ≠ p) :
    (s.modPort p f).port q = s.port q := s.port_setPort_ne p q _ h

@[simp] theorem State.setPort_setPort (s : State) (p : Port) (x y : LinkPort) :
    (s.setPort p x).setPort p y = s.setPort p y := by simp [State.setPort]

@[simp] theorem State.head_setHead_self (s : State) (l : Lane) (k : Kind) (x : Head) :
    (s.setHead l k x).head l k = x := by simp [State.head, State.setHead]

@[simp] theorem State.counters_setCounters_self (s : State) (d : Denom) (c : Counters) :
    (s.setCounters d c).counters d = c := by simp [State.counters, State.setCounters]

theorem State.counters_setCounters_ne (s : State) (d e : Denom) (c : Counters) (h : e ≠ d) :
    (s.setCounters d c).counters e = s.counters e := by
  have hv : d.val ≠ e.val := fun he => h (Fin.ext he.symm)
  simp [State.counters, State.setCounters, hv]

@[simp] theorem Counters.get_set_self (c : Counters) (k : Counter) (n : Nat) :
    (c.set k n).get k = n := by cases k <;> rfl

theorem Counters.get_set_ne (c : Counters) (k j : Counter) (n : Nat) (h : j ≠ k) :
    (c.set k n).get j = c.get j := by cases k <;> cases j <;> first | rfl | exact absurd rfl h

@[simp] theorem Counters.adjusted_set (c : Counters) (k : Counter) (n : Nat) :
    (c.set k n).adjusted = c.adjusted := by cases k <;> rfl

end Machine

end Sys2Proof
end

