-- ==== Sys2Proof/Laws/Events.lean ====
section
/-! SUPPORT. What each shared operation can change: one lemma for each field it leaves alone, and for what it
does change one lemma that says so. -/

namespace Sys2Proof.Machine

/-! ### Bookings -/

@[simp] theorem State.book_frame (s : State) (c : Counter) (d : Denom) (n : Nat) :
    (s.book c d n).pending = s.pending ∧ (s.book c d n).phase = s.phase ∧
    (s.book c d n).pins = s.pins ∧ (s.book c d n).denoms = s.denoms ∧
    (s.book c d n).classes = s.classes ∧ (s.book c d n).stores = s.stores ∧
    (s.book c d n).boxes = s.boxes ∧ (s.book c d n).limits = s.limits ∧
    (s.book c d n).lanes = s.lanes ∧ (s.book c d n).heads = s.heads ∧
    (s.book c d n).planner = s.planner ∧ (s.book c d n).pool = s.pool ∧
    (s.book c d n).paths = s.paths ∧ (s.book c d n).presenterOpen = s.presenterOpen ∧
    (s.book c d n).active = s.active ∧ (s.book c d n).pendingMarks = s.pendingMarks ∧
    (s.book c d n).armed = s.armed ∧ (s.book c d n).laneNotices = s.laneNotices ∧
    (s.book c d n).ports = s.ports ∧ (s.book c d n).retained = s.retained := by
  unfold State.book; split <;> simp

@[simp] theorem State.bookAdjusted_frame (s : State) (d : Denom) (n : Int) :
    (s.bookAdjusted d n).pending = s.pending ∧ (s.bookAdjusted d n).phase = s.phase ∧
    (s.bookAdjusted d n).pins = s.pins ∧ (s.bookAdjusted d n).denoms = s.denoms ∧
    (s.bookAdjusted d n).classes = s.classes ∧ (s.bookAdjusted d n).stores = s.stores ∧
    (s.bookAdjusted d n).boxes = s.boxes ∧ (s.bookAdjusted d n).limits = s.limits ∧
    (s.bookAdjusted d n).lanes = s.lanes ∧ (s.bookAdjusted d n).heads = s.heads ∧
    (s.bookAdjusted d n).planner = s.planner ∧ (s.bookAdjusted d n).pool = s.pool ∧
    (s.bookAdjusted d n).paths = s.paths ∧ (s.bookAdjusted d n).presenterOpen = s.presenterOpen ∧
    (s.bookAdjusted d n).active = s.active ∧ (s.bookAdjusted d n).pendingMarks = s.pendingMarks ∧
    (s.bookAdjusted d n).armed = s.armed ∧ (s.bookAdjusted d n).laneNotices = s.laneNotices ∧
    (s.bookAdjusted d n).ports = s.ports ∧ (s.bookAdjusted d n).retained = s.retained := by
  unfold State.bookAdjusted; split; simp; split <;> simp

@[simp] theorem State.bookStore_frame (s : State) (c : Counter) (k : StoreId) (n : Nat) :
    (s.bookStore c k n).pending = s.pending ∧ (s.bookStore c k n).phase = s.phase ∧
    (s.bookStore c k n).pins = s.pins ∧ (s.bookStore c k n).denoms = s.denoms ∧
    (s.bookStore c k n).classes = s.classes ∧ (s.bookStore c k n).stores = s.stores ∧
    (s.bookStore c k n).boxes = s.boxes ∧ (s.bookStore c k n).limits = s.limits ∧
    (s.bookStore c k n).lanes = s.lanes ∧ (s.bookStore c k n).heads = s.heads ∧
    (s.bookStore c k n).planner = s.planner ∧ (s.bookStore c k n).pool = s.pool ∧
    (s.bookStore c k n).paths = s.paths ∧ (s.bookStore c k n).presenterOpen = s.presenterOpen ∧
    (s.bookStore c k n).active = s.active ∧ (s.bookStore c k n).pendingMarks = s.pendingMarks ∧
    (s.bookStore c k n).armed = s.armed ∧ (s.bookStore c k n).laneNotices = s.laneNotices ∧
    (s.bookStore c k n).ports = s.ports ∧ (s.bookStore c k n).retained = s.retained := by
  unfold State.bookStore; split <;> simp

@[simp] theorem State.bookAdjustedStore_frame (s : State) (k : StoreId) (n : Int) :
    (s.bookAdjustedStore k n).pending = s.pending ∧ (s.bookAdjustedStore k n).phase = s.phase ∧
    (s.bookAdjustedStore k n).pins = s.pins ∧ (s.bookAdjustedStore k n).denoms = s.denoms ∧
    (s.bookAdjustedStore k n).classes = s.classes ∧ (s.bookAdjustedStore k n).stores = s.stores ∧
    (s.bookAdjustedStore k n).boxes = s.boxes ∧ (s.bookAdjustedStore k n).limits = s.limits ∧
    (s.bookAdjustedStore k n).lanes = s.lanes ∧ (s.bookAdjustedStore k n).heads = s.heads ∧
    (s.bookAdjustedStore k n).planner = s.planner ∧ (s.bookAdjustedStore k n).pool = s.pool ∧
    (s.bookAdjustedStore k n).paths = s.paths ∧
    (s.bookAdjustedStore k n).presenterOpen = s.presenterOpen ∧
    (s.bookAdjustedStore k n).active = s.active ∧
    (s.bookAdjustedStore k n).pendingMarks = s.pendingMarks ∧
    (s.bookAdjustedStore k n).armed = s.armed ∧
    (s.bookAdjustedStore k n).laneNotices = s.laneNotices ∧
    (s.bookAdjustedStore k n).ports = s.ports ∧
    (s.bookAdjustedStore k n).retained = s.retained := by
  unfold State.bookAdjustedStore; split <;> simp

@[simp] theorem State.bookUnplaced_frame (s : State) (f : Fill) :
    (s.bookUnplaced f).pending = s.pending ∧ (s.bookUnplaced f).phase = s.phase ∧
    (s.bookUnplaced f).pins = s.pins ∧ (s.bookUnplaced f).denoms = s.denoms ∧
    (s.bookUnplaced f).classes = s.classes ∧ (s.bookUnplaced f).stores = s.stores ∧
    (s.bookUnplaced f).boxes = s.boxes ∧ (s.bookUnplaced f).limits = s.limits ∧
    (s.bookUnplaced f).lanes = s.lanes ∧ (s.bookUnplaced f).heads = s.heads ∧
    (s.bookUnplaced f).planner = s.planner ∧ (s.bookUnplaced f).pool = s.pool ∧
    (s.bookUnplaced f).paths = s.paths ∧ (s.bookUnplaced f).presenterOpen = s.presenterOpen ∧
    (s.bookUnplaced f).active = s.active ∧ (s.bookUnplaced f).pendingMarks = s.pendingMarks ∧
    (s.bookUnplaced f).armed = s.armed ∧ (s.bookUnplaced f).laneNotices = s.laneNotices ∧
    (s.bookUnplaced f).ports = s.ports ∧ (s.bookUnplaced f).retained = s.retained := by
  simp [State.bookUnplaced]

/-! ### What a stroke gives back -/

@[simp] theorem State.askMakeup_frame (s : State) (l : Lane) :
    (s.askMakeup l).pending = s.pending ∧ (s.askMakeup l).phase = s.phase ∧
    (s.askMakeup l).pins = s.pins ∧ (s.askMakeup l).denoms = s.denoms ∧
    (s.askMakeup l).classes = s.classes ∧ (s.askMakeup l).stores = s.stores ∧
    (s.askMakeup l).boxes = s.boxes ∧ (s.askMakeup l).limits = s.limits ∧
    (s.askMakeup l).lanes = s.lanes ∧ (s.askMakeup l).heads = s.heads ∧
    (s.askMakeup l).pool = s.pool ∧ (s.askMakeup l).paths = s.paths ∧
    (s.askMakeup l).presenterOpen = s.presenterOpen ∧ (s.askMakeup l).active = s.active ∧
    (s.askMakeup l).pendingMarks = s.pendingMarks ∧ (s.askMakeup l).armed = s.armed ∧
    (s.askMakeup l).totals = s.totals ∧ (s.askMakeup l).officeNotices = s.officeNotices ∧
    (s.askMakeup l).laneNotices = s.laneNotices ∧ (s.askMakeup l).ports = s.ports ∧
    (s.askMakeup l).retained = s.retained := by
  unfold State.askMakeup; split <;> simp

@[simp] theorem State.giveBack_frame (s : State) (l : Lane) (k : Kind) (n v : Nat) :
    (s.giveBack l k n v).pending = s.pending ∧ (s.giveBack l k n v).phase = s.phase ∧
    (s.giveBack l k n v).pins = s.pins ∧ (s.giveBack l k n v).denoms = s.denoms ∧
    (s.giveBack l k n v).classes = s.classes ∧ (s.giveBack l k n v).stores = s.stores ∧
    (s.giveBack l k n v).boxes = s.boxes ∧ (s.giveBack l k n v).limits = s.limits ∧
    (s.giveBack l k n v).heads = s.heads ∧ (s.giveBack l k n v).pool = s.pool ∧
    (s.giveBack l k n v).paths = s.paths ∧ (s.giveBack l k n v).presenterOpen = s.presenterOpen ∧
    (s.giveBack l k n v).active = s.active ∧ (s.giveBack l k n v).pendingMarks = s.pendingMarks ∧
    (s.giveBack l k n v).armed = s.armed ∧ (s.giveBack l k n v).totals = s.totals ∧
    (s.giveBack l k n v).officeNotices = s.officeNotices ∧
    (s.giveBack l k n v).laneNotices = s.laneNotices ∧ (s.giveBack l k n v).ports = s.ports ∧
    (s.giveBack l k n v).retained = s.retained := by
  unfold State.giveBack; split <;> simp

@[simp] theorem State.release_frame (s : State) (r : Stroke) (n : Nat) :
    (s.release r n).pending = s.pending ∧ (s.release r n).phase = s.phase ∧
    (s.release r n).pins = s.pins ∧ (s.release r n).denoms = s.denoms ∧
    (s.release r n).classes = s.classes ∧ (s.release r n).limits = s.limits ∧
    (s.release r n).heads = s.heads ∧ (s.release r n).pool = s.pool ∧
    (s.release r n).paths = s.paths ∧ (s.release r n).presenterOpen = s.presenterOpen ∧
    (s.release r n).active = s.active ∧ (s.release r n).pendingMarks = s.pendingMarks ∧
    (s.release r n).armed = s.armed ∧ (s.release r n).totals = s.totals ∧
    (s.release r n).officeNotices = s.officeNotices ∧ (s.release r n).laneNotices = s.laneNotices ∧
    (s.release r n).ports = s.ports ∧ (s.release r n).retained = s.retained := by
  unfold State.release; cases r.owner <;> simp

@[simp] theorem State.endRecord_frame (s : State) (r : Stroke) (how : Ending) (n : Nat) :
    (s.endRecord r how n).pending = s.pending ∧ (s.endRecord r how n).phase = s.phase ∧
    (s.endRecord r how n).pins = s.pins ∧ (s.endRecord r how n).denoms = s.denoms ∧
    (s.endRecord r how n).classes = s.classes ∧ (s.endRecord r how n).limits = s.limits ∧
    (s.endRecord r how n).heads = s.heads ∧ (s.endRecord r how n).paths = s.paths ∧
    (s.endRecord r how n).presenterOpen = s.presenterOpen ∧
    (s.endRecord r how n).active = s.active ∧ (s.endRecord r how n).pendingMarks = s.pendingMarks ∧
    (s.endRecord r how n).armed = s.armed ∧ (s.endRecord r how n).totals = s.totals ∧
    (s.endRecord r how n).officeNotices = s.officeNotices ∧
    (s.endRecord r how n).laneNotices = s.laneNotices ∧ (s.endRecord r how n).ports = s.ports ∧
    (s.endRecord r how n).retained = s.retained := by
  simp [State.endRecord]

/-- A fold keeps what each of its steps keeps. -/
theorem foldl_keeps {α β γ : Type} (f : α → β → α) (view : α → γ)
    (h : ∀ a b, view (f a b) = view a) : ∀ (xs : List β) (a : α), view (xs.foldl f a) = view a
  | [], _ => rfl
  | x :: xs, a => (foldl_keeps f view h xs (f a x)).trans (h a x)

@[simp] theorem State.endStrokes_frame (s : State) (how : Stroke → Option (Ending × Nat)) :
    (s.endStrokes how).pending = s.pending ∧ (s.endStrokes how).phase = s.phase ∧
    (s.endStrokes how).pins = s.pins ∧ (s.endStrokes how).denoms = s.denoms ∧
    (s.endStrokes how).classes = s.classes ∧ (s.endStrokes how).limits = s.limits ∧
    (s.endStrokes how).heads = s.heads ∧ (s.endStrokes how).paths = s.paths ∧
    (s.endStrokes how).presenterOpen = s.presenterOpen ∧ (s.endStrokes how).active = s.active ∧
    (s.endStrokes how).pendingMarks = s.pendingMarks ∧ (s.endStrokes how).armed = s.armed ∧
    (s.endStrokes how).totals = s.totals ∧ (s.endStrokes how).officeNotices = s.officeNotices ∧
    (s.endStrokes how).laneNotices = s.laneNotices ∧ (s.endStrokes how).ports = s.ports ∧
    (s.endStrokes how).retained = s.retained := by
  unfold State.endStrokes
  have h : ∀ (t : State) (r : Stroke) (u : State), u = (match how r with
        | some (e, n) => t.endRecord r e n
        | none => t) →
      u.pending = t.pending ∧ u.phase = t.phase ∧ u.pins = t.pins ∧ u.denoms = t.denoms ∧
      u.classes = t.classes ∧ u.limits = t.limits ∧ u.heads = t.heads ∧ u.paths = t.paths ∧
      u.presenterOpen = t.presenterOpen ∧ u.active = t.active ∧ u.pendingMarks = t.pendingMarks ∧
      u.armed = t.armed ∧ u.totals = t.totals ∧ u.officeNotices = t.officeNotices ∧
      u.laneNotices = t.laneNotices ∧ u.ports = t.ports ∧ u.retained = t.retained := by
    intro t r u hu; subst hu; split <;> simp
  refine ⟨foldl_keeps _ State.pending (fun t r => (h t r _ rfl).1) _ _,
    foldl_keeps _ State.phase (fun t r => (h t r _ rfl).2.1) _ _,
    foldl_keeps _ State.pins (fun t r => (h t r _ rfl).2.2.1) _ _,
    foldl_keeps _ State.denoms (fun t r => (h t r _ rfl).2.2.2.1) _ _,
    foldl_keeps _ State.classes (fun t r => (h t r _ rfl).2.2.2.2.1) _ _,
    foldl_keeps _ State.limits (fun t r => (h t r _ rfl).2.2.2.2.2.1) _ _,
    foldl_keeps _ State.heads (fun t r => (h t r _ rfl).2.2.2.2.2.2.1) _ _,
    foldl_keeps _ State.paths (fun t r => (h t r _ rfl).2.2.2.2.2.2.2.1) _ _,
    foldl_keeps _ State.presenterOpen (fun t r => (h t r _ rfl).2.2.2.2.2.2.2.2.1) _ _,
    foldl_keeps _ State.active (fun t r => (h t r _ rfl).2.2.2.2.2.2.2.2.2.1) _ _,
    foldl_keeps _ State.pendingMarks (fun t r => (h t r _ rfl).2.2.2.2.2.2.2.2.2.2.1) _ _,
    foldl_keeps _ State.armed (fun t r => (h t r _ rfl).2.2.2.2.2.2.2.2.2.2.2.1) _ _,
    foldl_keeps _ State.totals (fun t r => (h t r _ rfl).2.2.2.2.2.2.2.2.2.2.2.2.1) _ _,
    foldl_keeps _ State.officeNotices (fun t r => (h t r _ rfl).2.2.2.2.2.2.2.2.2.2.2.2.2.1) _ _,
    foldl_keeps _ State.laneNotices (fun t r => (h t r _ rfl).2.2.2.2.2.2.2.2.2.2.2.2.2.2.1) _ _,
    foldl_keeps _ State.ports (fun t r => (h t r _ rfl).2.2.2.2.2.2.2.2.2.2.2.2.2.2.2.1) _ _,
    foldl_keeps _ State.retained (fun t r => (h t r _ rfl).2.2.2.2.2.2.2.2.2.2.2.2.2.2.2.2) _ _⟩

@[simp] theorem State.dropWaiting_frame (s : State) (k : StoreId) :
    (s.dropWaiting k).pending = s.pending ∧ (s.dropWaiting k).phase = s.phase ∧
    (s.dropWaiting k).pins = s.pins ∧ (s.dropWaiting k).denoms = s.denoms ∧
    (s.dropWaiting k).classes = s.classes ∧ (s.dropWaiting k).limits = s.limits ∧
    (s.dropWaiting k).heads = s.heads ∧ (s.dropWaiting k).paths = s.paths ∧
    (s.dropWaiting k).presenterOpen = s.presenterOpen ∧ (s.dropWaiting k).active = s.active ∧
    (s.dropWaiting k).pendingMarks = s.pendingMarks ∧ (s.dropWaiting k).armed = s.armed ∧
    (s.dropWaiting k).totals = s.totals ∧ (s.dropWaiting k).officeNotices = s.officeNotices ∧
    (s.dropWaiting k).laneNotices = s.laneNotices ∧ (s.dropWaiting k).ports = s.ports ∧
    (s.dropWaiting k).retained = s.retained := by
  simp [State.dropWaiting]

@[simp] theorem State.dropEmptied_frame (s : State) :
    s.dropEmptied.pending = s.pending ∧ s.dropEmptied.phase = s.phase ∧
    s.dropEmptied.pins = s.pins ∧ s.dropEmptied.denoms = s.denoms ∧
    s.dropEmptied.classes = s.classes ∧ s.dropEmptied.limits = s.limits ∧
    s.dropEmptied.heads = s.heads ∧ s.dropEmptied.paths = s.paths ∧
    s.dropEmptied.presenterOpen = s.presenterOpen ∧ s.dropEmptied.active = s.active ∧
    s.dropEmptied.pendingMarks = s.pendingMarks ∧ s.dropEmptied.armed = s.armed ∧
    s.dropEmptied.totals = s.totals ∧ s.dropEmptied.officeNotices = s.officeNotices ∧
    s.dropEmptied.laneNotices = s.laneNotices ∧ s.dropEmptied.ports = s.ports ∧
    s.dropEmptied.retained = s.retained := by
  simp [State.dropEmptied]

@[simp] theorem State.lowerStroke_frame (s : State) (r : Stroke) :
    (s.lowerStroke r).pending = s.pending ∧ (s.lowerStroke r).phase = s.phase ∧
    (s.lowerStroke r).pins = s.pins ∧ (s.lowerStroke r).denoms = s.denoms ∧
    (s.lowerStroke r).classes = s.classes ∧ (s.lowerStroke r).limits = s.limits ∧
    (s.lowerStroke r).heads = s.heads ∧ (s.lowerStroke r).paths = s.paths ∧
    (s.lowerStroke r).presenterOpen = s.presenterOpen ∧ (s.lowerStroke r).active = s.active ∧
    (s.lowerStroke r).pendingMarks = s.pendingMarks ∧ (s.lowerStroke r).armed = s.armed ∧
    (s.lowerStroke r).totals = s.totals ∧ (s.lowerStroke r).officeNotices = s.officeNotices ∧
    (s.lowerStroke r).laneNotices = s.laneNotices ∧ (s.lowerStroke r).ports = s.ports ∧
    (s.lowerStroke r).retained = s.retained := by
  simp [State.lowerStroke]

@[simp] theorem State.markUncertain_frame (s : State) (k : StoreId) :
    (s.markUncertain k).pending = s.pending ∧ (s.markUncertain k).phase = s.phase ∧
    (s.markUncertain k).pins = s.pins ∧ (s.markUncertain k).denoms = s.denoms ∧
    (s.markUncertain k).classes = s.classes ∧ (s.markUncertain k).limits = s.limits ∧
    (s.markUncertain k).heads = s.heads ∧ (s.markUncertain k).paths = s.paths ∧
    (s.markUncertain k).presenterOpen = s.presenterOpen ∧ (s.markUncertain k).active = s.active ∧
    (s.markUncertain k).pendingMarks = s.pendingMarks ∧ (s.markUncertain k).armed = s.armed ∧
    (s.markUncertain k).totals = s.totals ∧ (s.markUncertain k).officeNotices = s.officeNotices ∧
    (s.markUncertain k).laneNotices = s.laneNotices ∧ (s.markUncertain k).ports = s.ports ∧
    (s.markUncertain k).retained = s.retained := by
  unfold State.markUncertain; split <;> simp

/-! ### Paths -/

@[simp] theorem State.reviewGrant_frame (s : State) (k : Kind) :
    (s.reviewGrant k).pending = s.pending ∧ (s.reviewGrant k).phase = s.phase ∧
    (s.reviewGrant k).pins = s.pins ∧ (s.reviewGrant k).denoms = s.denoms ∧
    (s.reviewGrant k).classes = s.classes ∧ (s.reviewGrant k).stores = s.stores ∧
    (s.reviewGrant k).boxes = s.boxes ∧ (s.reviewGrant k).limits = s.limits ∧
    (s.reviewGrant k).lanes = s.lanes ∧ (s.reviewGrant k).heads = s.heads ∧
    (s.reviewGrant k).planner = s.planner ∧ (s.reviewGrant k).pool = s.pool ∧
    (s.reviewGrant k).presenterOpen = s.presenterOpen ∧ (s.reviewGrant k).active = s.active ∧
    (s.reviewGrant k).pendingMarks = s.pendingMarks ∧ (s.reviewGrant k).armed = s.armed ∧
    (s.reviewGrant k).totals = s.totals ∧ (s.reviewGrant k).officeNotices = s.officeNotices ∧
    (s.reviewGrant k).laneNotices = s.laneNotices ∧ (s.reviewGrant k).ports = s.ports ∧
    (s.reviewGrant k).retained = s.retained := by
  unfold State.reviewGrant; split <;> simp

@[simp] theorem State.decideGrant_frame (s : State) (k : Kind) :
    (s.decideGrant k).pending = s.pending ∧ (s.decideGrant k).phase = s.phase ∧
    (s.decideGrant k).pins = s.pins ∧ (s.decideGrant k).denoms = s.denoms ∧
    (s.decideGrant k).classes = s.classes ∧ (s.decideGrant k).stores = s.stores ∧
    (s.decideGrant k).boxes = s.boxes ∧ (s.decideGrant k).limits = s.limits ∧
    (s.decideGrant k).lanes = s.lanes ∧ (s.decideGrant k).heads = s.heads ∧
    (s.decideGrant k).planner = s.planner ∧ (s.decideGrant k).pool = s.pool ∧
    (s.decideGrant k).presenterOpen = s.presenterOpen ∧ (s.decideGrant k).active = s.active ∧
    (s.decideGrant k).pendingMarks = s.pendingMarks ∧ (s.decideGrant k).armed = s.armed ∧
    (s.decideGrant k).totals = s.totals ∧ (s.decideGrant k).officeNotices = s.officeNotices ∧
    (s.decideGrant k).laneNotices = s.laneNotices ∧ (s.decideGrant k).ports = s.ports ∧
    (s.decideGrant k).retained = s.retained := by
  unfold State.decideGrant
  split
  · split
    · simp
    · split <;> simp
  · simp

@[simp] theorem State.startMove_frame (s : State) (k : Kind) :
    (s.startMove k).pending = s.pending ∧ (s.startMove k).phase = s.phase ∧
    (s.startMove k).pins = s.pins ∧ (s.startMove k).denoms = s.denoms ∧
    (s.startMove k).classes = s.classes ∧ (s.startMove k).stores = s.stores ∧
    (s.startMove k).boxes = s.boxes ∧ (s.startMove k).limits = s.limits ∧
    (s.startMove k).lanes = s.lanes ∧ (s.startMove k).heads = s.heads ∧
    (s.startMove k).planner = s.planner ∧ (s.startMove k).pool = s.pool ∧
    (s.startMove k).presenterOpen = s.presenterOpen ∧ (s.startMove k).active = s.active ∧
    (s.startMove k).pendingMarks = s.pendingMarks ∧ (s.startMove k).armed = s.armed ∧
    (s.startMove k).totals = s.totals ∧ (s.startMove k).officeNotices = s.officeNotices ∧
    (s.startMove k).laneNotices = s.laneNotices ∧ (s.startMove k).ports = s.ports ∧
    (s.startMove k).retained = s.retained := by
  unfold State.startMove
  split
  · simp
  · split <;> simp

@[simp] theorem State.settlePath_frame (s : State) (k : Kind) :
    (s.settlePath k).pending = s.pending ∧ (s.settlePath k).phase = s.phase ∧
    (s.settlePath k).pins = s.pins ∧ (s.settlePath k).denoms = s.denoms ∧
    (s.settlePath k).classes = s.classes ∧ (s.settlePath k).stores = s.stores ∧
    (s.settlePath k).boxes = s.boxes ∧ (s.settlePath k).limits = s.limits ∧
    (s.settlePath k).lanes = s.lanes ∧ (s.settlePath k).heads = s.heads ∧
    (s.settlePath k).planner = s.planner ∧ (s.settlePath k).pool = s.pool ∧
    (s.settlePath k).presenterOpen = s.presenterOpen ∧ (s.settlePath k).active = s.active ∧
    (s.settlePath k).pendingMarks = s.pendingMarks ∧ (s.settlePath k).armed = s.armed ∧
    (s.settlePath k).totals = s.totals ∧ (s.settlePath k).officeNotices = s.officeNotices ∧
    (s.settlePath k).laneNotices = s.laneNotices ∧ (s.settlePath k).ports = s.ports ∧
    (s.settlePath k).retained = s.retained := by
  simp [State.settlePath]

@[simp] theorem State.settlePaths_frame (s : State) :
    s.settlePaths.pending = s.pending ∧ s.settlePaths.phase = s.phase ∧
    s.settlePaths.pins = s.pins ∧ s.settlePaths.denoms = s.denoms ∧
    s.settlePaths.classes = s.classes ∧ s.settlePaths.stores = s.stores ∧
    s.settlePaths.boxes = s.boxes ∧ s.settlePaths.limits = s.limits ∧
    s.settlePaths.lanes = s.lanes ∧ s.settlePaths.heads = s.heads ∧
    s.settlePaths.planner = s.planner ∧ s.settlePaths.pool = s.pool ∧
    s.settlePaths.presenterOpen = s.presenterOpen ∧ s.settlePaths.active = s.active ∧
    s.settlePaths.pendingMarks = s.pendingMarks ∧ s.settlePaths.armed = s.armed ∧
    s.settlePaths.totals = s.totals ∧ s.settlePaths.officeNotices = s.officeNotices ∧
    s.settlePaths.laneNotices = s.laneNotices ∧ s.settlePaths.ports = s.ports ∧
    s.settlePaths.retained = s.retained := by
  simp [State.settlePaths]

/-! ### Sales -/

@[simp] theorem State.reopenRuns_frame (s : State) (l : Lane) :
    (s.reopenRuns l).pending = s.pending ∧ (s.reopenRuns l).phase = s.phase ∧
    (s.reopenRuns l).pins = s.pins ∧ (s.reopenRuns l).denoms = s.denoms ∧
    (s.reopenRuns l).classes = s.classes ∧ (s.reopenRuns l).stores = s.stores ∧
    (s.reopenRuns l).boxes = s.boxes ∧ (s.reopenRuns l).limits = s.limits ∧
    (s.reopenRuns l).lanes = s.lanes ∧ (s.reopenRuns l).heads = s.heads ∧
    (s.reopenRuns l).planner = s.planner ∧ (s.reopenRuns l).pool = s.pool ∧
    (s.reopenRuns l).presenterOpen = s.presenterOpen ∧ (s.reopenRuns l).active = s.active ∧
    (s.reopenRuns l).pendingMarks = s.pendingMarks ∧ (s.reopenRuns l).armed = s.armed ∧
    (s.reopenRuns l).totals = s.totals ∧ (s.reopenRuns l).officeNotices = s.officeNotices ∧
    (s.reopenRuns l).laneNotices = s.laneNotices ∧ (s.reopenRuns l).ports = s.ports ∧
    (s.reopenRuns l).retained = s.retained := by
  simp [State.reopenRuns]

@[simp] theorem State.closeSale_frame (s : State) (l : Lane) (o : SaleOutcome) :
    (s.closeSale l o).pending = s.pending ∧ (s.closeSale l o).phase = s.phase ∧
    (s.closeSale l o).pins = s.pins ∧ (s.closeSale l o).denoms = s.denoms ∧
    (s.closeSale l o).classes = s.classes ∧ (s.closeSale l o).stores = s.stores ∧
    (s.closeSale l o).boxes = s.boxes ∧ (s.closeSale l o).limits = s.limits ∧
    (s.closeSale l o).heads = s.heads ∧ (s.closeSale l o).planner = s.planner ∧
    (s.closeSale l o).presenterOpen = s.presenterOpen ∧ (s.closeSale l o).active = s.active ∧
    (s.closeSale l o).pendingMarks = s.pendingMarks ∧ (s.closeSale l o).armed = s.armed ∧
    (s.closeSale l o).totals = s.totals ∧ (s.closeSale l o).officeNotices = s.officeNotices ∧
    (s.closeSale l o).ports = s.ports ∧ (s.closeSale l o).retained = s.retained := by
  simp [State.closeSale]

@[simp] theorem State.closeIfClear_frame (s : State) (l : Lane) :
    (s.closeIfClear l).pending = s.pending ∧ (s.closeIfClear l).phase = s.phase ∧
    (s.closeIfClear l).pins = s.pins ∧ (s.closeIfClear l).denoms = s.denoms ∧
    (s.closeIfClear l).classes = s.classes ∧ (s.closeIfClear l).stores = s.stores ∧
    (s.closeIfClear l).boxes = s.boxes ∧ (s.closeIfClear l).limits = s.limits ∧
    (s.closeIfClear l).heads = s.heads ∧ (s.closeIfClear l).planner = s.planner ∧
    (s.closeIfClear l).presenterOpen = s.presenterOpen ∧ (s.closeIfClear l).active = s.active ∧
    (s.closeIfClear l).pendingMarks = s.pendingMarks ∧ (s.closeIfClear l).armed = s.armed ∧
    (s.closeIfClear l).totals = s.totals ∧ (s.closeIfClear l).officeNotices = s.officeNotices ∧
    (s.closeIfClear l).ports = s.ports ∧ (s.closeIfClear l).retained = s.retained := by
  unfold State.closeIfClear; split <;> simp

@[simp] theorem State.enterPresented_frame (s : State) (l : Lane) :
    (s.enterPresented l).pending = s.pending ∧ (s.enterPresented l).phase = s.phase ∧
    (s.enterPresented l).pins = s.pins ∧ (s.enterPresented l).denoms = s.denoms ∧
    (s.enterPresented l).classes = s.classes ∧ (s.enterPresented l).stores = s.stores ∧
    (s.enterPresented l).boxes = s.boxes ∧ (s.enterPresented l).limits = s.limits ∧
    (s.enterPresented l).heads = s.heads ∧ (s.enterPresented l).planner = s.planner ∧
    (s.enterPresented l).pool = s.pool ∧ (s.enterPresented l).paths = s.paths ∧
    (s.enterPresented l).active = s.active ∧ (s.enterPresented l).pendingMarks = s.pendingMarks ∧
    (s.enterPresented l).armed = s.armed ∧ (s.enterPresented l).totals = s.totals ∧
    (s.enterPresented l).officeNotices = s.officeNotices ∧
    (s.enterPresented l).laneNotices = s.laneNotices ∧ (s.enterPresented l).ports = s.ports ∧
    (s.enterPresented l).retained = s.retained := by
  simp [State.enterPresented]

@[simp] theorem State.settleSale_frame (s : State) (l : Lane) :
    (s.settleSale l).pending = s.pending ∧ (s.settleSale l).phase = s.phase ∧
    (s.settleSale l).pins = s.pins ∧ (s.settleSale l).denoms = s.denoms ∧
    (s.settleSale l).classes = s.classes ∧ (s.settleSale l).stores = s.stores ∧
    (s.settleSale l).boxes = s.boxes ∧ (s.settleSale l).limits = s.limits ∧
    (s.settleSale l).heads = s.heads ∧ (s.settleSale l).planner = s.planner ∧
    (s.settleSale l).active = s.active ∧ (s.settleSale l).pendingMarks = s.pendingMarks ∧
    (s.settleSale l).armed = s.armed ∧ (s.settleSale l).totals = s.totals ∧
    (s.settleSale l).officeNotices = s.officeNotices ∧ (s.settleSale l).ports = s.ports ∧
    (s.settleSale l).retained = s.retained := by
  unfold State.settleSale; split <;> simp

@[simp] theorem State.beginSettle_frame (s : State) (l : Lane) :
    (s.beginSettle l).pending = s.pending ∧ (s.beginSettle l).phase = s.phase ∧
    (s.beginSettle l).pins = s.pins ∧ (s.beginSettle l).denoms = s.denoms ∧
    (s.beginSettle l).classes = s.classes ∧ (s.beginSettle l).stores = s.stores ∧
    (s.beginSettle l).boxes = s.boxes ∧ (s.beginSettle l).limits = s.limits ∧
    (s.beginSettle l).heads = s.heads ∧ (s.beginSettle l).presenterOpen = s.presenterOpen ∧
    (s.beginSettle l).active = s.active ∧ (s.beginSettle l).pendingMarks = s.pendingMarks ∧
    (s.beginSettle l).armed = s.armed ∧ (s.beginSettle l).totals = s.totals ∧
    (s.beginSettle l).officeNotices = s.officeNotices ∧ (s.beginSettle l).ports = s.ports ∧
    (s.beginSettle l).retained = s.retained := by
  unfold State.beginSettle; dsimp only; split <;> simp

@[simp] theorem State.beginRefund_frame (s : State) (l : Lane) :
    (s.beginRefund l).pending = s.pending ∧ (s.beginRefund l).phase = s.phase ∧
    (s.beginRefund l).pins = s.pins ∧ (s.beginRefund l).denoms = s.denoms ∧
    (s.beginRefund l).classes = s.classes ∧ (s.beginRefund l).stores = s.stores ∧
    (s.beginRefund l).boxes = s.boxes ∧ (s.beginRefund l).limits = s.limits ∧
    (s.beginRefund l).heads = s.heads ∧ (s.beginRefund l).pool = s.pool ∧
    (s.beginRefund l).paths = s.paths ∧ (s.beginRefund l).presenterOpen = s.presenterOpen ∧
    (s.beginRefund l).active = s.active ∧ (s.beginRefund l).pendingMarks = s.pendingMarks ∧
    (s.beginRefund l).armed = s.armed ∧ (s.beginRefund l).totals = s.totals ∧
    (s.beginRefund l).officeNotices = s.officeNotices ∧ (s.beginRefund l).ports = s.ports ∧
    (s.beginRefund l).retained = s.retained := by
  simp [State.beginRefund]

@[simp] theorem State.credit_frame (s : State) (l : Lane) (v : Nat) :
    (s.credit l v).pending = s.pending ∧ (s.credit l v).phase = s.phase ∧
    (s.credit l v).pins = s.pins ∧ (s.credit l v).denoms = s.denoms ∧
    (s.credit l v).classes = s.classes ∧ (s.credit l v).stores = s.stores ∧
    (s.credit l v).boxes = s.boxes ∧ (s.credit l v).limits = s.limits ∧
    (s.credit l v).heads = s.heads ∧ (s.credit l v).presenterOpen = s.presenterOpen ∧
    (s.credit l v).active = s.active ∧ (s.credit l v).pendingMarks = s.pendingMarks ∧
    (s.credit l v).armed = s.armed ∧ (s.credit l v).totals = s.totals ∧
    (s.credit l v).officeNotices = s.officeNotices ∧ (s.credit l v).ports = s.ports ∧
    (s.credit l v).retained = s.retained := by
  unfold State.credit
  dsimp only
  split
  · split <;> simp
  · simp

@[simp] theorem State.creditIfServing_frame (s : State) (l : Lane) (v : Nat) :
    (s.creditIfServing l v).pending = s.pending ∧ (s.creditIfServing l v).phase = s.phase ∧
    (s.creditIfServing l v).pins = s.pins ∧ (s.creditIfServing l v).denoms = s.denoms ∧
    (s.creditIfServing l v).classes = s.classes ∧ (s.creditIfServing l v).stores = s.stores ∧
    (s.creditIfServing l v).boxes = s.boxes ∧ (s.creditIfServing l v).limits = s.limits ∧
    (s.creditIfServing l v).heads = s.heads ∧
    (s.creditIfServing l v).presenterOpen = s.presenterOpen ∧
    (s.creditIfServing l v).active = s.active ∧
    (s.creditIfServing l v).pendingMarks = s.pendingMarks ∧
    (s.creditIfServing l v).armed = s.armed ∧ (s.creditIfServing l v).totals = s.totals ∧
    (s.creditIfServing l v).officeNotices = s.officeNotices ∧
    (s.creditIfServing l v).ports = s.ports ∧ (s.creditIfServing l v).retained = s.retained := by
  unfold State.creditIfServing; split <;> simp

/-! ### The planner and the close of an event -/

@[simp] theorem State.takeJob_frame (s : State) (j : Job) :
    (s.takeJob j).pending = s.pending ∧ (s.takeJob j).phase = s.phase ∧
    (s.takeJob j).pins = s.pins ∧ (s.takeJob j).denoms = s.denoms ∧
    (s.takeJob j).classes = s.classes ∧ (s.takeJob j).stores = s.stores ∧
    (s.takeJob j).boxes = s.boxes ∧ (s.takeJob j).limits = s.limits ∧
    (s.takeJob j).heads = s.heads ∧ (s.takeJob j).pool = s.pool ∧ (s.takeJob j).paths = s.paths ∧
    (s.takeJob j).presenterOpen = s.presenterOpen ∧ (s.takeJob j).active = s.active ∧
    (s.takeJob j).pendingMarks = s.pendingMarks ∧ (s.takeJob j).armed = s.armed ∧
    (s.takeJob j).totals = s.totals ∧ (s.takeJob j).officeNotices = s.officeNotices ∧
    (s.takeJob j).laneNotices = s.laneNotices ∧ (s.takeJob j).ports = s.ports ∧
    (s.takeJob j).retained = s.retained := by
  unfold State.takeJob
  split
  · rename_i l r; cases r <;> simp
  · simp

@[simp] theorem State.takeNext_frame (s : State) :
    s.takeNext.pending = s.pending ∧ s.takeNext.phase = s.phase ∧ s.takeNext.pins = s.pins ∧
    s.takeNext.denoms = s.denoms ∧ s.takeNext.classes = s.classes ∧ s.takeNext.stores = s.stores ∧
    s.takeNext.boxes = s.boxes ∧ s.takeNext.limits = s.limits ∧ s.takeNext.heads = s.heads ∧
    s.takeNext.pool = s.pool ∧ s.takeNext.paths = s.paths ∧
    s.takeNext.presenterOpen = s.presenterOpen ∧ s.takeNext.active = s.active ∧
    s.takeNext.pendingMarks = s.pendingMarks ∧ s.takeNext.armed = s.armed ∧
    s.takeNext.totals = s.totals ∧ s.takeNext.officeNotices = s.officeNotices ∧
    s.takeNext.laneNotices = s.laneNotices ∧ s.takeNext.ports = s.ports ∧
    s.takeNext.retained = s.retained := by
  unfold State.takeNext
  split
  · simp
  · split <;> simp

@[simp] theorem State.switchIfQuiet_frame (s : State) :
    s.switchIfQuiet.pending = s.pending ∧ s.switchIfQuiet.phase = s.phase ∧
    s.switchIfQuiet.pins = s.pins ∧ s.switchIfQuiet.denoms = s.denoms ∧
    s.switchIfQuiet.classes = s.classes ∧ s.switchIfQuiet.stores = s.stores ∧
    s.switchIfQuiet.boxes = s.boxes ∧ s.switchIfQuiet.limits = s.limits ∧
    s.switchIfQuiet.lanes = s.lanes ∧ s.switchIfQuiet.heads = s.heads ∧
    s.switchIfQuiet.planner = s.planner ∧ s.switchIfQuiet.pool = s.pool ∧
    s.switchIfQuiet.paths = s.paths ∧ s.switchIfQuiet.presenterOpen = s.presenterOpen ∧
    s.switchIfQuiet.pendingMarks = s.pendingMarks ∧ s.switchIfQuiet.totals = s.totals ∧
    s.switchIfQuiet.laneNotices = s.laneNotices ∧ s.switchIfQuiet.ports = s.ports ∧
    s.switchIfQuiet.retained = s.retained := by
  unfold State.switchIfQuiet State.switchProfile; split <;> simp

@[simp] theorem State.settleWork_frame (s : State) :
    s.settleWork.pending = s.pending ∧ s.settleWork.phase = s.phase ∧ s.settleWork.pins = s.pins ∧
    s.settleWork.denoms = s.denoms ∧ s.settleWork.classes = s.classes ∧
    s.settleWork.stores = s.stores ∧ s.settleWork.boxes = s.boxes ∧
    s.settleWork.limits = s.limits ∧ s.settleWork.heads = s.heads ∧
    s.settleWork.pendingMarks = s.pendingMarks ∧ s.settleWork.totals = s.totals ∧
    s.settleWork.ports = s.ports ∧ s.settleWork.retained = s.retained := by
  simp [State.settleWork]

@[simp] theorem State.finish_frame (s : State) :
    s.finish.pending = s.pending ∧ s.finish.phase = s.phase ∧ s.finish.pins = s.pins ∧
    s.finish.denoms = s.denoms ∧ s.finish.classes = s.classes ∧ s.finish.stores = s.stores ∧
    s.finish.boxes = s.boxes ∧ s.finish.limits = s.limits ∧ s.finish.heads = s.heads ∧
    s.finish.pendingMarks = s.pendingMarks ∧ s.finish.totals = s.totals ∧
    s.finish.ports = s.ports := by
  simp [State.finish]


end Sys2Proof.Machine
end

