-- ==== Sys2Proof/Laws/Link.lean ====
section
/-! SUPPORT. What a step does with its queue, and what a request command does by the state of its port. -/

namespace Sys2Proof

theorem requestOfCode_code (r : Request) : requestOfCode r.code = some r := by cases r <;> decide

/-- The check byte of R171 makes the sum 0. -/
theorem frameSum_checkByteOf (body : List Byte) : frameSum body (checkByteOf body) = 0 := by
  simp only [frameSum, checkByteOf]
  simp

/-- The bytes of a reply behind its start marker sum to 0 (R171, R174). -/
theorem Machine.replyFrame_sum (code : Byte) (status : Machine.Status) (payload : List Byte) :
    (Machine.replyFrame code status payload).tail.foldl (· + ·) 0 = 0 := by
  simp only [Machine.replyFrame, List.cons_append, List.tail_cons, List.foldl_append, List.foldl_cons,
    List.foldl_nil]
  simp

theorem bodyFits_iff (c : Byte) (payload : List Byte) :
    bodyFits (c :: payload) = true ↔ payload.length ≤ 199 := by
  simp [bodyFits, maxBody, Nat.lt_succ_iff]

namespace Machine

theorem step_nil (s : State) (h : s.pending = []) : step s = .next s := by simp [step, h]

theorem step_cons (s : State) (c : Instr) (rest : List Instr) (h : s.pending = c :: rest) :
    step s = exec c (s.withPending rest) := by simp [step, h]

theorem State.whileRunning_running (s : State) (f : State → State) (h : s.phase = .running) :
    s.whileRunning f = .next (f s) := by simp [State.whileRunning, h]

theorem State.whileRunning_not (s : State) (f : State → State) (h : s.phase ≠ .running) :
    s.whileRunning f = .next s := by
  cases hp : s.phase <;> simp_all [State.whileRunning]

/-- An event taken while the part runs answers a next state in every phase. -/
theorem State.whileRunning_next (s : State) (f : State → State) :
    s.whileRunning f = .next (if s.phase = .running then f s else s) := by
  by_cases h : s.phase = .running
  · simp [s.whileRunning_running f h, h]
  · simp [s.whileRunning_not f h, h]

/-- A request that reaches an idle port is served and answered in its event (R172, R173). -/
theorem requestArrives_taken (r : Request) (p : Port) (payload : List Byte) (s : State)
    (ht : s.takes p) (hl : payload.length ≤ 199) :
    requestArrives r p payload s = .next (s.serveAndReply r p payload) := by
  obtain ⟨hr, hs, hb⟩ := ht
  simp only [requestArrives, s.whileRunning_running _ hr, (bodyFits_iff r.code payload).mpr hl,
    if_true, State.offerFrame, hs, hb, State.takeFrame, frameSum_checkByteOf, requestOfCode_code,
    ne_eq, not_true_eq_false, if_false]

/-- A request whose level, form and length pass is performed by the block that owns it (R173). -/
theorem serveRequest_passes (r : Request) (p : Port) (payload : List Byte) (s : State)
    (hl : s.portLevel p ≤ requiredLevel r p) (hf : servedOn r p = true)
    (hn : payload.length = r.payloadLength p) :
    serveRequest r p payload s = performRequest r p payload s := by
  simp [serveRequest, Nat.not_lt.mpr hl, hf, hn]

theorem payloadLength_le (r : Request) (p : Port) : r.payloadLength p ≤ 199 := by
  cases r <;> simp only [Request.payloadLength] <;> (try split) <;> omega

/-- A request that passes R173's steps 1 to 5 on an idle port: its block acts and its reply goes out. -/
theorem requestArrives_performed (r : Request) (p : Port) (payload : List Byte) (s : State)
    (ht : s.takes p) (hl : s.portLevel p ≤ requiredLevel r p) (hf : servedOn r p = true)
    (hn : payload.length = r.payloadLength p) :
    requestArrives r p payload s =
      .next ((performRequest r p payload s).1.sendReply p r.code (performRequest r p payload s).2
        (r == .restart && (performRequest r p payload s).2.status.performed)) := by
  rw [requestArrives_taken r p payload s ht (hn ▸ payloadLength_le r p)]
  simp only [State.serveAndReply, serveRequest_passes r p payload s hl hf hn]

/-- The office port is at level 0 (R167). -/
theorem State.portLevel_office (s : State) : s.portLevel .office = 0 := rfl

theorem State.portLevel_lane_le (s : State) (l : Lane) : s.portLevel (.lane l) ≤ 2 := by
  unfold State.portLevel; dsimp only; split <;> omega

theorem State.portLevel_keyed (s : State) (l : Lane) (h : s.pins.keyTurned.get l = true) :
    s.portLevel (.lane l) = 1 := by simp [State.portLevel, h]

/-- Every request but RESTART is answered without a start-up behind its reply. -/
theorem requestArrives_answered (r : Request) (p : Port) (payload : List Byte) (s : State)
    (ht : s.takes p) (hl : s.portLevel p ≤ requiredLevel r p) (hf : servedOn r p = true)
    (hn : payload.length = r.payloadLength p) (hr : r ≠ .restart) :
    requestArrives r p payload s =
      (performRequest r p payload s).1.answered p r.code (performRequest r p payload s).2 := by
  rw [requestArrives_performed r p payload s ht hl hf hn, beq_false_of_ne hr, Bool.false_and]

/-- A request on the office port that passes its checks. -/
theorem office_performed (r : Request) (payload : List Byte) (s : State) (ht : s.takes .office)
    (hf : servedOn r .office = true) (hn : payload.length = r.payloadLength .office)
    (hr : r ≠ .restart) :
    requestArrives r .office payload s =
      (performRequest r .office payload s).1.answered .office r.code
        (performRequest r .office payload s).2 :=
  requestArrives_answered r .office payload s ht (Nat.zero_le _) hf hn hr

/-- A request of level 2 on a lane port that passes its checks. -/
theorem lane_performed (r : Request) (l : Lane) (payload : List Byte) (s : State)
    (ht : s.takes (.lane l)) (hv : r.laneLevel = 2) (hf : servedOn r (.lane l) = true)
    (hn : payload.length = r.payloadLength (.lane l)) :
    requestArrives r (.lane l) payload s =
      (performRequest r (.lane l) payload s).1.answered (.lane l) r.code
        (performRequest r (.lane l) payload s).2 :=
  requestArrives_answered r (.lane l) payload s ht
    (by simpa [requiredLevel, hv] using s.portLevel_lane_le l) hf hn
    (fun h => by subst h; exact absurd hv (by decide))

/-- A request of level 1 on a lane port whose key is turned, which passes its checks. -/
theorem keyed_performed (r : Request) (l : Lane) (payload : List Byte) (s : State)
    (ht : s.takesKeyed l) (hv : r.laneLevel = 1) (hf : servedOn r (.lane l) = true)
    (hn : payload.length = r.payloadLength (.lane l)) :
    requestArrives r (.lane l) payload s =
      (performRequest r (.lane l) payload s).1.answered (.lane l) r.code
        (performRequest r (.lane l) payload s).2 :=
  requestArrives_answered r (.lane l) payload s ht.1
    (by simp [requiredLevel, hv, s.portLevel_keyed l ht.2]) hf hn
    (fun h => by subst h; exact absurd hv (by decide))

/-- A request that arrives while its port sends a reply is held, or discarded on a full buffer (R172). -/
theorem requestArrives_sending (r : Request) (p : Port) (payload : List Byte) (s : State)
    (reply : Reply) (hr : s.phase = .running) (hs : (s.port p).sending = some reply)
    (hl : payload.length ≤ 199) :
    requestArrives r p payload s =
      .next (s.modPort p (fun x =>
        x.hold { body := r.code :: payload, check := checkByteOf (r.code :: payload) })) := by
  simp [requestArrives, s.whileRunning_running _ hr, (bodyFits_iff r.code payload).mpr hl,
    State.offerFrame, hs]

/-- No request leaves a buffer with more than two frames (R172). -/
theorem LinkPort.hold_length (x : LinkPort) (f : Frame) (h : x.buffer.length ≤ 2) :
    (x.hold f).buffer.length ≤ 2 := by
  unfold LinkPort.hold
  split
  · rename_i hlt; simp [Config.bufferDepth] at hlt; simp; omega
  · exact h

end Machine

end Sys2Proof
end

