-- ==== Sys2Proof/Laws/Operations.lean ====
section
/-! SUPPORT. What the shared operations do to what they change, one lemma for each. -/

namespace Sys2Proof.Machine

/-! ### Bookings (R150) -/

theorem State.book_get (s : State) (c : Counter) (d : Denom) (n : Nat) :
    ((s.book c d n).counters d).get c = min ((s.counters d).get c + n) Config.maxCounter := by
  unfold State.book
  split
  · rename_i hle; simp [Nat.min_eq_left hle]
  · rename_i hgt
    rw [Nat.min_eq_right (Nat.le_of_lt (Nat.lt_of_not_le hgt))]
    simp [State.counters, State.setCounters, State.markInexact, State.officeFlag]

/-- A booking touches the one counter of the one denomination. -/
theorem State.book_get_ne (s : State) (c j : Counter) (d e : Denom) (n : Nat)
    (h : e ≠ d ∨ j ≠ c) : ((s.book c d n).counters e).get j = (s.counters e).get j := by
  have key : ∀ m : Nat, ((s.setCounters d ((s.counters d).set c m)).counters e).get j =
      (s.counters e).get j := by
    intro m
    by_cases he : e = d
    · subst he
      rw [State.counters_setCounters_self]
      exact Counters.get_set_ne _ _ _ _ (h.resolve_left (fun x => x rfl))
    · rw [s.counters_setCounters_ne d e _ he]
  unfold State.book
  split
  · exact key _
  · exact key _

theorem State.book_adjusted (s : State) (c : Counter) (d e : Denom) (n : Nat) :
    ((s.book c d n).counters e).adjusted = (s.counters e).adjusted := by
  have key : ∀ m : Nat, ((s.setCounters d ((s.counters d).set c m)).counters e).adjusted =
      (s.counters e).adjusted := by
    intro m
    by_cases he : e = d
    · subst he; simp
    · rw [s.counters_setCounters_ne d e _ he]
  unfold State.book
  split
  · exact key _
  · exact key _

/-- A booking within its limit changes its counter and nothing else. -/
theorem State.book_within (s : State) (c : Counter) (d : Denom) (n : Nat)
    (h : (s.counters d).get c + n ≤ Config.maxCounter) :
    s.book c d n = s.setCounters d ((s.counters d).set c ((s.counters d).get c + n)) := by
  simp [State.book, h]

theorem State.bookAdjusted_within (s : State) (d : Denom) (n : Int)
    (hi : (s.counters d).adjusted + n ≤ Config.maxAdjusted)
    (lo : -Config.maxAdjusted ≤ (s.counters d).adjusted + n) :
    s.bookAdjusted d n =
      s.setCounters d { s.counters d with adjusted := (s.counters d).adjusted + n } := by
  simp [State.bookAdjusted, Int.not_lt.mpr hi, Int.not_lt.mpr lo]

/-! ### The close of an event (R159, R162, R185) -/

/-- The conditions read nothing that the close of an event writes. -/
theorem State.conditions_closeEvent (s : State) (l : Lane) :
    s.closeEvent.jamCondition = s.jamCondition ∧
    s.closeEvent.cassetteCondition = s.cassetteCondition ∧
    s.closeEvent.cashboxFullCondition = s.cashboxFullCondition ∧
    s.closeEvent.lowStock = s.lowStock ∧
    s.closeEvent.overdueCondition l = s.overdueCondition l ∧
    s.closeEvent.chuteCondition l = s.chuteCondition l :=
  ⟨rfl, rfl, rfl, rfl, rfl, rfl⟩

theorem State.closeEvent_officeNotices (s : State) :
    s.closeEvent.officeNotices = officeSet s.officeConditions s.officeNotices.enables := rfl

theorem State.closeEvent_laneNotices (s : State) (l : Lane) :
    s.closeEvent.laneNotices.get l =
      laneSet (s.laneConditions l) (s.laneNotices.get l).enables := by cases l <;> rfl

/-- After the close of an event the flags follow their conditions and the lines their flags. -/
theorem State.noticesFollow_closeEvent (s : State) : s.closeEvent.noticesFollow := by
  intro _
  exact ⟨rfl, fun l => by cases l <;> rfl⟩

/-- After the close of an event Retained Memory holds the retained items as they stand. -/
theorem State.durable_closeEvent (s : State) : s.closeEvent.durable := by
  intro _
  have h : ∀ (x : LaneControl) (o : OpenSale), x.openRecord (x.openRecord o) = x.openRecord o := by
    intro x o; unfold LaneControl.openRecord; split <;> rfl
  have e : s.closeEvent.capture =
      { s.refreshNotices.capture with
        sales := { one := s.lanes.one.openRecord (s.lanes.one.openRecord s.retained.sales.one)
                   two := s.lanes.two.openRecord (s.lanes.two.openRecord s.retained.sales.two) } } :=
    rfl
  rw [e, h, h]
  rfl

theorem State.finish_eq (s : State) : s.finish = s.settleWork.closeEvent := rfl

/-! ### Marks (R12) -/

/-- A READY store is UNCERTAIN at once, a PAYING store holds the mark, any other store is unchanged. -/
theorem State.markUncertain_cases (s : State) (k : StoreId) :
    s.markUncertain k =
      if (s.store k).state = .ready then
        (s.modStore k (fun x => { x with state := .uncertain })).dropWaiting k
      else if (s.store k).state = .paying then s.modStore k (fun x => { x with marked := true })
      else s := by
  unfold State.markUncertain
  cases h : (s.store k).state <;> simp

/-! ### Reservation (R17) -/

theorem State.reserve_free (s : State) (k : StoreId) (n : Nat) :
    (s.reserve k n).1 = (s.store k).free := rfl

theorem State.reserve_some (s : State) (k : StoreId) (n : Nat) (h : n ≤ (s.store k).free) :
    (s.reserve k n).2 = some (s.modStore k (fun x => { x with reserved := x.reserved + n })) := by
  simp [State.reserve, h]

theorem State.reserve_none (s : State) (k : StoreId) (n : Nat) (h : (s.store k).free < n) :
    (s.reserve k n).2 = none := by simp [State.reserve, Nat.not_le.mpr h]

/-! ### Records that end (R101) -/

theorem State.askMakeup_pool (s : State) (l : Lane) : (s.askMakeup l).pool = s.pool := by simp

theorem State.giveBack_pool (s : State) (l : Lane) (k : Kind) (n v : Nat) :
    (s.giveBack l k n v).pool = s.pool := by simp

theorem State.endRecord_records (s : State) (r : Stroke) (how : Ending) (n : Nat) :
    (s.endRecord r how n).pool.records = s.pool.records ∧
    (s.endRecord r how n).pool.free = s.pool.free := by
  simp [State.endRecord, State.setTally]

/-- The records one event ends leave the planning order, and their slots go on top of the free list in
ascending number (R95, R101, R102). -/
theorem State.endStrokes_pool (s : State) (how : Stroke → Option (Ending × Nat)) :
    (s.endStrokes how).pool.records = s.pool.records.filter (fun r => !(how r).isSome) ∧
    (s.endStrokes how).pool.free =
      sortSlots ((s.pool.records.filter (fun r => (how r).isSome)).map (·.slot)) ++ s.pool.free := by
  have hstep : ∀ (t : State) (r : Stroke),
      (match how r with
        | some (e, n) => t.endRecord r e n
        | none => t).pool.records = t.pool.records ∧
      (match how r with
        | some (e, n) => t.endRecord r e n
        | none => t).pool.free = t.pool.free := by
    intro t r
    split
    · exact t.endRecord_records r _ _
    · exact ⟨rfl, rfl⟩
  have hr := foldl_keeps _ (fun t : State => t.pool.records) (fun t r => (hstep t r).1)
    s.pool.records s
  have hf := foldl_keeps _ (fun t : State => t.pool.free) (fun t r => (hstep t r).2)
    s.pool.records s
  constructor
  · simp only [State.endStrokes, Pool.remove]
    exact congrArg _ hr
  · simp only [State.endStrokes, Pool.remove]
    rw [show ∀ a b c d : List _, a = c → b = d → sortSlots (a.map _) ++ b = sortSlots (c.map _) ++ d from
      fun a b c d h1 h2 => by rw [h1, h2]]
    · exact congrArg _ hr
    · exact hf

/-- The consequences of an event end no record and write none. -/
theorem State.settleWork_records (s : State) :
    s.settleWork.pool.records = s.pool.records ∧ s.settleWork.pool.free = s.pool.free := by
  have hclear : ∀ (t : State) (o : Owner),
      (t.clearTallies o).pool.records = t.pool.records ∧
      (t.clearTallies o).pool.free = t.pool.free := fun t o => ⟨rfl, rfl⟩
  have hclose : ∀ (t : State) (l : Lane) (o : SaleOutcome),
      (t.closeSale l o).pool.records = t.pool.records ∧
      (t.closeSale l o).pool.free = t.pool.free := by
    intro t l o
    simp [State.closeSale, hclear]
  have hif : ∀ (t : State) (l : Lane),
      (t.closeIfClear l).pool.records = t.pool.records ∧
      (t.closeIfClear l).pool.free = t.pool.free := by
    intro t l
    unfold State.closeIfClear
    split
    · exact hclose _ _ _
    · exact ⟨rfl, rfl⟩
  have hsale : ∀ (t : State) (l : Lane),
      (t.settleSale l).pool.records = t.pool.records ∧
      (t.settleSale l).pool.free = t.pool.free := by
    intro t l
    unfold State.settleSale
    split
    · simpa using hif (t.enterPresented l) l
    · exact ⟨rfl, rfl⟩
  simp [State.settleWork, hsale]

theorem State.finish_records (s : State) :
    s.finish.pool.records = s.pool.records ∧ s.finish.pool.free = s.pool.free := by
  simpa [State.finish] using s.settleWork_records

/-! ### The pieces list of a record -/

theorem State.outranks_irrefl (s : State) (pieces : Vector Nat 12) (d : Denom) :
    s.outranks pieces d d = false := by simp [State.outranks]

/-- Of two denominations one outranks the other, so a full list has a last place (R49). -/
theorem State.outranks_total (s : State) (pieces : Vector Nat 12) (d e : Denom) (h : d ≠ e) :
    s.outranks pieces d e = true ∨ s.outranks pieces e d = true := by
  have := Fin.val_ne_of_ne h
  simp only [State.outranks, decide_eq_true_eq]
  omega

theorem State.outranks_trans (s : State) (pieces : Vector Nat 12) (d e f : Denom)
    (h : s.outranks pieces d e = true) (h' : s.outranks pieces e f = true) :
    s.outranks pieces d f = true := by
  simp only [State.outranks, decide_eq_true_eq] at *
  omega

/-- None that is outranked is worth more (R49). -/
theorem State.value_le_of_outranks (s : State) (pieces : Vector Nat 12) (d e : Denom)
    (h : s.outranks pieces d e = true) : s.value e ≤ s.value d := by
  simp only [State.outranks, decide_eq_true_eq] at h
  omega

/-- Entering PRESENTED writes the lane's sale and its presenter alone (R43, R131). -/
theorem State.enterPresented_eq (s : State) (l : Lane) :
    s.enterPresented l = { s with
      lanes := (s.enterPresented l).lanes, presenterOpen := (s.enterPresented l).presenterOpen } := by
  cases l <;> rfl

/-- A sale with no note to present leaves its presenter as it stands (R131). -/
theorem State.enterPresented_noteless (s : State) (l : Lane) (h : s.noteDenoms l = []) :
    (s.enterPresented l).presenterOpen = s.presenterOpen := by
  simp [State.enterPresented, h]

/-! ### Stock figures, the snapshot, and the boundaries of a path -/

/-- The free count by cases of the state (R7). -/
theorem Store.free_eq (x : Store) :
    x.free = if x.state = .ready ∨ x.state = .paying then x.physical - x.reserved else 0 := by
  unfold Store.free
  cases x.state <;> simp

/-- What the first reservation of a plan leaves to the rest (R17, R91). -/
theorem State.reserveAll_cons (s : State) (x : Planned) (rest : List Planned) :
    s.reserveAll (x :: rest) = if x.count ≤ (s.store x.store).free then
      (s.setStore x.store { s.store x.store with
        reserved := (s.store x.store).reserved + x.count }).reserveAll rest
    else none := by
  simp only [State.reserveAll, State.reserve]
  split <;> rename_i h <;> split at h <;> simp_all [State.modStore]

@[simp] theorem State.snapshot_store (s : State) (job : Job) (target : Nat) (k : StoreId) :
    (s.snapshot job target).store k = s.snapStore k := by
  cases job <;> exact tabulate_get s.snapStore k

@[simp] theorem State.snapshot_denom (s : State) (job : Job) (target : Nat) (d : Denom) :
    (s.snapshot job target).denom d = s.snapDenom d := by
  cases job <;> exact tabulate_get s.snapDenom d

@[simp] theorem State.snapshot_space (s : State) (job : Job) (target : Nat) (k : Kind) :
    (s.snapshot job target).space.get k = s.space k := by cases job <;> cases k <;> rfl

/-- A store is start-held exactly where a path's latch names it (R64, R104). -/
theorem State.startHeld_eq_false (s : State) (j : StoreId) :
    s.startHeld j = false ↔ ∀ p x, (s.path p).latch = some x → x.store ≠ j := by
  simp only [State.startHeld, allKinds]
  constructor
  · intro h p x hx
    simp at h
    cases p
    · have := h.1; rw [hx] at this; simpa using this
    · have := h.2; rw [hx] at this; simpa using this
  · intro h
    have h1 := h .coin
    have h2 := h .note
    cases a : (s.path .coin).latch <;> cases b : (s.path .note).latch <;> simp_all

/-- When a diverter move starts (R117, R111). -/
theorem State.startMove_starts (s : State) (k : Kind) (x : Latch) :
    (s.pathAvailable k && (s.path k).move.isNone && !s.pathRunning k &&
      (s.path k).position != some x.dest) = true ↔
    ((s.path k).availability = .available ∧ (s.path k).move = none ∧
      (s.path k).position ≠ some x.dest ∧
      ∀ r ∈ s.pool.records, r.path = k → r.state ≠ .running) := by
  simp [State.pathAvailable, State.pathRunning]
  tauto

theorem State.decideGrant_rehoming (s : State) (k : Kind) (ms : Nat)
    (h : (s.path k).availability = .rehoming ms) : s.decideGrant k = s := by
  simp [State.decideGrant, State.pathAvailable, h]

theorem State.decideGrant_granted (s : State) (k : Kind) (h : (s.path k).grant ≠ .none) :
    s.decideGrant k = s := by
  simp [State.decideGrant, h]

/-- The consequences up to the profile switch, in their order (log 21). -/
theorem State.settleWork_eq (s : State) :
    s.settleWork =
      ((((s.settlePath .coin).settlePath .note).settleSale .one).settleSale .two).takeNext.switchIfQuiet :=
  rfl

/-- A quiet point by its conditions (R139, R141). -/
theorem State.quietPoint_iff (s : State) :
    s.quietPoint = true ↔ (∀ l, (s.sale l).state = .idle) ∧ s.planner.work = none ∧
      s.planner.waitingSkim = none ∧ ∀ k, s.pool.chain .office k = [] := by
  simp only [State.quietPoint, State.bothIdle, State.skimLive, State.chainEmpty, State.skimInWork,
    State.jobInWork, Bool.and_eq_true, Bool.not_eq_true', Bool.or_eq_false_iff, beq_iff_eq,
    Option.isNone_iff_eq_none, Option.isSome_eq_false_iff, Bool.not_eq_false', List.isEmpty_iff]
  constructor
  · rintro ⟨⟨⟨one, two⟩, ⟨⟨waiting, _⟩, coin⟩, note⟩, work⟩
    exact ⟨by rintro (_ | _) <;> assumption, work, waiting, by rintro (_ | _) <;> assumption⟩
  · rintro ⟨idle, work, waiting, chains⟩
    exact ⟨⟨⟨idle _, idle _⟩, ⟨⟨waiting, by simp [work]⟩, chains _⟩, chains _⟩, work⟩

/-- What the close of a shift leaves in the totals and the office's notices (R154). -/
theorem State.closesShift_closeTotals (s : State) : s.closesShift s.closeTotals := by
  refine ⟨rfl, rfl, rfl, rfl, rfl, fun d => ⟨?_, tabulate_get s.holdings d, tabulate_get s.shiftLine d⟩⟩
  simp [State.closeTotals, State.counters, State.officeFlag]

end Sys2Proof.Machine
end

