-- ==== Sys2Proof/Laws/PerInstr.lean ====
section
/-! SUPPORT. A law of every command as syntax: a request's frame passes the checks of R173's steps 1 and 2 and
spells that request, and a well-formed one fits a frame (R170, R171, R177). -/

namespace Sys2Proof.Laws.RequestFrame

/-- What holds of the frame of a command that is a request. -/
def Statement (i : Instr) : Prop :=
  ∀ p r payload, i.frame? = some (p, r, payload) →
    requestOfCode r.code = some r ∧
    frameSum (r.code :: payload) (checkByteOf (r.code :: payload)) = 0 ∧
    (i.wellFormed = true → payload.length ≤ 199)

/-- It holds of every command: the codes of R177 are distinct and the check byte makes the sum 0. -/
theorem every (i : Instr) : Statement i := by
  intro p r payload h
  refine ⟨requestOfCode_code r, frameSum_checkByteOf _, fun hw => ?_⟩
  simp only [Instr.wellFormed, h] at hw
  exact (bodyFits_iff r.code payload).mp hw

theorem openSale (p : Port) (payload : List Byte) : Statement (.openSale p payload) := every _

theorem readTender (p : Port) (payload : List Byte) : Statement (.readTender p payload) := every _

theorem settle (p : Port) (payload : List Byte) : Statement (.settle p payload) := every _

theorem cancelSale (p : Port) (payload : List Byte) : Statement (.cancelSale p payload) := every _

theorem haltPayout (p : Port) (payload : List Byte) : Statement (.haltPayout p payload) := every _

theorem collect (p : Port) (payload : List Byte) : Statement (.collect p payload) := every _

theorem retractNotes (p : Port) (payload : List Byte) : Statement (.retractNotes p payload) := every _

theorem readCompletion (p : Port) (payload : List Byte) : Statement (.readCompletion p payload) := every _

theorem readStock (p : Port) (payload : List Byte) : Statement (.readStock p payload) := every _

theorem readPlan (p : Port) (payload : List Byte) : Statement (.readPlan p payload) := every _

theorem setLaneMode (p : Port) (payload : List Byte) : Statement (.setLaneMode p payload) := every _

theorem readNotices (p : Port) (payload : List Byte) : Statement (.readNotices p payload) := every _

theorem enableNotice (p : Port) (payload : List Byte) : Statement (.enableNotice p payload) := every _

theorem disableNotice (p : Port) (payload : List Byte) : Statement (.disableNotice p payload) := every _

theorem dismissNotice (p : Port) (payload : List Byte) : Statement (.dismissNotice p payload) := every _

theorem readStore (p : Port) (payload : List Byte) : Statement (.readStore p payload) := every _

theorem readTotals (p : Port) (payload : List Byte) : Statement (.readTotals p payload) := every _

theorem readProfile (p : Port) (payload : List Byte) : Statement (.readProfile p payload) := every _

theorem writeDenomination (p : Port) (payload : List Byte) : Statement (.writeDenomination p payload) := every _

theorem writeClassEntry (p : Port) (payload : List Byte) : Statement (.writeClassEntry p payload) := every _

theorem assignStore (p : Port) (payload : List Byte) : Statement (.assignStore p payload) := every _

theorem writeLimits (p : Port) (payload : List Byte) : Statement (.writeLimits p payload) := every _

theorem writeProfileEntry (p : Port) (payload : List Byte) : Statement (.writeProfileEntry p payload) := every _

theorem commitProfile (p : Port) (payload : List Byte) : Statement (.commitProfile p payload) := every _

theorem skimToTarget (p : Port) (payload : List Byte) : Statement (.skimToTarget p payload) := every _

theorem emptyStore (p : Port) (payload : List Byte) : Statement (.emptyStore p payload) := every _

theorem stopSkim (p : Port) (payload : List Byte) : Statement (.stopSkim p payload) := every _

theorem declareCount (p : Port) (payload : List Byte) : Statement (.declareCount p payload) := every _

theorem clearJam (p : Port) (payload : List Byte) : Statement (.clearJam p payload) := every _

theorem enableStore (p : Port) (payload : List Byte) : Statement (.enableStore p payload) := every _

theorem disableStore (p : Port) (payload : List Byte) : Statement (.disableStore p payload) := every _

theorem cashboxEmptied (p : Port) (payload : List Byte) : Statement (.cashboxEmptied p payload) := every _

theorem closeShift (p : Port) (payload : List Byte) : Statement (.closeShift p payload) := every _

theorem clearCurrency (p : Port) (payload : List Byte) : Statement (.clearCurrency p payload) := every _

theorem restart (p : Port) (payload : List Byte) : Statement (.restart p payload) := every _

theorem unknownCode (p : Port) (body : List Byte) (check : Byte) : Statement (.unknownCode p body check) := every _

theorem frameComplete (p : Port) (check : Byte) : Statement (.frameComplete p check) := every _

theorem interByteGapExpiry (p : Port) : Statement (.interByteGapExpiry p) := every _

theorem replyTransmitEnd (p : Port) : Statement (.replyTransmitEnd p) := every _

theorem startUp : Statement .startUp := every _

theorem rehomeComplete (path : Kind) : Statement (.rehomeComplete path) := every _

theorem managerKeyChange (l : Lane) (turned : Bool) : Statement (.managerKeyChange l turned) := every _

theorem headStrobe (l : Lane) (k : Kind) (code : ClassCode) : Statement (.headStrobe l k code) := every _

theorem routeDecision (l : Lane) (k : Kind) : Statement (.routeDecision l k) := every _

theorem entryPulse (k : StoreId) : Statement (.entryPulse k) := every _

theorem routeWindowExpiry (k : StoreId) : Statement (.routeWindowExpiry k) := every _

theorem cassetteOut (k : StoreId) : Statement (.cassetteOut k) := every _

theorem cassetteIn (k : StoreId) : Statement (.cassetteIn k) := every _

theorem emptyLevelReport (k : StoreId) : Statement (.emptyLevelReport k) := every _

theorem piecePulse (k : StoreId) : Statement (.piecePulse k) := every _

theorem afterRunWindowClose (k : StoreId) : Statement (.afterRunWindowClose k) := every _

theorem strokeDeadlineExpiry (k : StoreId) : Statement (.strokeDeadlineExpiry k) := every _

theorem cashboxOut (k : Kind) : Statement (.cashboxOut k) := every _

theorem cashboxIn (k : Kind) : Statement (.cashboxIn k) := every _

theorem strokeStart (path : Kind) : Statement (.strokeStart path) := every _

theorem diverterMoveComplete (path : Kind) : Statement (.diverterMoveComplete path) := every _

theorem chuteSensorChange (l : Lane) (k : Kind) (occupied : Bool) : Statement (.chuteSensorChange l k occupied) := every _

theorem presentTimerExpiry (l : Lane) : Statement (.presentTimerExpiry l) := every _

theorem attemptCompletion : Statement .attemptCompletion := every _

theorem powerLoss : Statement .powerLoss := every _

theorem byteReceived (p : Port) (b : Byte) (stopError : Bool) : Statement (.byteReceived p b stopError) := every _

theorem emptyLevelNotEmpty (k : StoreId) : Statement (.emptyLevelNotEmpty k) := every _

end Sys2Proof.Laws.RequestFrame
end

