-- ==== Sys2Proof/Laws/Strokes.lean ====
section
/-! SUPPORT. What records that end give back (`State.givesBack`): the one lemma about `State.endStrokes` that a
proof about a dropped, jammed or ended stroke cites. -/

namespace Sys2Proof.Machine

/-- The pieces, counted by `pieces`, of the chosen records of a list. -/
def sumOver (xs : List Stroke) (chosen : Stroke → Bool) (pieces : Stroke → Nat) : Nat :=
  ((xs.filter chosen).map pieces).sum

theorem sumOver_cons (r : Stroke) (xs : List Stroke) (chosen : Stroke → Bool)
    (pieces : Stroke → Nat) :
    sumOver (r :: xs) chosen pieces = (if chosen r then pieces r else 0) + sumOver xs chosen pieces := by
  by_cases h : chosen r = true <;> simp [sumOver, h]

/-- `State.givesBack`, over a list of records. -/
def State.givesBackOf (xs : List Stroke) (s t : State) (pieces : Stroke → Nat) : Prop :=
  (∀ k, t.store k = { s.store k with
    reserved := (s.store k).reserved - sumOver xs (fun r => r.store == k) pieces }) ∧
  (∀ k, t.box k = { s.box k with
    promised := (s.box k).promised - sumOver xs (fun r => r.owner == .office && r.path == k) pieces }) ∧
  (∀ l, t.lane l = { s.lane l with sale := { s.sale l with
    owed := (s.sale l).owed + if (s.sale l).haltPending then 0 else
      sumOver xs (fun r => r.owner == .lane l) (fun r => pieces r * s.strokeValue r)
    shortfall := (s.sale l).shortfall + if (s.sale l).haltPending then
      sumOver xs (fun r => r.owner == .lane l) (fun r => pieces r * s.strokeValue r) else 0
    coinsCommitted := (s.sale l).coinsCommitted -
      sumOver xs (fun r => r.owner == .lane l && r.path == .coin) pieces
    notesCommitted := (s.sale l).notesCommitted -
      sumOver xs (fun r => r.owner == .lane l && r.path == .note) pieces } }) ∧
  (∀ l, t.planner.waitingLane.get l =
    if 0 < sumOver xs (fun r => r.owner == .lane l) pieces ∧ (s.sale l).haltPending = false ∧
      s.jobInWork ≠ some (.lane l .makeup) then some .makeup
    else s.planner.waitingLane.get l) ∧
  t = { s with stores := t.stores, boxes := t.boxes, lanes := t.lanes, pool := t.pool,
               planner := { s.planner with waitingLane := t.planner.waitingLane } }

theorem State.givesBack_iff (s t : State) (pieces : Stroke → Nat) :
    s.givesBack t pieces ↔ State.givesBackOf s.pool.records s t pieces := Iff.rfl

theorem State.givesBackOf_nil (s : State) (pieces : Stroke → Nat) :
    State.givesBackOf [] s s pieces := by
  refine ⟨fun k => ?_, fun k => ?_, fun l => ?_, fun l => ?_, rfl⟩ <;> simp [sumOver, State.sale]



/-- A make-up is asked for a lane that is not halted and has none in work (R41). -/
theorem State.waitingLane_askMakeup (s : State) (m l : Lane) :
    (s.askMakeup m).planner.waitingLane.get l =
      if m = l ∧ (s.sale m).haltPending = false ∧ s.jobInWork ≠ some (.lane m .makeup) then some .makeup
      else s.planner.waitingLane.get l := by
  unfold State.askMakeup
  by_cases h1 : (s.sale m).haltPending = true
  · simp [h1]
  · by_cases h2 : s.jobInWork = some (.lane m .makeup)
    · simp [h1, h2, State.makeupLive]
    · by_cases h3 : s.planner.waitingLane.get m = some .makeup
      · by_cases h4 : m = l
        · subst h4; simp [h1, h2, h3, State.makeupLive]
        · simp [h4, h1, h2, h3, State.makeupLive]
      · by_cases h4 : m = l
        · subst h4; simp [h1, h2, h3, State.makeupLive, State.placeLane]
        · simp [h4, h1, h2, h3, State.makeupLive, State.placeLane, PerLane.get_set_ne _ _ _ _ (Ne.symm h4)]

/-- One record that ends gives back its pieces. -/
theorem State.givesBackOf_endRecord (s : State) (r : Stroke) (e : Ending) (pieces : Stroke → Nat) :
    State.givesBackOf [r] s (s.endRecord r e (pieces r)) pieces := by
  obtain ⟨slot, owner, path, store, count, delivered, dest, origin, state⟩ := r
  generalize hn : pieces _ = n
  simp only [State.givesBackOf, sumOver_cons, hn]
  simp only [sumOver, List.filter_nil, List.map_nil, List.sum_nil, Nat.add_zero]
  have hst : ∀ (t : State) (j : StoreId),
      (t.modStore store (fun x => { x with reserved := x.reserved - n })).store j =
        { t.store j with reserved := (t.store j).reserved - if store == j then n else 0 } := by
    intro t j
    rw [t.store_modStore]
    by_cases h : j = store
    · subst h; simp
    · simp [h, Ne.symm h]
  refine ⟨fun k => ?_, fun k => ?_, fun l => ?_, fun l => ?_, ?_⟩
  · rw [← hst]
    cases owner with
    | office => rfl
    | lane m =>
      simp only [State.endRecord, State.release]
      exact congrArg (fun v : Vector Store 12 => v[k]) (State.giveBack_frame _ _ _ _ _).2.2.2.2.2.1
  · cases owner with
    | office => cases path <;> cases k <;> rfl
    | lane m =>
      simp only [State.endRecord, State.release]
      exact congrArg (fun v : PerKind Cashbox => v.get k)
        (State.giveBack_frame _ _ _ _ _).2.2.2.2.2.2.1
  · cases owner with
    | office => simp [State.sale]; rfl
    | lane m =>
      simp only [State.endRecord, State.release, State.giveBack]
      have ha : ∀ (t : State) (i : Lane), (t.askMakeup i).lane l = t.lane l := fun t i =>
        congrArg (fun v : PerLane LaneControl => v.get l) (State.askMakeup_frame t i).2.2.2.2.2.2.2.2.1
      by_cases h0 : n = 0
      · subst h0; simp [State.sale]; rfl
      · simp only [h0, if_false, ha]
        have hh : ∀ x : Sale, x.oweOrShort (n * s.storeValue store) = { x with
          owed := x.owed + if x.haltPending then 0 else n * s.storeValue store
          shortfall := x.shortfall + if x.haltPending then n * s.storeValue store else 0 } := by
          intro x; by_cases hx : x.haltPending = true <;> simp [Sale.oweOrShort, hx]
        have hv : ∀ (o : Owner) (k : Kind) (y : Tally) (q : Stroke),
            (s.setTally o k y).strokeValue q = s.storeValue q.store := fun _ _ _ _ => rfl
        simp only [hv, hh]
        cases m <;> cases l <;> cases path <;>
          simp [State.sale, State.lane, State.modSale, State.setSale, State.setLane, Sale.uncommit,
            PerLane.get, PerLane.set, State.strokeValue] <;>
          exact ⟨rfl, rfl⟩
  · cases owner with
    | office => simp [State.endRecord, State.release]
    | lane m =>
      simp only [State.endRecord, State.release, State.giveBack]
      by_cases h0 : n = 0
      · subst h0; simp
      · simp only [h0, if_false]
        rw [State.waitingLane_askMakeup]
        have hhalt : ∀ x : Sale,
            ((x.oweOrShort (n * s.storeValue store)).uncommit path n).haltPending =
              x.haltPending := by
          intro x; cases path <;> (unfold Sale.oweOrShort; split <;> rfl)
        rw [State.sale_modSale_self]
        have hpos : 0 < n := Nat.pos_of_ne_zero h0
        by_cases hm : m = l
        · subst hm
          simp only [State.strokeValue]
          refine ite_congr ?_ (fun _ => rfl) (fun _ => rfl)
          simp only [beq_self_eq_true, if_true, hpos, true_and]
          refine congrArg₂ And (congrArg (· = false) (hhalt _)) rfl
        · simp [hm]
  · cases owner with
    | office => rfl
    | lane m =>
      simp only [State.endRecord, State.release, State.giveBack, State.askMakeup]
      split
      · rfl
      · split <;> rfl

/-- Giving back runs through a list of records one by one. -/
theorem State.givesBackOf_cons {r : Stroke} {xs : List Stroke} {s t u : State}
    {pieces : Stroke → Nat} (h1 : State.givesBackOf [r] s t pieces)
    (h2 : State.givesBackOf xs t u pieces) : State.givesBackOf (r :: xs) s u pieces := by
  obtain ⟨a1, a2, a3, a4, a5⟩ := h1
  obtain ⟨b1, b2, b3, b4, b5⟩ := h2
  have hone : ∀ c p, sumOver [r] c p = if c r then p r else 0 := by
    intro c p; rw [sumOver_cons]; rfl
  simp only [hone] at a1 a2 a3 a4
  have hv : ∀ q : Stroke, t.strokeValue q = s.strokeValue q := by
    intro q
    have hd : (t.store q.store).denom = (s.store q.store).denom := by rw [a1]
    have he : t.denoms = s.denoms := by rw [a5]
    simp only [State.strokeValue, State.storeValue, hd, State.value, State.denom, he]
  have hs : ∀ l, t.sale l = _ := fun l => congrArg LaneControl.sale (a3 l)
  have hj : t.jobInWork = s.jobInWork := by rw [a5]; rfl
  refine ⟨fun k => ?_, fun k => ?_, fun l => ?_, fun l => ?_, ?_⟩
  · rw [b1, a1, sumOver_cons, Nat.sub_sub]
  · rw [b2, a2, sumOver_cons, Nat.sub_sub]
  · simp only [b3, a3, hs, hv, sumOver_cons, Nat.sub_sub, Nat.add_assoc]
    by_cases hh : (s.sale l).haltPending = true <;> simp [hh]
  · rw [b4, a4, sumOver_cons, hj, hs]
    by_cases hh : (s.sale l).haltPending = true <;>
      by_cases hw : s.jobInWork = some (.lane l .makeup) <;>
      by_cases hr : (r.owner == Owner.lane l) = true <;> simp [hh, hw, hr]
    by_cases hx : 0 < sumOver xs (fun r => r.owner == Owner.lane l) pieces <;>
      by_cases hp : 0 < pieces r <;> simp [hx, hp]
  · rw [b5, a5]

/-- What the records that one event ends give back. -/
theorem State.endStrokes_givesBack (s : State) (how : Stroke → Option (Ending × Nat)) :
    s.givesBack (s.endStrokes how) (fun r => ((how r).map (·.2)).getD 0) := by
  rw [State.givesBack_iff]
  have key : ∀ (xs : List Stroke) (s : State), State.givesBackOf xs s
      (xs.foldl (fun t r => match how r with
        | some (e, n) => t.endRecord r e n
        | none => t) s) (fun r => ((how r).map (·.2)).getD 0) := by
    intro xs
    induction xs with
    | nil => intro s; exact s.givesBackOf_nil _
    | cons r xs ih =>
      intro s
      refine State.givesBackOf_cons ?_ (ih _)
      cases h : how r with
      | none =>
        have : sumOver [r] = fun c p => if c r then p r else 0 := by
          funext c p; rw [sumOver_cons]; rfl
        simp only [State.givesBackOf, this, h]
        refine ⟨fun k => ?_, fun k => ?_, fun l => ?_, fun l => ?_, trivial⟩ <;> simp [State.sale]
      | some x =>
        have := s.givesBackOf_endRecord r x.1 (fun r => ((how r).map (·.2)).getD 0)
        simpa [h] using this
  obtain ⟨a1, a2, a3, a4, a5⟩ := key s.pool.records s
  refine ⟨a1, a2, a3, a4, ?_⟩
  simp only [State.endStrokes]
  exact congrArg (fun t : State => { t with pool := (s.endStrokes how).pool }) a5
end Sys2Proof.Machine
end

