-- ==== Sys2Proof/Tests/Slice0.lean ====
section
/-! SUPPORT. The model's own tests: the well-formedness checks on ill-formed commands, one step of some commands
on small states, and for every statement with hypotheses a concrete state that meets them, clause by clause. -/

open Sys2Proof Sys2Proof.Machine

namespace Sys2Proof.Tests

/-! ### Small states -/

/-- The state a command leaves; the reset state where it gives none. -/
def after (o : Host.Outcome State Fault Refusal) : State := match o with
  | .next t => t
  | .fault _ => State.reset
  | .refused _ => State.reset

/-- The status byte and the payload in the frame of the reply a port has begun (R174). -/
def replyOn (s : State) (p : Port) : Option (Byte × List Byte) :=
  (s.port p).sending.map (fun r => (r.frame.getD 3 0, (r.frame.drop 4).dropLast))

def tube (d : Denom) (n : Nat) : Store :=
  { denom := some d, capacity := 20, physical := n, reserved := 0, state := .ready, pay := true,
    fill := true, fills := [], inFlight := false, marked := false, channel := .idle }

/-- The 5 coin (index 0) in S0 and S1, ten pieces each, and the 500 note (index 8) in S8, five pieces. -/
def stocked : State :=
  ((((State.reset.setDenom 0 { value := 5, kind := .coin, enabled := true }).setDenom 8
    { value := 500, kind := .note, enabled := true }).setStore 0 (tube 0 10)).setStore 1
      (tube 0 10)).setStore 8 (tube 8 5)

/-- Both paths re-homed. -/
def homed (s : State) : State :=
  (s.modPath .coin (fun a =>
    { a with availability := .available, position := some .coinBox })).modPath .note (fun a =>
      { a with availability := .available, position := some .noteBox })

def serving : State := ((homed stocked).setMode .one .serve).setMode .two .serve

/-- Lane 1's sale in a state, with 45 tendered against a due of 25. -/
def selling (x : SaleState) : State :=
  serving.setSale .one { Sale.idle 6 with
    state := x, due := 25, tendered := 45, targetKind := .change, target := 20 }

def stroke (slot : SlotId) (o : Owner) (k : StoreId) (n : Nat) (x : StrokeState) : Stroke :=
  { slot := slot, owner := o, path := storeKind k, store := k, count := n, delivered := 0,
    dest := destOf o (storeKind k), origin := .main, state := x }

def withStrokes (s : State) (xs : List Stroke) : State :=
  { s with pool := { s.pool with free := freeSlots.drop xs.length, records := xs } }

/-- Both lanes PAYING; Lane 1's stroke runs on S0, and a stroke of Lane 2 and one of the office wait there. -/
def paying : State :=
  withStrokes
    (((((selling .paying).setSale .two { Sale.idle 3 with state := .paying }).setStore 0
      { tube 0 10 with
        reserved := 4, state := .paying, inFlight := true, channel := .driving 0 560 }).modPath .coin
      (fun a => { a with grant := .laneRun .one, position := some (.cup .one) })).modBox .coin
        (fun b => { b with promised := 1 }))
    [stroke 0 (.lane .one) 0 2 .running, stroke 1 (.lane .two) 0 1 .waiting,
      stroke 2 .office 0 1 .waiting]

/-- The same, with the stroke's count complete and its after-run window open. -/
def afterRun : State :=
  paying.modStore 0 (fun x => { x with reserved := 2, channel := .afterRun 0 200 })

/-- Lane 1's stroke waits, latched, on a path that stands at its destination. -/
def latched : State :=
  withStrokes ((selling .paying).modPath .coin (fun a =>
    { a with grant := .laneRun .one, position := some (.cup .one),
             latch := some (stroke 0 (.lane .one) 0 2 .waiting).latch }))
    [stroke 0 (.lane .one) 0 2 .waiting]

/-- An office skim stroke runs from S0 into the coin cashbox. -/
def skimming (c : Channel) : State :=
  withStrokes (serving.setStore 0 { tube 0 10 with reserved := 2, state := .paying, channel := c })
    [stroke 0 .office 0 2 .running, stroke 1 .office 1 1 .waiting]

def reply : Reply := { frame := replyFrame 0x09 .ok [], thenStartUp := false }

/-- The office port sends a reply and holds some frames. -/
def sending (held : List Frame) (r : Reply) : State :=
  serving.setPort .office { LinkPort.atStartUp with buffer := held, sending := some r }

def frameOf (body : List Byte) : Frame := { body := body, check := checkByteOf body }

/-- The planner works on a job. -/
def working (s : State) (j : Job) (attempt : Nat) : State :=
  { s with planner := { s.planner with
    work := some { job := j, attempt := attempt, stopped := false, snap := s.snapshot j 20 } } }

/-! ### Well-formedness: an ill-formed command for each check -/

theorem test_wellFormed_payload : (Instr.settle (.lane .one) [0]).wellFormed = true := by decide

set_option maxRecDepth 8000 in
theorem test_illFormed_payload_too_long :
    (Instr.settle (.lane .one) (List.replicate 200 0)).wellFormed = false := by decide

theorem test_illFormed_unknown_code_empty : (Instr.unknownCode .office [] 0).wellFormed = false := by
  decide

set_option maxRecDepth 8000 in
theorem test_illFormed_unknown_code_too_long :
    (Instr.unknownCode .office (List.replicate 201 0xFF) 0).wellFormed = false := by decide

/-- The frame of R177's READ STOCK with a right sum is no UNKNOWN_CODE. -/
theorem test_illFormed_unknown_code_is_a_request :
    (Instr.unknownCode (.lane .one) [0x09] (checkByteOf [0x09])).wellFormed = false := by decide

theorem test_wellFormed_unknown_code :
    (Instr.unknownCode .office [0x40] (checkByteOf [0x40])).wellFormed = true := by decide

/-! ### One step -/

theorem test_step_takes_the_front :
    (after (step { serving with pending := [.readTender (.lane .one) [], .startUp] })).pending =
      [.startUp] := by decide

/-- No row has bits: the fetch word changes nothing. -/
theorem test_no_word_spells_a_command : State.reset.withFetchWord 8 0xA5 = State.reset := rfl

theorem test_openSale :
    replyOn (after (exec (.openSale (.lane .one) [0x04, 0xD8, 3]) serving)) (.lane .one) =
      some (0x00, [0, 1]) := by decide

theorem test_openSale_sets_the_due :
    ((after (exec (.openSale (.lane .one) [0x04, 0xD8, 3]) serving)).sale .one).due = 1240 := by
  decide

theorem test_openSale_closed_lane :
    replyOn (after (exec (.openSale (.lane .one) [0, 5, 0]) stocked)) (.lane .one) =
      some (0x14, []) := by decide

theorem test_settle_asks_for_a_plan :
    (after (exec (.settle (.lane .one) [0]) (selling .tendering))).planner.work.map (·.job) =
      some (.lane .one .settle) := by decide

/-- R78–R87: 20 paid in 5 coins, from the store with the lower number of two with equal free counts. -/
theorem test_attempt_lays_down_the_plan :
    ((after (exec .attemptCompletion (after (exec (.settle (.lane .one) [0])
      (selling .tendering))))).pool.records.map (fun r => (r.store, r.count))) = [(0, 4)] := by decide

theorem test_cancel_becomes_a_refund :
    ((after (exec (.cancelSale (.lane .one) []) (selling .tendering))).sale .one).target = 45 := by
  decide

theorem test_halt_needs_the_key :
    replyOn (after (exec (.haltPayout (.lane .one) []) paying)) (.lane .one) = some (0x12, []) := by
  decide

theorem test_readStock_length :
    ((replyOn (after (exec (.readStock (.lane .one) []) serving)) (.lane .one)).map
      (fun a => a.2.length)) = some 17 := by decide

/-- R136: 700 / 400 / 350 against a summed capacity of 40 (two tubes of 20). -/
theorem test_writeProfileEntry_clamps :
    replyOn (after (exec (.writeProfileEntry .office [0, 2, 188, 1, 144, 1, 94]) serving)) .office =
      some (0x00, [0, 40, 0, 40, 0, 40]) := by decide

theorem test_writeProfileEntry_orders :
    replyOn (after (exec (.writeProfileEntry .office [0, 0, 30, 0, 20, 0, 10]) serving)) .office =
      some (0x00, [0, 20, 0, 20, 0, 20]) := by decide

theorem test_declareCount_books_adjusted :
    ((after (exec (.declareCount .office [0, 0, 7]) serving)).counters 0).adjusted = -3 := by decide

theorem test_closeShift_refused_while_paying :
    replyOn (after (exec (.closeShift .office []) paying)) .office = some (0x14, []) := by decide

theorem test_headStrobe_class_63_is_returned :
    ((after (exec (.routeDecision .one .coin) (after (exec (.headStrobe .one .coin 63)
      serving)))).head .one .coin).answer = some .giveBack := by decide

theorem test_strokeStart_runs_the_store :
    ((after (exec (.strokeStart .coin) latched)).store 0).channel = .driving 0 560 := by decide

theorem test_piecePulse_pays_the_sale :
    ((after (exec (.piecePulse 0) paying)).sale .one).paid = 5 := by decide

/-- R41, R126: the jam gives the two undelivered pieces back to owed. -/
theorem test_deadline_jams :
    let t := after (exec (.strokeDeadlineExpiry 0) paying)
    (t.store 0).state = .jammed ∧ (t.store 0).reserved = 0 ∧ (t.sale .two).owed = 5 := by decide

/-- R95, R101: the slots freed in one event go back in ascending order, the highest on top. -/
theorem test_freed_slots_return_in_order :
    (after (exec (.strokeDeadlineExpiry 0) paying)).pool.free.take 4 = [2, 1, 0, 3] := by decide

theorem test_cassetteOut_books_removed :
    ((after (exec (.cassetteOut 8) serving)).counters 8).removed = 5 := by decide

/-- R171: the sum from the length byte to the check byte is 0. -/
theorem test_check_byte : checkByteOf [0x02] = 0xFD := by decide

/-- A byte-by-byte READ TENDER is answered (R170, R171). -/
theorem test_bytes_make_a_frame :
    (([0xA5, 0x01, 0x02, 0xFD] : List Byte).foldl
      (fun s b => after (exec (.byteReceived (.lane .one) b false) s)) serving).ports.one.sending.map
        (fun r => r.frame.take 4) = some [0xA5, 30, 0x82, 0x00] := by decide

/-- R174, R171: the bytes of a reply that refuses with RANGE. -/
theorem test_reply_frame : replyFrame 0x21 .range [] = [0xA5, 0x02, 0xA1, 0x13, 0x4A] := by decide

set_option maxRecDepth 8000 in
theorem test_startUp_after_power_loss :
    (after (exec .startUp (after (exec .powerLoss serving)))).phase = .running := rfl

/-! ### What the statements' hypotheses are met by -/

theorem witness_StepRunsTheFront :
    { serving with pending := [.startUp] }.pending = [.startUp] ∧ serving.pending = [] := ⟨rfl, rfl⟩

theorem witness_EventsThatCannotAriseChangeNothing :
    serving.phase = .running ∧ (serving.head .one .coin).latch = none ∧ (serving.store 0).fills = [] ∧
    (paying.store 0).channel = .driving 0 560 ∧ (afterRun.store 0).channel = .afterRun 0 200 ∧
    (serving.path .coin).availability = .available ∧ (serving.path .coin).move = none ∧
    (serving.path .coin).latch = none ∧ serving.planner.work = none ∧
    (serving.port .office).receiver = .hunt ∧ (serving.port .office).sending = none := by
  refine ⟨rfl, rfl, by decide, by decide, by decide, rfl, rfl, rfl, rfl, rfl, rfl⟩

/-- A command that changes a sensor's reading alone. -/
def sensed (s : State) : State := { s with pending := [.emptyLevelNotEmpty 0] }

theorem sensed_steps (s : State) : ∃ t, step (sensed s) = .next t := ⟨_, rfl⟩

theorem witness_NoticesFollowKept :
    (sensed serving).closeEvent.noticesFollow ∧ ∃ t, step (sensed serving).closeEvent = .next t :=
  ⟨State.noticesFollow_closeEvent _, _, rfl⟩

theorem witness_DurableKept :
    (sensed paying).closeEvent.durable ∧ ∃ t, step (sensed paying).closeEvent = .next t :=
  ⟨State.durable_closeEvent _, _, rfl⟩

theorem witness_RangesAndCountersKept :
    ((sensed stocked).rangesHold ∧ ∃ t, step (sensed stocked) = .next t) ∧
    ((sensed stocked).countersInRange ∧ ∃ t, step (sensed stocked) = .next t) := by
  refine ⟨⟨⟨?_, ?_, ?_⟩, sensed_steps _⟩, ?_, sensed_steps _⟩
  · rintro ((_ | _) | _) <;> decide
  · unfold Marks.ordered; decide
  · decide
  · intro d
    refine ⟨⟨fun n => ?_, ?_⟩, fun n => ?_, ?_⟩
    · cases n <;> revert d <;> decide
    · revert d; decide
    · cases n <;> revert d <;> decide
    · revert d; decide

/-- `paying` with each sale's target at what its stroke carries, the stores' pieces in the shift's opening, and
nothing marked inexact. -/
def accounted : State :=
  let s := (paying.modSale .one (fun x => { x with target := 10 })).modSale .two
    (fun x => { x with target := 5 })
  { s with totals := { s.totals with opening := (s.totals.opening.set 0 20).set 8 5 } }

theorem accounted_slotsPartition : (sensed accounted).slotsPartition := by
  unfold State.slotsPartition; decide

theorem accounted_laneWorkFollows : (sensed accounted).laneWorkFollows := by
  intro l
  cases l
  all_goals refine ⟨fun _ => by decide, fun h => ?_, fun _ => by decide, fun h => absurd h (by decide),
    by decide⟩
  all_goals rcases h with (h | h) | (h | h) <;> exact absurd h (by decide)

theorem accounted_strokesFollow : (sensed accounted).strokesFollow := by
  refine ⟨by decide, ?_, ?_, fun k => by cases k <;> decide⟩
  · intro k slot h
    by_cases hk : k = 0
    · subst hk
      have e : ((sensed accounted).store 0).channel.slot? = some 0 := by decide
      rw [e] at h
      obtain rfl : slot = 0 := (Option.some.inj h).symm
      exact ⟨by decide, stroke 0 (.lane .one) 0 2 .running, by decide, rfl, rfl, rfl⟩
    · have : ∀ k : StoreId, k ≠ 0 → ((sensed accounted).store k).channel.slot? = none := by decide
      rw [this k hk] at h
      exact nomatch h
  · intro k x h
    cases k <;> exact absurd h (by rw [show ((sensed accounted).path _).latch = none from rfl]; nofun)

theorem accounted_stockFollows : (sensed accounted).stockFollows := by
  constructor
  · intro _
    exact ⟨by decide, fun k => by cases k <;> decide, by decide⟩
  · exact ⟨by decide, fun k => by cases k <;> decide, fun r h => nomatch h⟩

theorem accounted_holdingsFollow : (sensed accounted).holdingsFollow := by
  constructor
  · intro _
    exact ⟨fun _ => by decide, by decide, fun k => by cases k <;> decide,
      fun k => by cases k <;> decide, by decide, by decide⟩
  · exact ⟨fun _ => by decide, by decide, fun k => by cases k <;> decide,
      fun k => by cases k <;> decide, by decide, by decide⟩

theorem accounted_salesFollow : (sensed accounted).salesFollow := by
  refine fun _ => ⟨fun l => ?_, by decide, fun w h => nomatch h⟩
  cases l <;>
    exact ⟨by decide, by decide, by decide, by decide, by decide, by decide, fun c h => nomatch h⟩

theorem witness_SlotsPartitionKept :
    (sensed accounted).slotsPartition ∧ ∃ t, step (sensed accounted) = .next t :=
  ⟨accounted_slotsPartition, sensed_steps _⟩

theorem witness_LaneWorkFollowsKept :
    (sensed accounted).laneWorkFollows ∧ ∃ t, step (sensed accounted) = .next t :=
  ⟨accounted_laneWorkFollows, sensed_steps _⟩

theorem witness_StrokesFollowKept :
    ((sensed accounted).slotsPartition ∧ (sensed accounted).laneWorkFollows ∧
      (sensed accounted).strokesFollow) ∧ ∃ t, step (sensed accounted) = .next t :=
  ⟨⟨accounted_slotsPartition, accounted_laneWorkFollows, accounted_strokesFollow⟩, sensed_steps _⟩

theorem witness_StockFollowsTheStrokesKept :
    ((sensed accounted).slotsPartition ∧ (sensed accounted).laneWorkFollows ∧
      (sensed accounted).strokesFollow ∧ (sensed accounted).stockFollows) ∧
    (∃ t, step (sensed accounted) = .next t) ∧ ((sensed accounted).store 0).reserved = 4 ∧
    ((sensed accounted).box .coin).promised = 1 :=
  ⟨⟨accounted_slotsPartition, accounted_laneWorkFollows, accounted_strokesFollow,
    accounted_stockFollows⟩, sensed_steps _, by decide, by decide⟩

theorem witness_HoldingsBalanceKept :
    ((sensed accounted).slotsPartition ∧ (sensed accounted).laneWorkFollows ∧
      (sensed accounted).strokesFollow ∧ (sensed accounted).stockFollows ∧
      (sensed accounted).holdingsFollow) ∧
    (∃ t, step (sensed accounted) = .next t) ∧ (sensed accounted).totals.inexact = false ∧
    (sensed accounted).holdings 0 = 20 :=
  ⟨⟨accounted_slotsPartition, accounted_laneWorkFollows, accounted_strokesFollow,
    accounted_stockFollows, accounted_holdingsFollow⟩, sensed_steps _, rfl, by decide⟩

theorem witness_SaleAccountsKept :
    ((sensed accounted).slotsPartition ∧ (sensed accounted).laneWorkFollows ∧
      (sensed accounted).strokesFollow ∧ (sensed accounted).stockFollows ∧
      (sensed accounted).holdingsFollow ∧ (sensed accounted).salesFollow) ∧
    (∃ t, step (sensed accounted) = .next t) ∧ (sensed accounted).carried .one = 10 :=
  ⟨⟨accounted_slotsPartition, accounted_laneWorkFollows, accounted_strokesFollow,
    accounted_stockFollows, accounted_holdingsFollow, accounted_salesFollow⟩, sensed_steps _, by decide⟩

theorem witness_PortHoldsTwoFramesAndCarriesOverrun :
    ((Instr.readNotices .office []).frame? = some (.office, .readNotices, []) ∧
      bodyFits [Request.readNotices.code] = true ∧
      ((sending [] reply).port .office).sending.isSome = true ∧
      ((sending [frameOf [0x12]] reply).port .office).buffer.length = 1 ∧
      ((sending [frameOf [0x12], frameOf [0x12]] reply).port .office).buffer.length = 2) ∧
    done.status ≠ .overrun ∧ (refuse .range).status ≠ .overrun ∧
    ([] : List Byte).length ≤ 253 := by decide

theorem witness_RequestChecksComeInOrder :
    (serving.takes (.lane .one) ∧ serving.takes .office) ∧
    (bodyFits [0x02] = true ∧ frameSum [0x02] 0xFE ≠ 0) ∧
    (bodyFits [0x0A] = true ∧ frameSum [0x0A] 0xF5 = 0 ∧ requestOfCode 0x0A = none) ∧
    ((Instr.readProfile (.lane .one) [0]).frame? = some (.lane .one, .readProfile, [0]) ∧
      Request.readProfile.laneLevel = 0 ∧ Request.haltPayout.laneLevel = 1 ∧
      serving.pins.keyTurned.get .one = false) ∧
    ((Instr.settle .office [0]).frame? = some (.office, .settle, [0]) ∧
      Request.settle.served = .lanesOnly) ∧
    ((Instr.settle (.lane .one) []).frame? = some (.lane .one, .settle, []) ∧
      Request.settle.laneLevel = 2 ∧ Request.settle.payloadLength (.lane .one) = 1) :=
  ⟨⟨⟨rfl, rfl, rfl⟩, rfl, rfl, rfl⟩, by decide⟩

theorem witness_ReceiverFollowsItsTableAndOffersTheFrame :
    (serving.phase = .running ∧ (serving.port .office).receiver = .hunt) ∧
    ((serving.setReceiver .office .length).phase = .running ∧
      ((serving.setReceiver .office .length).port .office).receiver = .length ∧
      (0 : Byte).toNat < 1 ∧ (200 : Byte).toNat ≤ 200 ∧ 200 < (201 : Byte).toNat) ∧
    (((serving.setReceiver .office (.body 2 [])).port .office).receiver = .body 2 [] ∧
      ((serving.setReceiver .office (.body 2 [0x12])).port .office).receiver = .body 2 [0x12]) ∧
    (((serving.setReceiver .office (.check [0x12])).port .office).receiver = .check [0x12] ∧
      bodyFits [0x12] = true ∧
      (Instr.readNotices .office []).frame? = some (.office, .readNotices, []) ∧
      Request.readNotices.code = 0x12) ∧
    (((sending [] reply).setReceiver .office (.check [0x12])).port .office).sending.isSome = true ∧
    (((sending [] reply).setReceiver .office (.check [0x12])).port .office).receiver =
      .check [0x12] := by decide

theorem witness_ReplyEndTakesTheOldestFrame :
    (sending [] reply).phase = .running ∧ ((sending [] reply).port .office).sending = some reply ∧
    reply.thenStartUp = false ∧ ((sending [] reply).port .office).buffer = [] ∧
    ((sending [] { reply with thenStartUp := true }).port .office).sending =
      some { reply with thenStartUp := true } ∧
    ((sending [frameOf [0x12]] reply).port .office).buffer = [frameOf [0x12]] ∧
    (Instr.readNotices .office []).frame? = some (.office, .readNotices, []) ∧
    bodyFits [0x12] = true := by decide

/-- A retained sale of Lane 1 in a state. -/
def interrupted (x : SaleState) : State :=
  { serving with retained := { Retained.factory with
      sales := { Retained.factory.sales with one :=
        { sequence := 6, state := x, due := 25, tendered := 45, target := 20, paid := 5,
          pieces := Vector.replicate 12 0 } } } }

theorem witness_StartUpRebuildsTheWorkingState :
    ((interrupted .idle).retained.sales.get .one).state = .idle ∧
    ((interrupted .paying).retained.sales.get .one).state = .paying ∧
    ((interrupted .tendering).retained.sales.get .one).state = .tendering ∧
    ∀ d : Denom, ((interrupted .paying).retained.totals.counters[d]).inRange := by
  refine ⟨by decide, by decide, by decide, fun d => ⟨fun n => ?_, ?_⟩⟩
  · cases n <;> revert d <;> decide
  · revert d; decide

/-- Retained Memory holds S0 in a state, with three pieces. -/
def retainedStore (x : RetainedStore) (cassette empty : Bool) : State :=
  { (serving.setCassettePin 0 cassette).setLevelPin 0 empty with
    retained := { Retained.factory with stores := Retained.factory.stores.set 0 x } }

def kept (x : StoreState) : RetainedStore :=
  { denom := some 0, capacity := 20, pay := true, fill := true, physical := 3, state := x,
    inFlight := false, fills := [] }

theorem witness_StartUpSettlesEachStore :
    (∃ t, exec .startUp (retainedStore (kept .ready) true true) = .next t) ∧
    (retainedStore (kept .ready) false true).pins.cassetteIn[(0 : StoreId)] = false ∧
    (retainedStore (kept .absent) true true).retained.stores[(0 : StoreId)].state = .absent ∧
    (retainedStore (kept .ready) true true).pins.levelEmpty[(0 : StoreId)] = true ∧
    (retainedStore { kept .ready with fills := [(0, .accepted)] } true
      false).retained.stores[(0 : StoreId)].fills ≠ [] :=
  ⟨⟨_, rfl⟩, by decide, by decide, by decide, by decide⟩

theorem witness_PowerLossRestartAndStartUpServeNothing :
    ({ serving with phase := .startingUp }.phase ≠ .running ∧
      { serving with phase := .off }.phase ≠ .running ∧
      Instr.readTender (.lane .one) [] ≠ .startUp ∧
      Instr.readTender (.lane .one) [] ≠ .powerLoss) ∧
    (serving.takes .office ∧ (serving.sale .one).state = .idle ∧ (serving.sale .two).state = .idle ∧
      serving.pool.records = []) ∧
    paying.takes .office ∧ paying.pool.records ≠ [] :=
  ⟨by refine ⟨?_, ?_, ?_, ?_⟩ <;> nofun, ⟨⟨rfl, rfl, rfl⟩, rfl, rfl, rfl⟩, ⟨rfl, rfl, rfl⟩, by decide⟩

/-- The coin path free to be granted, with a stroke of each of some owners waiting on it. -/
def offered (os : List Owner) : State :=
  withStrokes serving ((os.zipIdx).map fun x => stroke (Fin.ofNat 40 x.2) x.1 0 1 .waiting)

/-- The coin path granted, with those strokes waiting. -/
def granted (g : Grant) (x : Option Latch) (os : List Owner) : State :=
  (offered os).modPath .coin (fun a => { a with grant := g, latch := x })

/-- An armed switch at a quiet point, and one with a sale open. -/
theorem witness_EventClosesByConditionsAndConsequences :
    (let t := { serving with armed := true }
     (((t.settlePaths.settleSale .one).settleSale .two).takeNext).armed = true ∧
     (((t.settlePaths.settleSale .one).settleSale .two).takeNext).quietPoint = true) ∧
    (let t := { selling .tendering with armed := true }
     (((t.settlePaths.settleSale .one).settleSale .two).takeNext).quietPoint = false) := by decide

theorem witness_GrantIsDecidedAndOverByItsRules :
    (stocked.path .coin).availability = .rehoming 400 ∧
    (((offered []).path .coin).availability = .available ∧ ((offered []).path .coin).grant = .none) ∧
    (offered [.lane .one, .lane .two]).pool.chain (.lane .one) .coin ≠ [] ∧
    (offered [.lane .one, .lane .two]).pool.chain (.lane .two) .coin ≠ [] ∧
    ((offered [.lane .one, .lane .two]).path .coin).lastGranted = .two ∧
    (serving.pins.chuteOccupied.get .one).get .coin = false ∧
    (offered [.office]).pool.chain .office .coin ≠ [] ∧
    (offered [.office]).pool.chain (.lane .one) .coin = [] ∧
    (offered []).pool.chain .office .coin = [] ∧
    ((granted (.laneRun .one) none []).path .coin).grant = .laneRun .one ∧
    (granted (.laneRun .one) none []).pool.chain (.lane .one) .coin = [] ∧
    (granted (.laneRun .one) none [.lane .one]).pool.chain (.lane .one) .coin ≠ [] ∧
    (paying.path .coin).grant = .laneRun .one ∧
    (∃ r ∈ paying.pool.records, r.path = .coin ∧ r.state = .running) ∧
    ((granted .officeStroke none [.office]).path .coin).latch = none ∧
    ((granted .officeStroke (some (stroke 0 .office 0 1 .waiting).latch)
      [.office]).path .coin).latch ≠ none ∧
    (granted .officeStroke (some (stroke 0 .office 0 1 .waiting).latch)
      [.office, .lane .one]).pool.chain (.lane .one) .coin ≠ [] := by decide

theorem witness_PlannerTakesByClassAndTurn :
    Job.lane .one .settle = .lane .one .settle ∧
    (working serving (.skim .toTarget) 1).planner.work ≠ none ∧ serving.planner.work = none ∧
    ((paying.placeLane .one (some .makeup)).planner.waitingLane.get .one = some .makeup ∧
      (paying.placeLane .one (some .makeup)).planner.waitingLane.get .two ≠ some .makeup) ∧
    ((paying.placeLane .one (some .makeup)).placeLane .two
      (some .makeup)).planner.lastServed = .two ∧
    ((selling .planning).placeLane .one (some .settle)).planner.waitingLane.get .one =
      some .settle ∧
    (serving.planner.waitingLane.get .one = none ∧ serving.planner.waitingLane.get .two = none ∧
      (serving.placeSkim (some .toTarget)).planner.waitingSkim = some .toTarget) ∧
    serving.planner.waitingSkim = none := by decide

theorem witness_SaleIsPresentedWhenItsPayoutIsOver :
    (((selling .paying).sale .one).state = .paying ∧
      (∀ k, k = Kind.coin ∨ k = Kind.note → (selling .paying).pool.chain (.lane .one) k = [] ∧
        ((selling .paying).path k).grant ≠ .laneRun .one) ∧
      ((selling .paying).sale .one).owed = 0 ∧
      (selling .paying).planner.waitingLane.get .one ≠ some .makeup ∧
      (selling .paying).jobInWork ≠ some (.lane .one .makeup)) ∧
    (paying.pool.chain (.lane .one) .coin ≠ []) ∧
    (selling .paying).pins.chuteOccupied.get .one = { coin := false, note := false } ∧
    ((selling .paying).setChutePin .one .note true).pins.chuteOccupied.get .one ≠
      { coin := false, note := false } := by
  refine ⟨⟨rfl, ?_, rfl, by decide, by decide⟩, by decide, rfl, by decide⟩
  rintro k (rfl | rfl) <;> decide

theorem witness_OpenSaleOpensTheSale :
    serving.takes (.lane .one) ∧ serving.mode .one = .serve ∧ (serving.sale .one).state = .idle ∧
    serving.slot .one = none := ⟨⟨rfl, rfl, rfl⟩, rfl, rfl, rfl⟩

theorem witness_ChangeIsRoundedAndCreditActsAtTheDue :
    (2 * (712 % 5) < 5 ∧ 5 ≤ 2 * (713 % 5) ∧ 10 ≤ 2 * (715 % 10) ∧ (10 : Nat) = 10 ∧
      131070 ≤ 131070) ∧
    ¬(((selling .tendering).sale .one).tendered < ((selling .tendering).sale .one).due) ∧
    (let x := (serving.setSale .one { Sale.idle 6 with state := .tendering, due := 25 }).sale .one;
      x.tendered < x.due ∧ x.due ≤ x.tendered + 25 ∧ x.autoSettle = false ∧
      roundChange serving.limits.roundingUnit (x.tendered + 25 - x.due) = 0) ∧
    (let x := (serving.setSale .one { Sale.idle 6 with
        state := .tendering, due := 25, autoSettle := true }).sale .one;
      x.tendered < x.due ∧ x.autoSettle = true ∧
      roundChange serving.limits.roundingUnit (x.tendered + 26 - x.due) ≠ 0) := by decide

theorem witness_SettleClosesOrAsksForAPlan :
    (selling .tendering).takes (.lane .one) ∧ ((selling .tendering).sale .one).state = .tendering ∧
    ¬((selling .tendering).sale .one).tendered < ((selling .tendering).sale .one).due :=
  ⟨⟨rfl, rfl, rfl⟩, rfl, by decide⟩

theorem witness_CancelClosesOrRefunds :
    (selling .tendering).takes (.lane .one) ∧ (selling .planning).takes (.lane .one) ∧
    ((selling .planning).sale .one).targetKind = .change :=
  ⟨⟨rfl, rfl, rfl⟩, ⟨rfl, rfl, rfl⟩, rfl⟩

/-- Lane 1's key turned. -/
def keyed (s : State) : State :=
  { s with pins := { s.pins with keyTurned := s.pins.keyTurned.set .one true } }

theorem witness_HaltDropsWaitingStrokesIntoShortfall :
    (keyed serving).takesKeyed .one ∧ ((keyed serving).sale .one).state ≠ .paying ∧
    (keyed paying).takesKeyed .one ∧ ((keyed paying).sale .one).state = .paying ∧
    ((keyed paying).sale .one).haltPending = false ∧
    (keyed (paying.modSale .one Sale.halt)).takesKeyed .one ∧
    ((keyed (paying.modSale .one Sale.halt)).sale .one).haltPending = true :=
  ⟨⟨⟨rfl, rfl, rfl⟩, rfl⟩, nofun, ⟨⟨rfl, rfl, rfl⟩, rfl⟩, rfl, rfl, ⟨⟨rfl, rfl, rfl⟩, rfl⟩, rfl⟩

theorem witness_CollectClosesAndTheCloseWritesItsRecord :
    (selling .presented).takes (.lane .one) ∧ ((selling .presented).sale .one).state = .presented :=
  ⟨⟨rfl, rfl, rfl⟩, rfl⟩

/-- A PRESENTED sale of Lane 1 with two 500 notes paid, the presenter occupied. -/
def presentedNotes : State :=
  keyed (((selling .presented).modSale .one (fun x => x.setPieces 8 2)).setChutePin .one .note true)

theorem witness_RetractMovesTheBundleToTheNoteCashbox :
    (presentedNotes.takesKeyed .one ∧ (presentedNotes.sale .one).state = .presented ∧
      (presentedNotes.pins.chuteOccupied.get .one).note = true ∧
      (presentedNotes.denom 8).kind = .note ∧ (presentedNotes.sale .one).paidPieces 8 = 2 ∧
      (presentedNotes.box .note).present = true ∧
      (presentedNotes.box .note).count + (presentedNotes.box .note).promised + 2 ≤
        (presentedNotes.box .note).capacity) ∧
    (keyed serving).takesKeyed .one ∧ ((keyed serving).sale .one).state ≠ .presented := by
  refine ⟨⟨⟨⟨rfl, rfl, rfl⟩, rfl⟩, by decide⟩, ⟨⟨rfl, rfl, rfl⟩, rfl⟩, by decide⟩

theorem witness_ReadCompletionEmptiesTheSlot :
    serving.takes (.lane .one) ∧ serving.slot .one = none ∧
    (selling .idle).takes (.lane .one) ∧
    ((selling .idle).setSlot .one (some ((selling .idle).completion .one .paid))).slot .one =
      some ((selling .idle).completion .one .paid) ∧
    ((selling .idle).sale .one).state = .idle :=
  ⟨⟨rfl, rfl, rfl⟩, rfl, ⟨rfl, rfl, rfl⟩, rfl, rfl⟩

theorem witness_SetLaneModeChangesAnIdleLane :
    serving.takes (.lane .one) ∧ serving.takes .office ∧ readMode 3 = none ∧ readMode 2 = some .load ∧
    readMode 0 = some .closed ∧ (0 : Byte).toNat = 0 ∧ 2 < (3 : Byte).toNat :=
  ⟨⟨rfl, rfl, rfl⟩, ⟨rfl, rfl, rfl⟩, by decide⟩

theorem witness_ChutesAndTimerActOnAPresentedSale :
    serving.phase = .running ∧ ((selling .presented).sale .one).state = .presented ∧
    ((selling .presented).pins.chuteOccupied.get .one).set .coin false =
      { coin := false, note := false } ∧
    (((selling .presented).modSale .one (fun x => { x with timer := .running 45 })).sale .one).timer =
      .running 45 := ⟨rfl, rfl, rfl, rfl⟩

theorem witness_ReadsAnswerInTheirLayout :
    (serving.takes (.lane .one) ∧ serving.takes .office) ∧
    (3 < (4 : Byte).toNat ∧ 13 < (14 : Byte).toNat ∧ 1 < (2 : Byte).toNat ∧ 11 < (12 : Byte).toNat) ∧
    (allDenoms.filter serving.used)[0]? = some 0 ∧ officeOrder[0]? = some .recovered ∧
    laneOrder[0]? = some .completionReady ∧
    (paying.pool.chain (.lane .one) .coin)[0]? = some (stroke 0 (.lane .one) 0 2 .running) ∧
    (([(0, 3)] : List (Denom × Nat)))[0]? = some (0, 3) ∧
    (-5 : Int).natAbs < 2 ^ 31 ∧ (-5 * 3 : Int).natAbs < 2 ^ 47 :=
  ⟨⟨⟨rfl, rfl, rfl⟩, rfl, rfl, rfl⟩, by decide⟩

theorem witness_NoticeRequestsActOnTheirOwnPort :
    (serving.takes (.lane .one) ∧ serving.takes .office) ∧
    (0x10 : Byte).toNat < 0x11 ∧ 0x17 < (0x18 : Byte).toNat ∧ 8 < (9 : Byte).toNat :=
  ⟨⟨⟨rfl, rfl, rfl⟩, rfl, rfl, rfl⟩, by decide⟩

theorem witness_SensorReportsChangeTheirPin :
    serving.phase = .running ∧ serving.pins.levelEmpty[(0 : StoreId)] = false ∧
    0 < (serving.store 0).physical ∧ (serving.store 2).physical = 0 ∧
    (serving.setLevelPin 0 true).pins.levelEmpty[(0 : StoreId)] = true := by decide

/-- With both lanes CLOSED, the 5 coin held, index 1 unused, and index 2 a 10 coin nobody holds. -/
def setUp : State := stocked.setDenom 2 { value := 10, kind := .coin, enabled := true }

theorem witness_WriteDenominationChecksThenWrites :
    (serving.takes .office ∧ ¬(serving.mode .one = .closed ∧ serving.mode .two = .closed)) ∧
    (setUp.takes .office ∧ setUp.mode .one = .closed ∧ setUp.mode .two = .closed) ∧
    (readIndex 12 = none ∧ 50000 < 0xC3 * 256 + 0x51 ∧ readKind 2 = none ∧ readFlag 2 = none) ∧
    (readIndex 11 = some 11 ∧ 0xC3 * 256 + 0x50 ≤ 50000 ∧ readKind 1 = some .note ∧
      readFlag 1 = some true) ∧
    (setUp.value 0 = 5 ∧ (setUp.denom 0).kind = .coin) ∧
    ((setUp.store 0).denom = some 0 ∧ (setUp.store 0).physical ≠ 0) ∧
    (setUp.setStore 0 (tube 0 0)).value 0 = 5 ∧
    ∀ k, (setUp.store k).denom ≠ some 2 :=
  ⟨⟨⟨rfl, rfl, rfl⟩, by decide⟩, ⟨⟨rfl, rfl, rfl⟩, rfl, rfl⟩, by decide⟩

theorem witness_WriteClassEntryWritesOneEntry :
    (serving.takes .office ∧ serving.mode .one ≠ .closed) ∧
    (setUp.takes .office ∧ setUp.mode .one = .closed ∧ setUp.mode .two = .closed) ∧
    (readKind 2 = none ∧ 62 < (63 : Byte).toNat ∧ readIndexOrNone 12 = none) ∧
    (readKind 0 = some .coin ∧ (62 : Byte).toNat = (62 : ClassCode).val ∧
      readIndexOrNone 0xFF = some none ∧ readIndexOrNone 0 = some (some 0)) ∧
    (setUp.value 1 = 0 ∧ (setUp.denom 8).kind ≠ .coin ∧ setUp.value 0 ≠ 0) :=
  ⟨⟨⟨rfl, rfl, rfl⟩, by decide⟩, ⟨⟨rfl, rfl, rfl⟩, rfl, rfl⟩, by decide⟩

theorem witness_AssignStoreWritesAnEmptyStore :
    (serving.takes .office ∧ serving.mode .one ≠ .closed) ∧
    (setUp.takes .office ∧ setUp.mode .one = .closed ∧ setUp.mode .two = .closed) ∧
    (readTwoFlags 4 = none ∧ readTwoFlags 3 = some (true, true) ∧ 4095 < 0x10 * 256 + 0 ∧
      0x0F * 256 + 0xFF ≤ 4095) ∧
    ((setUp.store 0).physical ≠ 0 ∧ (setUp.store 2).physical = 0 ∧ (setUp.store 2).fills = [] ∧
      (setUp.store 2).state ≠ .paying) ∧
    (setUp.value 2 ≠ 0 ∧ (setUp.denom 2).kind = .coin ∧ setUp.value 1 = 0) ∧
    (setUp.setStore 2 { tube 0 0 with state := .paying }).mode .one = .closed :=
  ⟨⟨⟨rfl, rfl, rfl⟩, by decide⟩, ⟨⟨rfl, rfl, rfl⟩, rfl, rfl⟩, by decide⟩

theorem witness_WriteLimitsClampsEveryValue :
    (serving.takes .office ∧ serving.mode .one ≠ .closed) ∧
    setUp.takes .office ∧ setUp.mode .one = .closed ∧ setUp.mode .two = .closed :=
  ⟨⟨⟨rfl, rfl, rfl⟩, by decide⟩, ⟨rfl, rfl, rfl⟩, rfl, rfl⟩

theorem witness_ProfileIsWrittenAndCommitted :
    serving.takes .office ∧ 11 < (12 : Byte).toNat ∧ (11 : Byte).toNat = (11 : Denom).val ∧
    serving.armed = false ∧ { serving with armed := true }.armed = true ∧
    serving.skimLive = false ∧ (serving.sale .one).state = .idle ∧
    (paying.takes .office ∧ paying.armed = false ∧ (paying.sale .one).state ≠ .idle) :=
  ⟨⟨rfl, rfl, rfl⟩, by decide, by decide, rfl, rfl, by decide, rfl, ⟨rfl, rfl, rfl⟩, by decide⟩

theorem witness_StoreServiceFollowsTheStoreState :
    serving.takes .office ∧ 11 < (12 : Byte).toNat := ⟨⟨rfl, rfl, rfl⟩, by decide⟩

theorem witness_DeclareCountExchangesTheCount :
    serving.takes .office ∧ 11 < (12 : Byte).toNat ∧ (0 : Byte).toNat = (0 : StoreId).val ∧
    ((serving.store 0).state = .ready ∧ (serving.store 0).reserved = 0 ∧
      (serving.store 0).fills = [] ∧ (serving.store 0).capacity < 0 * 256 + 21 ∧
      0 * 256 + 20 ≤ (serving.store 0).capacity ∧ (serving.store 0).physical < 65536) ∧
    (serving.store 2).state = .disabled := ⟨⟨rfl, rfl, rfl⟩, by decide⟩

/-- The coin cashbox back after an exchange. -/
def exchanged : State := serving.modBox .coin (fun b => { b with stage := .exchanged })

theorem witness_CashboxIsEmptiedAfterItsExchange :
    serving.phase = .running ∧ serving.takes .office ∧ 1 < (2 : Byte).toNat ∧
    (serving.box .coin).stage = .none ∧ exchanged.takes .office ∧
    (exchanged.box .coin).present = true ∧ (exchanged.box .coin).stage = .exchanged :=
  ⟨rfl, ⟨rfl, rfl, rfl⟩, by decide, rfl, ⟨rfl, rfl, rfl⟩, rfl, rfl⟩

theorem witness_SkimIsPlacedAndStopped :
    (serving.takes .office ∧ serving.planner.waitingSkim = none ∧ serving.jobInWork = none ∧
      serving.pool.chain .office .coin = [] ∧ serving.pool.chain .office .note = []) ∧
    (paying.takes .office ∧ paying.pool.chain .office .coin ≠ []) ∧ 11 < (12 : Byte).toNat :=
  ⟨⟨⟨rfl, rfl, rfl⟩, rfl, rfl, rfl, rfl⟩, ⟨⟨rfl, rfl, rfl⟩, by decide⟩, by decide⟩

theorem witness_ShiftIsClosedAndCurrencyCleared :
    (paying.takes .office ∧ paying.pool.records ≠ []) ∧
    (serving.takes .office ∧ (∀ k, (serving.store k).fills = []) ∧ serving.pool.records = [] ∧
      serving.planner.work = none ∧ serving.planner.waitingSkim = none) ∧
    (stocked.takes .office ∧ stocked.mode .one = .closed ∧ stocked.skimLive = false ∧
      stocked.holdings 0 ≠ 0) ∧
    (State.reset.takes .office ∧ ∀ d, State.reset.holdings d = 0) :=
  ⟨⟨⟨rfl, rfl, rfl⟩, by decide⟩, ⟨⟨rfl, rfl, rfl⟩, by decide⟩, ⟨⟨rfl, rfl, rfl⟩, by decide⟩,
    ⟨⟨rfl, rfl, rfl⟩, by decide⟩⟩

/-- Lane 1's sale in TENDERING with a 5 coin latched at its coin head. -/
def latchedReport (x : SaleState) : State :=
  ({ (selling x).setClass .coin 10 (some 0) with
      active := Vector.replicate 12 { low := 0, target := 0, high := 15 } }).setHead .one .coin
    { latch := some 10, answer := none }

/-- The same with S0 and S1 full, and with the coin cashbox away. -/
def fullReport : State :=
  ((latchedReport .tendering).setStore 0 (tube 0 15)).setStore 1 (tube 0 15)

theorem witness_ReportIsLatchedAndRouted :
    (serving.phase = .running ∧ (serving.head .one .coin).latch = none) ∧
    ((latchedReport .tendering).phase = .running ∧
      ((latchedReport .tendering).head .one .coin).latch = some 10 ∧
      ((latchedReport .tendering).classes.get .coin)[(10 : ClassCode)] = some 0 ∧
      (latchedReport .tendering).enabled 0 = true) ∧
    (serving.classes.get .coin)[(11 : ClassCode)] = none ∧
    (((latchedReport .tendering).sale .one).state = .tendering ∧
      (latchedReport .tendering).candidate .serve 0 0 = true ∧
      (latchedReport .tendering).chosenStore .serve 0 = some 0) ∧
    ((latchedReport .idle).sale .one).state = .idle ∧
    (fullReport.chosenStore .serve 0 = none ∧ 0 < fullReport.space .coin) ∧
    (fullReport.modBox .coin (fun b => { b with present := false })).space .coin = 0 := by decide

/-- A fill pending on S0. -/
def filling (n : Nat) : State :=
  serving.setStore 0 { tube 0 n with
    fills := [{ denom := 0, counter := .accepted, windowMs := 120 }] }

theorem witness_FillIsConfirmedOrExpires :
    ((filling 10).phase = .running ∧ ((filling 10).store 0).fills =
      [{ denom := 0, counter := .accepted, windowMs := 120 }] ∧
      ((filling 10).store 0).state = .ready ∧
      ((filling 19).store 0).physical < ((filling 19).store 0).capacity ∧
      ((filling 20).store 0).capacity ≤ ((filling 20).store 0).physical) ∧
    ((serving.store 0).fills = [] ∧ (serving.store 0).denom = some 0 ∧
      (serving.store 0).state ≠ .jammed ∧ (serving.store 0).state ≠ .absent ∧
      (serving.store 0).physical < (serving.store 0).capacity ∧
      ((serving.setStore 0 (tube 0 20)).store 0).capacity ≤
        ((serving.setStore 0 (tube 0 20)).store 0).physical) ∧
    (serving.store 2).denom = none := by decide

theorem witness_StoreIsMarkedAndStrokesLowered :
    (serving.store 0).state = .ready ∧ (paying.store 0).state = .paying ∧
    ((serving.store 2).state ≠ .ready ∧ (serving.store 2).state ≠ .paying) ∧
    paying.pool.records.filter (fun q => q.slot == 1) = [stroke 1 (.lane .two) 0 1 .waiting] := by
  decide

theorem witness_CassetteLeavesAndReturns :
    serving.phase = .running ∧ (serving.store 0).state ≠ .absent ∧ (paying.store 0).state ≠ .absent ∧
    ((serving.setStore 0 { tube 0 0 with state := .absent }).store 0).state = .absent := by decide

theorem witness_CashboxOutStopsItsSkim :
    serving.phase = .running ∧
    (∀ r ∈ paying.pool.records, r.owner = .office → r.path = .coin → r.state ≠ .running) ∧
    ((skimming (.driving 0 560)).runningSkim .coin = some (stroke 0 .office 0 2 .running) ∧
      ((skimming (.driving 0 560)).store 0).channel = .driving 0 560) ∧
    ((skimming (.afterRun 0 200)).runningSkim .coin = some (stroke 0 .office 0 2 .running) ∧
      ((skimming (.afterRun 0 200)).store 0).channel = .afterRun 0 200) := by decide

/-- A diverter move to the coin cup of Lane 2 in progress. -/
def moving (s : State) : State :=
  s.modPath .coin (fun a => { a with position := none, move := some { dest := .cup .two, ms := 150 } })

theorem witness_DiverterArrivesAndTheStrokeStarts :
    (stocked.phase = .running ∧ (stocked.path .coin).availability = .rehoming 400) ∧
    (((moving serving).path .coin).move = some { dest := .cup .two, ms := 150 } ∧
      ((moving serving).path .coin).availability = .available ∧
      ((moving serving).path .coin).latch = none) ∧
    (((moving latched).path .coin).latch = some { slot := 0, store := 0, dest := .cup .one } ∧
      ∀ r ∈ (moving latched).pool.records, r.path = .coin → r.state ≠ .running) ∧
    ((latched.path .coin).latch = some { slot := 0, store := 0, dest := .cup .one } ∧
      latched.record? 0 = some (stroke 0 (.lane .one) 0 2 .waiting) ∧
      (latched.path .coin).position = some (.cup .one) ∧ (latched.path .coin).move = none ∧
      (latched.store 0).state = .ready ∧ (latched.store 0).fills = []) ∧
    (moving latched).record? 0 = some (stroke 0 (.lane .one) 0 2 .waiting) ∧
    (let s := latched.modPath .coin (fun a => { a with position := some .coinBox })
     (s.path .coin).latch = some { slot := 0, store := 0, dest := .cup .one } ∧
     (s.path .coin).availability = .available ∧ (s.path .coin).move = none ∧
     (s.path .coin).position ≠ some (.cup .one) ∧
     ∀ r ∈ s.pool.records, r.path = .coin → r.state ≠ .running) := by decide

theorem witness_PiecePulseCountsADrivenPiece :
    (paying.phase = .running ∧ (paying.store 0).channel = .driving 0 560 ∧
      paying.record? 0 = some (stroke 0 (.lane .one) 0 2 .running) ∧
      (paying.store 0).denom = some 0) ∧
    ((skimming (.driving 0 560)).store 0).channel = .driving 0 560 ∧
    (skimming (.driving 0 560)).record? 0 = some (stroke 0 .office 0 2 .running) ∧
    ((skimming (.driving 0 560)).store 0).denom = some 0 := by decide

/-- A state with S0 counted down to a number of pieces. -/
def countedTo (s : State) (n : Nat) : State := s.modStore 0 (fun x => { x with physical := n })

/-- The coin cashbox at its capacity. -/
def brimful (s : State) (capacity promised : Nat) : State :=
  s.modBox .coin (fun b => { (b.setCount 0 (capacity - promised)) with
    capacity := capacity, promised := promised })

theorem witness_PiecesBeyondTheCount :
    (afterRun.phase = .running ∧ (afterRun.store 0).channel = .afterRun 0 200 ∧
      afterRun.record? 0 = some (stroke 0 (.lane .one) 0 2 .running) ∧
      (afterRun.store 0).denom = some 0 ∧
      (∀ q ∈ afterRun.pool.records, q.state = .waiting → 0 < q.count)) ∧
    ((afterRun.store 0).reserved < (afterRun.store 0).physical ∧
      ((countedTo afterRun 2).store 0).physical ≤ ((countedTo afterRun 2).store 0).reserved ∧
      (afterRun.pool.records.filter (waitingOn 0)).getLast? = some (stroke 2 .office 0 1 .waiting)) ∧
    (((countedTo afterRun 0).store 0).physical = 0 ∧
      ((countedTo afterRun 0).store 0).state = .paying) ∧
    ((skimming (.afterRun 0 200)).record? 0 = some (stroke 0 .office 0 2 .running) ∧
      ((skimming (.afterRun 0 200)).store 0).denom = some 0) ∧
    ((brimful (skimming (.afterRun 0 200)) 40 1).box .coin).count = 39 ∧
    ((brimful (skimming (.afterRun 0 200)) 8000 0).box .coin).promised = 0 ∧
    ((serving.store 0).channel = .idle ∧ (serving.store 0).denom = some 0 ∧
      (serving.store 0).state = .ready) := by decide

theorem witness_StrokeEndsNormallyOrJams :
    afterRun.phase = .running ∧ (afterRun.store 0).channel = .afterRun 0 200 ∧
    (afterRun.store 0).marked = false ∧
    ((afterRun.modStore 0 (fun x => { x with marked := true })).store 0).marked = true ∧
    (paying.store 0).channel = .driving 0 560 ∧
    paying.pool.records.filter (fun q => q.slot == 0) = [stroke 0 (.lane .one) 0 2 .running] ∧
    (∀ r ∈ (skimming (.driving 0 560)).pool.records, r.slot ≠ 0 → waitingOn 0 r = false) := by decide

theorem witness_LanePlanIsTheBestOfItsSearch :
    (∀ d, ((stocked.snapshot (.lane .one .settle) 20).denom d).enabled = true →
      0 < ((stocked.snapshot (.lane .one .settle) 20).denom d).value) ∧
    (∀ k d, ((stocked.snapshot (.lane .one .settle) 20).store k).denom = some d →
      ((stocked.snapshot (.lane .one .settle) 20).denom d).kind = storeKind k) := by decide

/-- A settle of Lane 1 for 20 in work. -/
def settling (attempt : Nat) : State := working (selling .planning) (.lane .one .settle) attempt

/-- The same with every store jammed since the snapshot. -/
def jammedSince (s : State) : State :=
  { s with stores := mapTable (fun x : Store => { x with state := .jammed }) s.stores }

theorem witness_ReservationIsMadeAndSettleCompletes :
    (10 ≤ (serving.store 0).free ∧ (serving.store 0).free < 11 ∧ (serving.store 2).state ≠ .ready ∧
      (serving.store 2).state ≠ .paying) ∧
    [({ store := 0, count := 4 } : Planned)].length ≤ (settling 1).pool.free.length ∧
    ((settling 1).phase = .running ∧ ((settling 1).sale .one).cancelPending = false) ∧
    (∃ w, (settling 1).planner.work = some w ∧ w.job = .lane .one .settle ∧
      (w.snap.lanePlan serving.limits .settle).shortfall = 0 ∧
      (w.snap.lanePlan serving.limits .settle).strokes = [{ store := 0, count := 4 }] ∧
      ((settling 1).reserveAll [{ store := 0, count := 4 }]).isSome = true ∧
      (jammedSince (settling 1)).reserveAll [{ store := 0, count := 4 }] = none) ∧
    (∃ w, (working (jammedSince (selling .planning)) (.lane .one .settle) 3).planner.work = some w ∧
      3 ≤ w.attempt ∧ (w.snap.lanePlan serving.limits .settle).strokes = [] ∧
      0 < (w.snap.lanePlan serving.limits .settle).shortfall ∧ w.snap.acceptShort = false) := by
  refine ⟨by decide, by decide, by decide, ⟨_, rfl, by decide⟩, ⟨_, rfl, by decide⟩⟩

theorem witness_RefundAndMakeupCompleteByTheirPlan :
    (∃ w, (working (selling .planning) (.lane .one .refund) 1).planner.work = some w ∧
      w.job = .lane .one .refund ∧
      (w.snap.lanePlan serving.limits .refund).strokes = [{ store := 0, count := 4 }] ∧
      w.attempt < 3) ∧
    (∃ w, (working (selling .paying) (.lane .one .makeup) 3).planner.work = some w ∧
      w.job = .lane .one .makeup ∧
      (w.snap.lanePlan serving.limits .makeup).strokes = [{ store := 0, count := 4 }] ∧
      3 ≤ w.attempt) ∧
    ((selling .paying).sale .one).haltPending = false ∧
    (((selling .paying).modSale .one Sale.halt).sale .one).haltPending = true ∧
    ((selling .paying).reserveAll [{ store := 0, count := 4 }]).isSome = true ∧
    (jammedSince (selling .paying)).reserveAll [{ store := 0, count := 4 }] = none ∧
    [({ store := 0, count := 4 } : Planned)].length ≤ serving.pool.free.length := by
  refine ⟨⟨_, rfl, by decide⟩, ⟨_, rfl, by decide⟩, by decide⟩

theorem witness_SkimCompletesByItsPlan :
    (∀ k d, ((serving.snapshot (.skim .toTarget) 0).store k).denom = some d →
      ((serving.snapshot (.skim .toTarget) 0).denom d).kind = storeKind k) ∧
    (let n := serving.snapshot (.skim .toTarget) 0
     (∀ d e, (n.denom d).enabled = true → (n.denom e).enabled = true →
       (n.denom d).kind = (n.denom e).kind → (n.denom d).value = (n.denom e).value → d = e) ∧
     (n.denom 0).enabled = true ∧ (n.denom 1).enabled = false) ∧
    (∃ w, (working serving (.skim .toTarget) 1).planner.work = some w ∧ w.stopped = false ∧
      w.snap.skimPlan .toTarget =
        { strokes := [{ store := 0, count := 10 }, { store := 1, count := 10 },
            { store := 8, count := 5 }], coins := 20, notes := 5, shortfall := 0 } ∧
      w.attempt < 3) ∧
    20 ≤ serving.space .coin ∧ 5 ≤ serving.space .note ∧
    ((serving.reserveAll [{ store := 0, count := 10 }]).isSome = true) ∧
    (∃ w, (working (jammedSince serving) (.skim .toTarget) 3).planner.work = some w ∧
      (w.snap.skimPlan .toTarget).strokes = []) := by
  refine ⟨by decide, by decide, ⟨_, rfl, by decide⟩, by decide, by decide, by decide,
    ⟨_, rfl, by decide⟩⟩

end Sys2Proof.Tests
end

section
/-! SUPPORT. Sums over stroke records: how they split, and how they follow a change of one record. -/

namespace Sys2Proof.Machine

theorem sumOver_eq_sum_ite (xs : List Stroke) (chosen : Stroke → Bool) (pieces : Stroke → Nat) :
    sumOver xs chosen pieces = (xs.map (fun r => if chosen r then pieces r else 0)).sum := by
  induction xs with
  | nil => rfl
  | cons r xs ih => rw [sumOver_cons, ih, List.map_cons, List.sum_cons]

theorem State.sumStrokes_eq (s : State) (chosen : Stroke → Bool) (pieces : Stroke → Nat) :
    s.sumStrokes chosen pieces = sumOver s.pool.records chosen pieces := rfl

theorem sumOver_single (r : Stroke) (chosen : Stroke → Bool) (pieces : Stroke → Nat) :
    sumOver [r] chosen pieces = if chosen r then pieces r else 0 := sumOver_cons r [] chosen pieces

theorem sumOver_append (xs ys : List Stroke) (chosen : Stroke → Bool) (pieces : Stroke → Nat) :
    sumOver (xs ++ ys) chosen pieces = sumOver xs chosen pieces + sumOver ys chosen pieces := by
  simp [sumOver]

/-- A sum sees of its records only which it chooses and what they weigh. -/
theorem sumOver_congr {xs : List Stroke} {c c' : Stroke → Bool} {p p' : Stroke → Nat}
    (h : ∀ r ∈ xs, (if c r then p r else 0) = if c' r then p' r else 0) :
    sumOver xs c p = sumOver xs c' p' := by
  simp only [sumOver_eq_sum_ite]
  exact congrArg List.sum (List.map_congr_left h)

/-- The pieces of the records that leave and of those that stay are the pieces of all. -/
theorem sumOver_split (xs : List Stroke) (leaves : Stroke → Bool) (chosen : Stroke → Bool)
    (pieces : Stroke → Nat) :
    sumOver xs chosen pieces = sumOver xs chosen (fun r => if leaves r then pieces r else 0) +
      sumOver (xs.filter (fun r => !leaves r)) chosen pieces := by
  induction xs with
  | nil => rfl
  | cons r xs ih =>
    cases hr : leaves r <;> simp only [sumOver_cons, ih, hr, List.filter_cons] <;> simp [sumOver_cons] <;>
      omega

theorem sumOver_eq_zero {xs : List Stroke} {chosen : Stroke → Bool} {pieces : Stroke → Nat}
    (h : ∀ r ∈ xs, chosen r = true → pieces r = 0) : sumOver xs chosen pieces = 0 := by
  rw [sumOver_eq_sum_ite, List.sum_eq_zero]
  intro n hn
  obtain ⟨r, hr, rfl⟩ := List.mem_map.mp hn
  split
  · exact h r hr ‹_›
  · rfl

theorem le_sumOver {xs : List Stroke} {chosen : Stroke → Bool} {r : Stroke} (pieces : Stroke → Nat)
    (hr : r ∈ xs) (hc : chosen r = true) : pieces r ≤ sumOver xs chosen pieces :=
  List.le_sum_of_mem (List.mem_map_of_mem (List.mem_filter.mpr ⟨hr, hc⟩))

/-- In a list whose slots are distinct, a record is known by its slot. -/
theorem eq_of_slot_eq {xs : List Stroke} (nodup : (xs.map (·.slot)).Nodup) {r q : Stroke}
    (hr : r ∈ xs) (hq : q ∈ xs) (h : q.slot = r.slot) : q = r :=
  List.inj_on_of_nodup_map nodup hq hr h

/-- A change of one record moves a sum by what that record weighs. -/
theorem sumOver_change_one {xs : List Stroke} (nodup : (xs.map (·.slot)).Nodup) {r : Stroke}
    (hr : r ∈ xs) (f : Stroke → Stroke) {c c' : Stroke → Bool} {p p' : Stroke → Nat}
    (hother : ∀ q ∈ xs, q.slot ≠ r.slot → (if c' q then p' q else 0) = if c q then p q else 0) :
    sumOver (xs.map (fun q => if q.slot = r.slot then f q else q)) c' p' + (if c r then p r else 0) =
      sumOver xs c p + if c' (f r) then p' (f r) else 0 := by
  induction xs with
  | nil => cases hr
  | cons x xs ih =>
    obtain ⟨hx, nodup⟩ := List.nodup_cons.mp nodup
    simp only [List.map_cons, sumOver_cons]
    rcases List.mem_cons.mp hr with rfl | hr
    · have hne : ∀ q ∈ xs, q.slot ≠ r.slot := fun q hq h => hx (List.mem_map.mpr ⟨q, hq, h⟩)
      have hmap : xs.map (fun q => if q.slot = r.slot then f q else q) = xs :=
        (List.map_congr_left (fun q hq => if_neg (hne q hq))).trans (List.map_id xs)
      rw [hmap, sumOver_congr (fun q hq => hother q (List.mem_cons_of_mem _ hq) (hne q hq)), if_pos rfl]
      omega
    · have hne : x.slot ≠ r.slot := fun h => hx (List.mem_map.mpr ⟨r, hr, h.symm⟩)
      have := ih nodup hr (fun q hq => hother q (List.mem_cons_of_mem _ hq))
      rw [if_neg hne, hother x (List.mem_cons_self ..) hne]
      omega

end Sys2Proof.Machine
end

section
/-! SUPPORT. The stock that live strokes hold: the agreement of slots and channels it rests on, and what keeps
it. -/

namespace Sys2Proof.Machine

/-! ### Slots and channels -/

/-- Live strokes and channels agree by their slots (R95, R99, R118): the part of `State.strokesFollow` and
`State.slotsPartition` that the stock figures rest on. -/
structure State.Linked (s : State) : Prop where
  nodup : (s.pool.records.map (·.slot)).Nodup
  live : ∀ r ∈ s.pool.records, r.state = .waiting ∨
    (r.state = .running ∧ (s.store r.store).channel.slot? = some r.slot)
  runs : ∀ k slot, (s.store k).channel.slot? = some slot → (s.store k).state = .paying ∧
    ∃ r ∈ s.pool.records, r.slot = slot ∧ r.store = k ∧ r.state = .running

theorem freeSlots_nodup : freeSlots.Nodup := by decide

theorem State.slotsPartition.nodup {s : State} (h : s.slotsPartition) :
    (s.pool.free ++ s.pool.records.map (·.slot)).Nodup := h.nodup_iff.mpr freeSlots_nodup

theorem State.linked_of_follow {s : State} (partition : s.slotsPartition) (follow : s.strokesFollow) :
    s.Linked := by
  obtain ⟨live, runs, -, -⟩ := follow
  refine ⟨(List.nodup_append.mp partition.nodup).2.1, fun r hr => ?_, runs⟩
  exact (live r hr).imp_right (fun h => ⟨h.1, h.2.2⟩)

namespace State.Linked

variable {s : State}

/-- The record a channel's slot names is the running one of its store. -/
theorem of_slot (h : s.Linked) {k : StoreId} {r : Stroke} (hr : r ∈ s.pool.records)
    (hs : (s.store k).channel.slot? = some r.slot) : r.store = k ∧ r.state = .running := by
  obtain ⟨-, q, hq, hslot, hstore, hstate⟩ := h.runs k r.slot hs
  obtain rfl := eq_of_slot_eq h.nodup hr hq hslot
  exact ⟨hstore, hstate⟩

theorem waiting_iff (h : s.Linked) {r : Stroke} (hr : r ∈ s.pool.records) :
    r.state = .waiting ↔ (s.store r.store).channel.runs r = false := by
  simp only [Channel.runs, beq_eq_false_iff_ne]
  constructor
  · intro hw hs
    simpa [hw] using (h.of_slot hr hs).2
  · intro hs
    exact (h.live r hr).resolve_right (fun hl => hs hl.2)

theorem running_iff (h : s.Linked) {r : Stroke} (hr : r ∈ s.pool.records) :
    r.state = .running ↔ (s.store r.store).channel.runs r = true := by
  rw [← Bool.not_eq_false, ← h.waiting_iff hr]
  rcases h.live r hr with hw | ⟨hw, -⟩ <;> simp [hw]

/-- A store that is not PAYING runs nothing: every stroke on it is WAITING. -/
theorem waiting_of_not_paying (h : s.Linked) {r : Stroke} (hr : r ∈ s.pool.records)
    (hp : (s.store r.store).state ≠ .paying) : r.state = .waiting :=
  (h.live r hr).resolve_right (fun hl => hp (h.runs _ _ hl.2).1)

/-- A WAITING stroke holds all that is left of its count. -/
theorem heldBy_waiting (h : s.Linked) {r : Stroke} (hr : r ∈ s.pool.records)
    (hw : r.state = .waiting) : s.heldBy r = r.count - r.delivered := by
  simp [State.heldBy, (h.waiting_iff hr).mp hw]

theorem channel_idle_of_not_paying (h : s.Linked) {k : StoreId} (hp : (s.store k).state ≠ .paying) :
    (s.store k).channel = .idle := by
  cases hc : (s.store k).channel with
  | idle => rfl
  | driving slot ms => exact absurd (h.runs k slot (by simp [hc, Channel.slot?])).1 hp
  | afterRun slot ms => exact absurd (h.runs k slot (by simp [hc, Channel.slot?])).1 hp

end State.Linked

/-- What a change of the tables leaves of the agreement: slots, stores and states of the records, channels and
states of the stores. -/
theorem State.Linked.of_same {s t : State} (h : s.Linked)
    (hrec : t.pool.records.map (fun r => (r.slot, r.store, r.state)) =
      s.pool.records.map (fun r => (r.slot, r.store, r.state)))
    (hst : ∀ k, (t.store k).channel.slot? = (s.store k).channel.slot? ∧
      ((s.store k).channel.slot? ≠ none → (t.store k).state = (s.store k).state)) : t.Linked := by
  have hmem : ∀ r ∈ t.pool.records, ∃ q ∈ s.pool.records,
      q.slot = r.slot ∧ q.store = r.store ∧ q.state = r.state := by
    intro r hr
    have : (r.slot, r.store, r.state) ∈ s.pool.records.map (fun r => (r.slot, r.store, r.state)) :=
      hrec ▸ List.mem_map_of_mem (f := fun r : Stroke => (r.slot, r.store, r.state)) hr
    simpa using this
  have hmem' : ∀ r ∈ s.pool.records, ∃ q ∈ t.pool.records,
      q.slot = r.slot ∧ q.store = r.store ∧ q.state = r.state := by
    intro r hr
    have : (r.slot, r.store, r.state) ∈ t.pool.records.map (fun r => (r.slot, r.store, r.state)) :=
      hrec ▸ List.mem_map_of_mem (f := fun r : Stroke => (r.slot, r.store, r.state)) hr
    simpa using this
  refine ⟨?_, fun r hr => ?_, fun k slot hs => ?_⟩
  · have := congrArg (List.map Prod.fst) hrec
    simp only [List.map_map] at this
    exact (this ▸ h.nodup : (t.pool.records.map (·.slot)).Nodup)
  · obtain ⟨q, hq, e1, e2, e3⟩ := hmem r hr
    rw [(hst r.store).1, ← e1, ← e2, ← e3]
    exact h.live q hq
  · rw [(hst k).1] at hs
    obtain ⟨hp, q, hq, e1, e2, e3⟩ := h.runs k slot hs
    obtain ⟨r, hr, f1, f2, f3⟩ := hmem' q hq
    exact ⟨((hst k).2 (by simp [hs])).trans hp, r, hr, f1.trans e1, f2.trans e2, f3.trans e3⟩

/-! ### The parts of the stock invariant -/

/-- Reserved and promised are what the live strokes hold (R17, R21). -/
structure State.FiguresHold (s : State) : Prop where
  reserved : ∀ k, (s.store k).reserved = s.sumStrokes (fun r => r.store == k) s.heldBy
  promised : ∀ k, (s.box k).promised =
    s.sumStrokes (fun r => r.owner == .office && r.path == k) s.heldBy

/-- A record's place and figures (R97), a count of 0 allowed as it stands inside an event that lowers it. -/
def State.recordFits (s : State) (r : Stroke) : Prop :=
  r.path = storeKind r.store ∧
  ((s.store r.store).state = .ready ∨ (s.store r.store).state = .paying) ∧
  (r.state = .waiting → r.delivered = 0) ∧
  (r.state = .running → r.delivered ≤ r.count ∧
    ((s.store r.store).channel.holdsNothing = false → r.delivered < r.count))

/-- The invariant of the stock, part by part. -/
structure State.Stocked (s : State) : Prop where
  figures : s.FiguresHold
  stores : ∀ k, (s.store k).reserved ≤ (s.store k).physical
  boxes : ∀ k, (s.box k).count + (s.box k).promised ≤ (s.box k).capacity
  records : ∀ r ∈ s.pool.records, s.recordFits r
  whole : ∀ r ∈ s.pool.records, r.state = .waiting → 0 < r.count

theorem State.stockHeld_iff (s : State) : s.stockHeld ↔ s.Stocked := by
  constructor
  · rintro ⟨hs, hb, hr⟩
    refine ⟨⟨fun k => (hs k).1, fun k => (hb k).1⟩, fun k => (hs k).2, fun k => (hb k).2,
      fun r h => ?_, fun r h hw => ?_⟩
    · obtain ⟨h1, h2, h3, h4⟩ := hr r h
      exact ⟨h1, h2, fun hw => (h3 hw).1, h4⟩
    · exact ((hr r h).2.2.1 hw).2
  · rintro ⟨⟨hres, hpro⟩, hs, hb, hr, hw⟩
    refine ⟨fun k => ⟨hres k, hs k⟩, fun k => ⟨hpro k, hb k⟩, fun r h => ?_⟩
    obtain ⟨h1, h2, h3, h4⟩ := hr r h
    exact ⟨h1, h2, fun hs => ⟨h3 hs, hw r h hs⟩, h4⟩

/-! ### What the figures follow -/

/-- The figures stand where every record weighs what it did and the counts stand. -/
theorem State.FiguresHold.of_same {s t : State} (h : s.FiguresHold)
    (hrec : t.pool.records = s.pool.records) (hheld : ∀ r ∈ s.pool.records, t.heldBy r = s.heldBy r)
    (hst : ∀ k, (t.store k).reserved = (s.store k).reserved)
    (hbox : ∀ k, (t.box k).promised = (s.box k).promised) : t.FiguresHold := by
  have hsum : ∀ c, t.sumStrokes c t.heldBy = s.sumStrokes c s.heldBy := by
    intro c
    simp only [State.sumStrokes, hrec]
    exact sumOver_congr (fun r hr => by rw [hheld r hr])
  exact ⟨fun k => by rw [hst, h.reserved, hsum], fun k => by rw [hbox, h.promised, hsum]⟩

/-- What a record holds is read off its own figures and its store's channel. -/
theorem State.heldBy_congr {s t : State} {r : Stroke}
    (h : (t.store r.store).channel = (s.store r.store).channel) : t.heldBy r = s.heldBy r := by
  simp [State.heldBy, h]

theorem State.recordFits_congr {s t : State} {r : Stroke}
    (hc : (t.store r.store).channel.holdsNothing = (s.store r.store).channel.holdsNothing)
    (hs : (t.store r.store).state = (s.store r.store).state) : t.recordFits r ↔ s.recordFits r := by
  simp [State.recordFits, hc, hs]

/-- Records that end give back exactly what they hold. -/
theorem State.FiguresHold.endStrokes {s : State} (h : s.FiguresHold)
    {how : Stroke → Option (Ending × Nat)}
    (hhow : ∀ r ∈ s.pool.records, ∀ x, how r = some x → x.2 = s.heldBy r) :
    (s.endStrokes how).FiguresHold := by
  obtain ⟨hst, hbox, -, -, -⟩ := s.endStrokes_givesBack how
  obtain ⟨hrec, -⟩ := s.endStrokes_pool how
  have hheld : ∀ r, (s.endStrokes how).heldBy r = s.heldBy r := fun r =>
    State.heldBy_congr (by rw [hst])
  have hsum : ∀ c, (s.endStrokes how).sumStrokes c (s.endStrokes how).heldBy =
      s.sumStrokes c s.heldBy - s.sumStrokes c (fun r => ((how r).map (·.2)).getD 0) := by
    intro c
    simp only [State.sumStrokes, hrec]
    have hpieces : sumOver s.pool.records c (fun r => ((how r).map (·.2)).getD 0) =
        sumOver s.pool.records c (fun r => if (how r).isSome then s.heldBy r else 0) := by
      refine sumOver_congr (fun r hr => ?_)
      cases hx : how r with
      | none => rfl
      | some x => simp [hhow r hr x hx]
    have hkeep : sumOver (s.pool.records.filter (fun r => !(how r).isSome)) c (s.endStrokes how).heldBy =
        sumOver (s.pool.records.filter (fun r => !(how r).isSome)) c s.heldBy :=
      sumOver_congr (fun r _ => by rw [hheld])
    have := sumOver_split s.pool.records (fun r => (how r).isSome) c s.heldBy
    simp only [sumOver] at *
    omega
  exact ⟨fun k => by rw [hst, hsum, h.reserved], fun k => by rw [hbox, hsum, h.promised]⟩

/-- Ending records leaves each store's channel and state. -/
theorem State.store_endStrokes (s : State) (how : Stroke → Option (Ending × Nat)) (k : StoreId) :
    (s.endStrokes how).store k = { s.store k with reserved := ((s.endStrokes how).store k).reserved } := by
  rw [(s.endStrokes_givesBack how).1]

theorem State.recordFits_endStrokes (s : State) (how : Stroke → Option (Ending × Nat)) (r : Stroke) :
    (s.endStrokes how).recordFits r ↔ s.recordFits r :=
  State.recordFits_congr (by rw [s.store_endStrokes]) (by rw [s.store_endStrokes])

theorem State.mem_endStrokes {s : State} {how : Stroke → Option (Ending × Nat)} {r : Stroke} :
    r ∈ (s.endStrokes how).pool.records ↔ r ∈ s.pool.records ∧ how r = none := by
  rw [(s.endStrokes_pool how).1, List.mem_filter]
  simp

theorem State.reserved_endStrokes_le (s : State) (how : Stroke → Option (Ending × Nat)) (k : StoreId) :
    ((s.endStrokes how).store k).reserved ≤ (s.store k).reserved := by
  rw [(s.endStrokes_givesBack how).1]; exact Nat.sub_le ..

theorem State.box_endStrokes_fits {s : State} (how : Stroke → Option (Ending × Nat)) {k : Kind}
    (h : (s.box k).count + (s.box k).promised ≤ (s.box k).capacity) :
    ((s.endStrokes how).box k).count + ((s.endStrokes how).box k).promised ≤
      ((s.endStrokes how).box k).capacity := by
  rw [(s.endStrokes_givesBack how).2.1]; exact (Nat.add_le_add_left (Nat.sub_le ..) _).trans h

/-- The stock follows an event that ends records, each giving back what it holds. -/
theorem State.Stocked.endStrokes {s : State} (h : s.Stocked) {how : Stroke → Option (Ending × Nat)}
    (hhow : ∀ r ∈ s.pool.records, ∀ x, how r = some x → x.2 = s.heldBy r) :
    (s.endStrokes how).Stocked where
  figures := h.figures.endStrokes hhow
  stores k := by
    rw [s.store_endStrokes]; exact (s.reserved_endStrokes_le how k).trans (h.stores k)
  boxes k := State.box_endStrokes_fits how (h.boxes k)
  records r hr := (s.recordFits_endStrokes how r).mpr (h.records r (State.mem_endStrokes.mp hr).1)
  whole r hr := h.whole r (State.mem_endStrokes.mp hr).1

/-! ### A change of one record -/

/-- The record of a slot rewritten, and nothing else of the records. -/
def rewriteSlot (slot : SlotId) (f : Stroke → Stroke) (r : Stroke) : Stroke :=
  if r.slot = slot then f r else r

theorem State.modRecord_records (s : State) (slot : SlotId) (f : Stroke → Stroke) :
    (s.modRecord slot f).pool.records = s.pool.records.map (rewriteSlot slot f) := rfl

/-- The figures follow a change of one record that its store and its cashbox follow. -/
theorem State.FiguresHold.change_one {s t : State} (h : s.FiguresHold) (linked : s.Linked) {r : Stroke}
    (hr : r ∈ s.pool.records) {f : Stroke → Stroke}
    (hrec : t.pool.records = s.pool.records.map (rewriteSlot r.slot f))
    (hf : (f r).store = r.store ∧ (f r).owner = r.owner ∧ (f r).path = r.path)
    (hheld : ∀ q ∈ s.pool.records, q.slot ≠ r.slot → t.heldBy q = s.heldBy q)
    (hst : ∀ k, (t.store k).reserved + (if r.store = k then s.heldBy r else 0) =
      (s.store k).reserved + if r.store = k then t.heldBy (f r) else 0)
    (hbox : ∀ k, (t.box k).promised + (if r.owner = .office ∧ r.path = k then s.heldBy r else 0) =
      (s.box k).promised + if r.owner = .office ∧ r.path = k then t.heldBy (f r) else 0) :
    t.FiguresHold := by
  obtain ⟨e1, e2, e3⟩ := hf
  have hsum : ∀ c : Stroke → Bool, t.sumStrokes c t.heldBy + (if c r then s.heldBy r else 0) =
      s.sumStrokes c s.heldBy + if c (f r) then t.heldBy (f r) else 0 := by
    intro c
    have := sumOver_change_one linked.nodup hr f (c := c) (c' := c) (p := s.heldBy) (p' := t.heldBy)
      (fun q hq hne => by rw [hheld q hq hne])
    simp only [State.sumStrokes, hrec]
    exact this
  constructor
  · intro k
    have := hst k
    have := hsum (fun q => q.store == k)
    simp only [e1, beq_iff_eq] at this
    have := h.reserved k
    omega
  · intro k
    have := hbox k
    have := hsum (fun q => q.owner == .office && q.path == k)
    simp only [e2, e3, Bool.and_eq_true, beq_iff_eq] at this
    have := h.promised k
    omega

end Sys2Proof.Machine
end

section
/-! SUPPORT. One piece given back by a WAITING stroke (R124), and the stock after it. -/

namespace Sys2Proof.Machine

theorem State.askMakeup_withPool (s : State) (p : Pool) (l : Lane) :
    ({ s with pool := p }).askMakeup l = { s.askMakeup l with pool := p } := by
  have h : ({ s with pool := p }).askMakeup l =
      if (s.sale l).haltPending || s.makeupLive l then { s with pool := p }
      else ({ s with pool := p }).placeLane l (some .makeup) := rfl
  rw [h, State.askMakeup]
  by_cases hc : ((s.sale l).haltPending || s.makeupLive l) = true <;> simp only [hc] <;> rfl

/-- What a stroke gives back does not depend on the pool. -/
theorem State.release_withPool (s : State) (p : Pool) (r : Stroke) (n : Nat) :
    ({ s with pool := p }).release r n = { s.release r n with pool := p } := by
  unfold State.release
  cases r.owner with
  | office => rfl
  | lane l =>
    simp only [State.giveBack]
    by_cases hn : n = 0
    · simp only [hn]; rfl
    · simp only [hn, if_false, ← State.askMakeup_withPool]; rfl

/-- Giving back says nothing of the pool. -/
theorem State.givesBackOf_withPool {xs : List Stroke} {s t : State} {pieces : Stroke → Nat}
    (h : State.givesBackOf xs s t pieces) (p : Pool) :
    State.givesBackOf xs s { t with pool := p } pieces := by
  obtain ⟨h1, h2, h3, h4, h5⟩ := h
  refine ⟨h1, h2, h3, h4, ?_⟩
  exact congrArg (fun u : State => { u with pool := p }) h5

/-- One stroke gives back some of its pieces. -/
theorem State.release_givesBackOf (s : State) (r : Stroke) (pieces : Stroke → Nat) :
    State.givesBackOf [r] s (s.release r (pieces r)) pieces := by
  have h := State.givesBackOf_withPool (s.givesBackOf_endRecord r .dropped pieces) s.pool
  have e : { s.endRecord r .dropped (pieces r) with pool := s.pool } = s.release r (pieces r) := by
    simp only [State.endRecord, State.setTally, State.release_withPool]
    have hp : (s.release r (pieces r)).pool = s.pool := by simp
    rw [← hp]
  rwa [e] at h

/-- Giving back sees of its records only their sums. -/
theorem State.givesBackOf_congr {xs ys : List Stroke} {s t : State} {p q : Stroke → Nat}
    (h : ∀ (c : Stroke → Bool) (v : Stroke → Nat),
      sumOver xs c (fun r => p r * v r) = sumOver ys c (fun r => q r * v r))
    (hb : State.givesBackOf xs s t p) : State.givesBackOf ys s t q := by
  have h1 : ∀ c, sumOver xs c p = sumOver ys c q := fun c => by simpa using h c (fun _ => 1)
  simp only [State.givesBackOf, h, h1] at hb ⊢
  exact hb

/-- The one record of a slot is all that a sum over that slot sees. -/
theorem sumOver_slot {xs : List Stroke} {r : Stroke} (h : xs.filter (fun q => q.slot == r.slot) = [r])
    (c : Stroke → Bool) (p : Stroke → Nat) :
    sumOver xs c (fun q => if q.slot = r.slot then p q else 0) = sumOver [r] c p := by
  rw [← h]
  clear h
  induction xs with
  | nil => rfl
  | cons x xs ih =>
    by_cases hx : x.slot = r.slot <;> simp [sumOver_cons, hx, ih]

/-- Lowering a WAITING stroke gives back one piece (R124, R41). -/
theorem State.lowerStroke_givesBack {s : State} {r : Stroke}
    (h : s.pool.records.filter (fun q => q.slot == r.slot) = [r]) :
    s.givesBack (s.lowerStroke r) (fun q => if q.slot = r.slot then 1 else 0) := by
  have one := State.givesBackOf_withPool (s.release_givesBackOf r (fun _ => 1))
    (s.pool.modRecord r.slot (fun x => { x with count := x.count - 1 }))
  rw [← State.release_withPool] at one
  refine State.givesBackOf_congr (fun c v => ?_) one
  rw [← sumOver_slot h]
  exact sumOver_congr (fun q _ => by by_cases hq : q.slot = r.slot <;> simp [hq])

theorem State.lowerStroke_pool (s : State) (r : Stroke) :
    (s.lowerStroke r).pool =
      s.pool.modRecord r.slot (fun x => { x with count := x.count - 1 }) := by
  simp [State.lowerStroke, State.modRecord]

end Sys2Proof.Machine
end

section
/-! SUPPORT. What each operation on the stock keeps of its invariant. -/

namespace Sys2Proof.Machine

theorem State.store_congr {s t : State} (h : t.stores = s.stores) (k : StoreId) :
    t.store k = s.store k := congrArg (fun v : Vector Store 12 => v[k]) h

theorem State.box_congr {s t : State} (h : t.boxes = s.boxes) (k : Kind) : t.box k = s.box k :=
  congrArg (fun v : PerKind Cashbox => v.get k) h

@[simp] theorem State.store_modBox (s : State) (b : Kind) (f : Cashbox → Cashbox) (k : StoreId) :
    (s.modBox b f).store k = s.store k := rfl

@[simp] theorem State.box_modStore (s : State) (k : StoreId) (f : Store → Store) (b : Kind) :
    (s.modStore k f).box b = s.box b := rfl

theorem State.box_modBox (s : State) (k j : Kind) (f : Cashbox → Cashbox) :
    (s.modBox k f).box j = if j = k then f (s.box k) else s.box j := by
  by_cases h : j = k
  · subst h; simp
  · simp [h, s.box_modBox_ne k j f h]

/-- The stock inside an event, where a stroke may stand lowered to 0 and a store may owe a piece. -/
structure State.Loose (s : State) : Prop where
  figures : s.FiguresHold
  boxes : ∀ k, (s.box k).count + (s.box k).promised ≤ (s.box k).capacity
  records : ∀ r ∈ s.pool.records, s.recordFits r

theorem State.Stocked.loose {s : State} (h : s.Stocked) : s.Loose := ⟨h.figures, h.boxes, h.records⟩

theorem State.Loose.stocked {s : State} (h : s.Loose)
    (stores : ∀ k, (s.store k).reserved ≤ (s.store k).physical)
    (whole : ∀ r ∈ s.pool.records, r.state = .waiting → 0 < r.count) : s.Stocked :=
  ⟨h.figures, stores, h.boxes, h.records, whole⟩

/-! ### What does not touch the stock -/

/-- The stock is read off the stores, the cashboxes and the records. -/
theorem State.Stocked.of_same {s t : State} (h : s.Stocked) (hst : t.stores = s.stores)
    (hbox : t.boxes = s.boxes) (hrec : t.pool.records = s.pool.records) : t.Stocked where
  figures := h.figures.of_same hrec
    (fun r _ => State.heldBy_congr (by rw [State.store_congr hst]))
    (fun k => by rw [State.store_congr hst]) (fun k => by rw [State.box_congr hbox])
  stores k := by rw [State.store_congr hst]; exact h.stores k
  boxes k := by rw [State.box_congr hbox]; exact h.boxes k
  records r hr := (State.recordFits_congr (by rw [State.store_congr hst])
    (by rw [State.store_congr hst])).mpr (h.records r (hrec ▸ hr))
  whole r hr := h.whole r (hrec ▸ hr)

theorem State.Linked.of_tables {s t : State} (h : s.Linked) (hst : t.stores = s.stores)
    (hrec : t.pool.records = s.pool.records) : t.Linked :=
  h.of_same (by rw [hrec]) (fun k => by simp [State.store_congr hst])

/-- A change of the cashboxes that keeps what they promise and stays within their capacity. -/
theorem State.Stocked.of_boxes {s t : State} (h : s.Stocked) (hst : t.stores = s.stores)
    (hrec : t.pool.records = s.pool.records)
    (hbox : ∀ k, (t.box k).promised = (s.box k).promised ∧
      (t.box k).count + (t.box k).promised ≤ (t.box k).capacity) : t.Stocked where
  figures := h.figures.of_same hrec
    (fun r _ => State.heldBy_congr (by rw [State.store_congr hst]))
    (fun k => by rw [State.store_congr hst]) (fun k => (hbox k).1)
  stores k := by rw [State.store_congr hst]; exact h.stores k
  boxes k := (hbox k).2
  records r hr := (State.recordFits_congr (by rw [State.store_congr hst])
    (by rw [State.store_congr hst])).mpr (h.records r (hrec ▸ hr))
  whole r hr := h.whole r (hrec ▸ hr)

/-! ### One store -/

section
variable {s : State} {k : StoreId} {f : Store → Store}

/-- A change of one store that keeps its channel, its reservation and its strokes' service state. -/
theorem State.Loose.modStore (h : s.Loose) (hc : (f (s.store k)).channel = (s.store k).channel)
    (hr : (f (s.store k)).reserved = (s.store k).reserved)
    (hs : (f (s.store k)).state = (s.store k).state ∨ ∀ r ∈ s.pool.records, r.store ≠ k) :
    (s.modStore k f).Loose := by
  have hchan : ∀ j, ((s.modStore k f).store j).channel = (s.store j).channel := fun j => by
    rw [s.store_modStore]; split
    · rw [hc]; simp [*]
    · rfl
  refine ⟨h.figures.of_same rfl (fun r _ => State.heldBy_congr (hchan _)) (fun j => ?_) (fun _ => rfl),
    h.boxes, fun r hmem => (State.recordFits_congr (by rw [hchan]) ?_).mpr (h.records r hmem)⟩
  · rw [s.store_modStore]; split
    · rw [hr]; simp [*]
    · rfl
  · rw [s.store_modStore]; split
    · rename_i hk
      rw [hs.resolve_right (fun hn => hn r hmem hk), hk]
    · rfl

theorem State.Stocked.modStore (h : s.Stocked) (hc : (f (s.store k)).channel = (s.store k).channel)
    (hr : (f (s.store k)).reserved = (s.store k).reserved)
    (hp : (s.store k).reserved ≤ (f (s.store k)).physical)
    (hs : (f (s.store k)).state = (s.store k).state ∨ ∀ r ∈ s.pool.records, r.store ≠ k) :
    (s.modStore k f).Stocked := by
  refine (h.loose.modStore hc hr hs).stocked (fun j => ?_) h.whole
  rw [s.store_modStore]; split
  · rw [hr]; exact hp
  · exact h.stores j

theorem State.reserved_eq_zero (h : s.FiguresHold) (none : ∀ r ∈ s.pool.records, r.store ≠ k) :
    (s.store k).reserved = 0 := by
  rw [h.reserved]
  exact sumOver_eq_zero (fun r hr hk => absurd (by simpa using hk) (none r hr))

/-- A store with no stroke on it may go to any state and any channel, with nothing reserved. -/
theorem State.Loose.modStore_clear (h : s.Loose) (none : ∀ r ∈ s.pool.records, r.store ≠ k)
    (hr : (f (s.store k)).reserved = 0) : (s.modStore k f).Loose := by
  have hst : ∀ r ∈ s.pool.records, (s.modStore k f).store r.store = s.store r.store :=
    fun r hmem => s.store_modStore_ne k _ f (none r hmem)
  refine ⟨h.figures.of_same rfl (fun r hmem => State.heldBy_congr (by rw [hst r hmem])) (fun j => ?_)
    (fun _ => rfl), h.boxes, fun r hmem => ?_⟩
  · rw [s.store_modStore]; split
    · rename_i hj; rw [hr, hj, State.reserved_eq_zero h.figures none]
    · rfl
  · exact (State.recordFits_congr (by rw [hst r hmem]) (by rw [hst r hmem])).mpr (h.records r hmem)

theorem State.Stocked.modStore_clear (h : s.Stocked) (none : ∀ r ∈ s.pool.records, r.store ≠ k)
    (hr : (f (s.store k)).reserved = 0) : (s.modStore k f).Stocked := by
  refine (h.loose.modStore_clear none hr).stocked (fun j => ?_) h.whole
  rw [s.store_modStore]; split
  · rw [hr]; exact Nat.zero_le _
  · exact h.stores j

/-- A store that is neither READY nor PAYING has no stroke on it. -/
theorem State.no_strokes_of_state (h : s.Loose) (h1 : (s.store k).state ≠ .ready)
    (h2 : (s.store k).state ≠ .paying) : ∀ r ∈ s.pool.records, r.store ≠ k := by
  rintro r hr rfl
  exact (h.records r hr).2.1.elim h1 h2

/-- A store with nothing reserved that is not PAYING has no stroke on it. -/
theorem State.no_strokes_of_reserved (linked : s.Linked) (h : s.Stocked)
    (hp : (s.store k).state ≠ .paying) (h0 : (s.store k).reserved = 0) :
    ∀ r ∈ s.pool.records, r.store ≠ k := by
  rintro r hr rfl
  have hw := linked.waiting_of_not_paying hr hp
  have hle : s.heldBy r ≤ _ := le_sumOver s.heldBy hr (chosen := fun q => q.store == r.store) (by simp)
  have hsum := h.figures.reserved r.store
  rw [linked.heldBy_waiting hr hw, (h.records r hr).2.2.1 hw] at hle
  have := h.whole r hr hw
  simp only [State.sumStrokes] at hsum
  simp only [sumOver] at hle
  omega

end

/-! ### Records that end -/

/-- A WAITING stroke that is dropped gives back all it holds. -/
theorem State.Linked.dropWhere_held {s : State} (linked : s.Linked)
    (fresh : ∀ r ∈ s.pool.records, r.state = .waiting → r.delivered = 0) (chosen : Stroke → Bool) :
    ∀ r ∈ s.pool.records, ∀ x, dropWhere chosen r = some x → x.2 = s.heldBy r := by
  intro r hr x hx
  unfold dropWhere at hx
  split at hx
  · rename_i hc
    have hw : r.state = .waiting := by
      simp only [Bool.and_eq_true, beq_iff_eq] at hc; exact hc.1
    cases hx
    rw [linked.heldBy_waiting hr hw, fresh r hr hw, Nat.sub_zero]
  · cases hx

/-- A running stroke that ends on its store gives back all it holds, and so do the WAITING ones there. -/
theorem State.Linked.endOnStore_held {s : State} (linked : s.Linked)
    (fresh : ∀ r ∈ s.pool.records, r.state = .waiting → r.delivered = 0) {k : StoreId}
    {running : Option SlotId} {released : Bool} (drops : Bool)
    (hrun : running = none ∨
      (running = (s.store k).channel.slot? ∧ released = (s.store k).channel.holdsNothing)) :
    ∀ r ∈ s.pool.records, ∀ x, endOnStore running k drops released r = some x → x.2 = s.heldBy r := by
  intro r hr x hx
  unfold endOnStore at hx
  split at hx
  · rename_i hslot
    obtain ⟨h1, h2⟩ := hrun.resolve_left (fun e => by rw [e] at hslot; cases hslot)
    have hs := (h1 ▸ hslot.symm : (s.store k).channel.slot? = some r.slot)
    obtain ⟨rfl, -⟩ := linked.of_slot hr hs
    cases hx
    simp [State.heldBy, Channel.runs, hs, h2]
  · exact linked.dropWhere_held fresh _ r hr x hx

theorem State.Loose.fresh {s : State} (h : s.Loose) :
    ∀ r ∈ s.pool.records, r.state = .waiting → r.delivered = 0 := fun r hr => (h.records r hr).2.2.1

/-- The stock follows the end of records, each giving back what it holds. -/
theorem State.Loose.endStrokes {s : State} (h : s.Loose) {how : Stroke → Option (Ending × Nat)}
    (hhow : ∀ r ∈ s.pool.records, ∀ x, how r = some x → x.2 = s.heldBy r) : (s.endStrokes how).Loose where
  figures := h.figures.endStrokes hhow
  boxes k := State.box_endStrokes_fits how (h.boxes k)
  records r hr := (s.recordFits_endStrokes how r).mpr (h.records r (State.mem_endStrokes.mp hr).1)

/-- Dropping WAITING strokes keeps the stock. -/
theorem State.Stocked.drops {s : State} (h : s.Stocked) (linked : s.Linked)
    (chosen : Stroke → Bool) : (s.endStrokes (dropWhere chosen)).Stocked :=
  h.endStrokes (linked.dropWhere_held h.loose.fresh chosen)

/-- A stroke lowered to 0 leaves, and with it the last that was not whole (R97). -/
theorem State.Loose.dropEmptied {s : State} (h : s.Loose) (linked : s.Linked)
    (stores : ∀ k, (s.store k).reserved ≤ (s.store k).physical) : s.dropEmptied.Stocked := by
  refine (h.endStrokes (linked.dropWhere_held h.fresh _)).stocked (fun k => ?_) (fun r hr hw => ?_)
  · rw [s.store_endStrokes]; exact (s.reserved_endStrokes_le _ k).trans (stores k)
  · obtain ⟨-, hnone⟩ := State.mem_endStrokes.mp hr
    refine Nat.pos_of_ne_zero (fun h0 => ?_)
    simp [dropWhere, hw, h0] at hnone

/-! ### A mark (R12) -/

/-- No stroke is left on a store whose WAITING strokes are dropped while nothing runs there. -/
theorem State.no_strokes_dropWaiting {s : State} (linked : s.Linked) {k : StoreId}
    (hp : (s.store k).state ≠ .paying) : ∀ r ∈ (s.dropWaiting k).pool.records, r.store ≠ k := by
  rintro r hr rfl
  obtain ⟨hmem, hnone⟩ := State.mem_endStrokes.mp hr
  have hw := linked.waiting_of_not_paying hmem hp
  simp [endOnStore, dropWhere, hw] at hnone

/-- A store that runs nothing loses its strokes with their reservations: what was amiss with it alone is over. -/
theorem State.FiguresHold.dropWaiting {s : State} (h : s.FiguresHold) (linked : s.Linked) {k : StoreId}
    (hp : (s.store k).state ≠ .paying)
    (fresh : ∀ r ∈ s.pool.records, r.state = .waiting → r.delivered = 0)
    (boxes : ∀ j, (s.box j).count + (s.box j).promised ≤ (s.box j).capacity)
    (others : ∀ j, j ≠ k → (s.store j).reserved ≤ (s.store j).physical)
    (records : ∀ r ∈ s.pool.records, r.store ≠ k → s.recordFits r)
    (whole : ∀ r ∈ s.pool.records, r.state = .waiting → 0 < r.count) : (s.dropWaiting k).Stocked := by
  have none := State.no_strokes_dropWaiting linked hp
  have figures : (s.dropWaiting k).FiguresHold :=
    h.endStrokes (linked.endOnStore_held (k := k) fresh true (.inl rfl))
  refine ⟨figures, fun j => ?_, fun j => State.box_endStrokes_fits _ (boxes j), fun r hr => ?_,
    fun r hr => whole r (State.mem_endStrokes.mp hr).1⟩
  · by_cases hj : j = k
    · subst hj; rw [State.reserved_eq_zero figures none]; exact Nat.zero_le _
    · have hsame := s.store_endStrokes (endOnStore Option.none k true false) j
      refine (State.reserved_endStrokes_le _ _ j).trans ?_
      rw [State.dropWaiting, hsame]
      exact others j hj
  · exact (State.recordFits_endStrokes _ _ r).mpr
      (records r (State.mem_endStrokes.mp hr).1 (none r hr))

/-- A change of one store's state and of its figures, while it runs nothing, leaves the agreement of slots. -/
theorem State.Linked.modStore {s : State} (linked : s.Linked) {k : StoreId} {f : Store → Store}
    (hc : (f (s.store k)).channel = (s.store k).channel)
    (hs : (s.store k).channel.slot? = none ∨ (f (s.store k)).state = (s.store k).state) :
    (s.modStore k f).Linked := by
  refine linked.of_same rfl (fun j => ?_)
  rw [s.store_modStore]
  split
  · rename_i hj
    subst hj
    exact ⟨by rw [hc], fun hne => hs.resolve_left hne⟩
  · exact ⟨rfl, fun _ => rfl⟩

theorem State.Linked.slot_none {s : State} (linked : s.Linked) {k : StoreId}
    (hp : (s.store k).state ≠ .paying) : (s.store k).channel.slot? = none := by
  rw [linked.channel_idle_of_not_paying hp]; rfl

/-- A marked store keeps the stock, also a READY one where a piece is missing to what it has reserved. -/
theorem State.Loose.markUncertain {s : State} (h : s.Loose) (linked : s.Linked) {k : StoreId}
    (others : ∀ j, j ≠ k → (s.store j).reserved ≤ (s.store j).physical)
    (own : (s.store k).state = .ready ∨ (s.store k).reserved ≤ (s.store k).physical)
    (whole : ∀ r ∈ s.pool.records, r.state = .waiting → 0 < r.count) : (s.markUncertain k).Stocked := by
  have stores (hn : (s.store k).state ≠ .ready) (j : StoreId) :
      (s.store j).reserved ≤ (s.store j).physical := by
    by_cases hj : j = k
    · exact hj ▸ own.resolve_left hn
    · exact others j hj
  rw [State.markUncertain_cases]
  split
  · rename_i hready
    have hother : ∀ j, j ≠ k → (s.modStore k (fun x => { x with state := .uncertain })).store j =
        s.store j := fun j hj => s.store_modStore_ne k j _ hj
    have hfig : (s.modStore k (fun x => { x with state := .uncertain })).FiguresHold := by
      refine h.figures.of_same rfl (fun r _ => State.heldBy_congr ?_) (fun j => ?_) (fun _ => rfl) <;>
        (rw [s.store_modStore]; split <;> simp [*])
    exact hfig.dropWaiting (linked.modStore rfl (.inl (linked.slot_none (by simp [hready]))))
      (by simp) h.fresh h.boxes (fun j hj => by rw [hother j hj]; exact others j hj)
      (fun r hr hne => (State.recordFits_congr (by rw [hother _ hne]) (by rw [hother _ hne])).mpr
        (h.records r hr)) whole
  · rename_i hn
    split
    · exact (h.stocked (stores hn) whole).modStore rfl rfl (stores hn k) (.inl rfl)
    · exact h.stocked (stores hn) whole

theorem State.Stocked.markUncertain {s : State} (h : s.Stocked) (linked : s.Linked) (k : StoreId) :
    (s.markUncertain k).Stocked :=
  h.loose.markUncertain linked (fun j _ => h.stores j) (.inr (h.stores k)) h.whole

/-! ### A piece given back -/

theorem State.Linked.filter_slot {s : State} (linked : s.Linked) {r : Stroke} (hr : r ∈ s.pool.records) :
    s.pool.records.filter (fun q => q.slot == r.slot) = [r] := by
  have hn := linked.nodup
  revert hr hn
  generalize s.pool.records = xs
  induction xs with
  | nil => intro hr; cases hr
  | cons x xs ih =>
    intro hr hn
    obtain ⟨hx, hn⟩ := List.nodup_cons.mp hn
    rcases List.mem_cons.mp hr with rfl | hr
    · rw [List.filter_cons_of_pos (by simp), List.filter_eq_nil_iff.mpr]
      intro q hq hs
      exact hx (List.mem_map.mpr ⟨q, hq, by simpa using hs⟩)
    · rw [List.filter_cons_of_neg, ih hr hn]
      intro hs
      exact hx (List.mem_map.mpr ⟨r, hr, (by simpa using hs : x.slot = r.slot).symm⟩)

section
variable {s : State} {r : Stroke}

theorem State.store_lowerStroke (h : s.pool.records.filter (fun q => q.slot == r.slot) = [r])
    (k : StoreId) : (s.lowerStroke r).store k =
      { s.store k with reserved := (s.store k).reserved - if r.store = k then 1 else 0 } := by
  rw [(State.lowerStroke_givesBack h).1]
  simp only [State.sumStrokes_eq, sumOver_slot h _ (fun _ => 1), sumOver_single, beq_iff_eq]

theorem State.box_lowerStroke (h : s.pool.records.filter (fun q => q.slot == r.slot) = [r])
    (k : Kind) : (s.lowerStroke r).box k = { s.box k with
      promised := (s.box k).promised - if r.owner = .office ∧ r.path = k then 1 else 0 } := by
  rw [(State.lowerStroke_givesBack h).2.1]
  simp only [State.sumStrokes_eq, sumOver_slot h _ (fun _ => 1), sumOver_single, beq_iff_eq,
    Bool.and_eq_true]

/-- The record of a stroke lowered by one piece. -/
def Stroke.lowered (r : Stroke) : Stroke := { r with count := r.count - 1 }

theorem State.lowerStroke_records (s : State) (r : Stroke) :
    (s.lowerStroke r).pool.records = s.pool.records.map (rewriteSlot r.slot Stroke.lowered) := by
  rw [State.lowerStroke_pool]; rfl

theorem State.Linked.lowerStroke (linked : s.Linked) (hr : r ∈ s.pool.records) :
    (s.lowerStroke r).Linked := by
  refine linked.of_same ?_ (fun k => by rw [State.store_lowerStroke (linked.filter_slot hr)]; simp)
  rw [State.lowerStroke_records, List.map_map]
  refine List.map_congr_left (fun q _ => ?_)
  simp only [Function.comp, rewriteSlot]
  split <;> rfl

/-- Lowering a WAITING stroke keeps the stock; the stroke may be left with nothing. -/
theorem State.Loose.lowerStroke (h : s.Loose) (linked : s.Linked) (hr : r ∈ s.pool.records)
    (hw : r.state = .waiting) (hpos : 0 < r.count) : (s.lowerStroke r).Loose := by
  have hslot := linked.filter_slot hr
  have hheld : ∀ q, (s.lowerStroke r).heldBy q = s.heldBy q := fun q =>
    State.heldBy_congr (by rw [State.store_lowerStroke hslot])
  have hown : s.heldBy r = r.count := by
    rw [linked.heldBy_waiting hr hw, h.fresh r hr hw, Nat.sub_zero]
  have hlow : s.heldBy r.lowered = r.count - 1 := by
    have hruns := (linked.waiting_iff hr).mp hw
    simp only [Channel.runs] at hruns
    simp [State.heldBy, Stroke.lowered, Channel.runs, hruns, h.fresh r hr hw]
  have hres : ∀ k, r.store = k → r.count ≤ (s.store k).reserved := by
    rintro k rfl
    rw [h.figures.reserved, ← hown]
    exact le_sumOver s.heldBy hr (by simp)
  have hpro : ∀ k, r.owner = .office ∧ r.path = k → r.count ≤ (s.box k).promised := by
    rintro k ⟨ho, rfl⟩
    rw [h.figures.promised, ← hown]
    exact le_sumOver s.heldBy hr (by simp [ho])
  refine ⟨h.figures.change_one linked hr (State.lowerStroke_records s r) ⟨rfl, rfl, rfl⟩
    (fun q _ _ => hheld q) (fun k => ?_) (fun k => ?_), fun k => ?_, fun q hq => ?_⟩
  · rw [hheld, hown, hlow, State.store_lowerStroke hslot]
    have := hres k
    split
    · simp_all; omega
    · simp_all
  · rw [hheld, hown, hlow, State.box_lowerStroke hslot]
    have := hpro k
    split
    · simp_all; omega
    · simp_all
  · rw [State.box_lowerStroke hslot]
    exact (Nat.add_le_add_left (Nat.sub_le ..) _).trans (h.boxes k)
  · rw [State.lowerStroke_records] at hq
    obtain ⟨p, hp, rfl⟩ := List.mem_map.mp hq
    unfold rewriteSlot
    split
    · rename_i hs
      obtain rfl := eq_of_slot_eq linked.nodup hr hp hs
      obtain ⟨h1, h2, h3, -⟩ := h.records p hp
      refine ⟨h1, ?_, fun _ => h3 hw, fun hrun => ?_⟩
      · rw [State.store_lowerStroke hslot]; exact h2
      · simp [Stroke.lowered, hw] at hrun
    · exact (State.recordFits_congr (by rw [State.store_lowerStroke hslot])
        (by rw [State.store_lowerStroke hslot])).mpr (h.records p hp)

end

end Sys2Proof.Machine
end

section
/-! SUPPORT. The stock through the events of the stores, the cashboxes and the ends of strokes. -/

namespace Sys2Proof.Machine

/-- What a step is given: slots, lanes' work and channels agree, and the stock follows the strokes. -/
structure State.Sound (s : State) : Prop where
  partition : s.slotsPartition
  lanes : s.laneWorkFollows
  follow : s.strokesFollow
  stocked : s.Stocked

theorem State.Sound.linked {s : State} (h : s.Sound) : s.Linked :=
  State.linked_of_follow h.partition h.follow

/-- What a step is given is read off the stores, cashboxes, lanes, planner, pool and paths. -/
theorem State.Sound.of_same {s t : State} (h : s.Sound) (hst : t.stores = s.stores)
    (hbox : t.boxes = s.boxes) (hlane : t.lanes = s.lanes) (hplan : t.planner = s.planner)
    (hpool : t.pool = s.pool) (hpath : t.paths = s.paths) : t.Sound where
  partition := by simpa [State.slotsPartition, hpool] using h.partition
  lanes := by
    simpa [State.laneWorkFollows, State.laneAsked, State.jobInWork, State.sale, State.mode, State.lane,
      hlane, hplan, hpool] using h.lanes
  follow := by
    simpa [State.strokesFollow, State.store, State.path, hst, hpool, hpath] using h.follow
  stocked := h.stocked.of_same hst hbox (by rw [hpool])

/-! ### The ends of a stroke -/

section
variable {s : State} {k : StoreId}

/-- No stroke is left on a store whose running stroke ends and whose WAITING ones are dropped. -/
theorem State.no_strokes_endOnStore (linked : s.Linked) (released : Bool) :
    ∀ r ∈ (s.endStrokes (endOnStore (s.store k).channel.slot? k true released)).pool.records,
      r.store ≠ k := by
  rintro r hr rfl
  obtain ⟨hmem, hnone⟩ := State.mem_endStrokes.mp hr
  rcases linked.live r hmem with hw | ⟨-, hs⟩
  · simp only [endOnStore, dropWhere, hw] at hnone
    split at hnone <;> simp at hnone
  · simp [endOnStore, hs] at hnone

/-- The strokes of one store end, and the store is left as it may be with none. -/
theorem State.Stocked.endOnStore_clear (h : s.Stocked) (linked : s.Linked) {f : Store → Store}
    (hr : ∀ x : Store, x.reserved = 0 → (f x).reserved = 0) :
    ((s.endStrokes (endOnStore (s.store k).channel.slot? k true
      (s.store k).channel.holdsNothing)).modStore k f).Stocked := by
  have none := State.no_strokes_endOnStore linked (k := k) (s.store k).channel.holdsNothing
  have hend := h.endStrokes (linked.endOnStore_held h.loose.fresh (k := k) true (.inr ⟨rfl, rfl⟩))
  exact hend.modStore_clear none (hr _ (State.reserved_eq_zero hend.figures none))

/-- A store whose stroke is over, with WAITING strokes alone on it, goes back to READY. -/
theorem State.Stocked.modStore_waiting (h : s.Stocked) {f : Store → Store}
    (hw : ∀ r ∈ s.pool.records, r.store = k →
      r.state = .waiting ∧ (s.store k).channel.runs r = false)
    (hc : (f (s.store k)).channel = .idle) (hr : (f (s.store k)).reserved = (s.store k).reserved)
    (hp : (f (s.store k)).physical = (s.store k).physical) (hs : (f (s.store k)).state = .ready) :
    (s.modStore k f).Stocked := by
  refine ⟨h.figures.of_same rfl (fun r hmem => ?_) (fun j => ?_) (fun _ => rfl), fun j => ?_, h.boxes,
    fun r hmem => ?_, h.whole⟩
  · by_cases hk : r.store = k
    · subst hk
      simp [State.heldBy, hc, (hw r hmem rfl).2, Channel.holdsNothing]
    · exact State.heldBy_congr (by rw [s.store_modStore_ne k _ f hk])
  · rw [s.store_modStore]; split
    · rw [hr]; simp [*]
    · rfl
  · rw [s.store_modStore]; split
    · rw [hr, hp]; exact h.stores k
    · exact h.stores j
  · by_cases hk : r.store = k
    · subst hk
      obtain ⟨h1, -, h3, -⟩ := h.records r hmem
      exact ⟨h1, .inl (by simp [hs]), h3, fun hrun => by simp [(hw r hmem rfl).1] at hrun⟩
    · exact (State.recordFits_congr (by rw [s.store_modStore_ne k _ f hk])
        (by rw [s.store_modStore_ne k _ f hk])).mpr (h.records r hmem)

/-- AFTER_RUN_WINDOW_CLOSE (R121). -/
theorem State.Stocked.closeWindow (h : s.Stocked) (linked : s.Linked) {slot : SlotId} {ms : Nat}
    (hc : (s.store k).channel = .afterRun slot ms) :
    ((s.endStrokes (endOnStore (some slot) k (s.store k).marked true)).modStore k Store.ended).Stocked := by
  by_cases hm : (s.store k).marked = true
  · rw [hm]
    simpa [hc, Channel.slot?, Channel.holdsNothing] using
      h.endOnStore_clear linked (k := k) (f := Store.ended) (fun x hx => hx)
  · rw [Bool.not_eq_true] at hm
    have hend : (s.endStrokes (endOnStore (some slot) k false true)).Stocked :=
      h.endStrokes (linked.endOnStore_held h.loose.fresh (k := k) false
        (.inr (by simp [hc, Channel.slot?, Channel.holdsNothing])))
    rw [hm]
    have hsame := s.store_endStrokes (endOnStore (some slot) k false true) k
    refine hend.modStore_waiting (fun r hr hk => ?_) rfl rfl rfl ?_
    · subst hk
      obtain ⟨hmem, hnone⟩ := State.mem_endStrokes.mp hr
      have hne : some r.slot ≠ some slot := fun e => by simp [endOnStore, e] at hnone
      have hruns : (s.store r.store).channel.runs r = false := by
        simpa [Channel.runs, hc, Channel.slot?] using fun e => hne (congrArg some e.symm)
      exact ⟨(linked.waiting_iff hmem).mpr hruns, by rw [hsame]; exact hruns⟩
    · rw [hsame]; simp [Store.ended, hm]

/-- STROKE_DEADLINE_EXPIRY (R125, R126). -/
theorem State.Stocked.jam (h : s.Stocked) (linked : s.Linked) {slot : SlotId} {ms : Nat}
    (hc : (s.store k).channel = .driving slot ms) :
    ((s.endStrokes (endOnStore (some slot) k true false)).modStore k Store.jam).Stocked := by
  simpa [hc, Channel.slot?, Channel.holdsNothing] using
    h.endOnStore_clear linked (k := k) (f := Store.jam) (fun x hx => hx)

/-! ### Cassettes -/

theorem State.resolveFills_same (s : State) (k : StoreId) :
    ∃ u : State, s.resolveFills k = u.modStore k (fun x => { x with fills := [] }) ∧
      u.stores = s.stores ∧ u.boxes = s.boxes ∧ u.pool = s.pool := by
  refine ⟨(s.store k).fills.foldl State.bookUnplaced s, rfl, ?_, ?_, ?_⟩ <;>
    exact foldl_keeps _ _ (fun t f => by simp) _ s

/-- The fills of a store are no part of its stock. -/
theorem State.Stocked.resolveFills (h : s.Stocked) (k : StoreId) : (s.resolveFills k).Stocked := by
  obtain ⟨u, hu, hst, hbox, hpool⟩ := s.resolveFills_same k
  have hstock := h.of_same hst hbox (by rw [hpool])
  rw [hu]
  exact hstock.modStore rfl rfl (hstock.stores k) (.inl rfl)

theorem State.resolveFills_records (s : State) (k : StoreId) :
    (s.resolveFills k).pool = s.pool := by
  obtain ⟨u, hu, -, -, hpool⟩ := s.resolveFills_same k
  rw [hu]; exact hpool

/-- CASSETTE_OUT (R9, R127). -/
theorem State.Stocked.pullCassette (h : s.Stocked) (linked : s.Linked) (k : StoreId) :
    (s.pullCassette k).Stocked := by
  have hb := s.bookStore_frame .removed k (s.store k).physical
  obtain ⟨-, -, -, -, -, hst, hbox, -, -, -, -, hpool, -⟩ := hb
  have hlinked := linked.of_tables hst (by rw [hpool])
  have hstock := h.of_same hst hbox (by rw [hpool])
  have hchan := congrArg Store.channel (State.store_congr hst k)
  unfold State.pullCassette
  rw [← hchan]
  have hend := hstock.endStrokes (hlinked.endOnStore_held hstock.loose.fresh (k := k) true (.inr ⟨rfl, rfl⟩))
  refine (hend.resolveFills k).modStore_clear (f := Store.pulled) (fun r hr => ?_) rfl
  rw [State.resolveFills_records] at hr
  exact State.no_strokes_endOnStore hlinked _ r hr

/-- CASSETTE_IN (R10). -/
theorem State.Stocked.newCassette (h : s.Stocked) (ha : (s.store k).state = .absent) :
    (s.modStore k Store.newCassette).Stocked :=
  h.modStore_clear (State.no_strokes_of_state h.loose (by simp [ha]) (by simp [ha])) rfl

/-! ### Cashboxes -/

/-- A cashbox whose sensor reports keeps what it holds and promises (R22). -/
theorem State.Stocked.modBox (h : s.Stocked) {b : Kind} {f : Cashbox → Cashbox}
    (hp : (f (s.box b)).promised = (s.box b).promised)
    (hc : (f (s.box b)).count + (f (s.box b)).promised ≤ (f (s.box b)).capacity) :
    (s.modBox b f).Stocked := by
  refine h.of_boxes rfl rfl (fun j => ?_)
  by_cases hj : j = b
  · subst hj; rw [s.box_modBox_self]; exact ⟨hp, hc⟩
  · rw [s.box_modBox_ne b j f hj]; exact ⟨rfl, h.boxes j⟩

end

end Sys2Proof.Machine
end

section
/-! SUPPORT. The stock through a skim that stops, a stroke that starts and the pieces it pays. -/

namespace Sys2Proof.Machine

theorem State.setStore_setStore (s : State) (k : StoreId) (x y : Store) :
    (s.setStore k x).setStore k y = s.setStore k y := by simp [State.setStore]

theorem State.modStore_modStore (s : State) (k : StoreId) (f g : Store → Store) :
    (s.modStore k f).modStore k g = s.modStore k (fun x => g (f x)) := by
  simp [State.modStore, State.setStore_setStore]

theorem map_rewriteSlot_id (xs : List Stroke) (slot : SlotId) : xs.map (rewriteSlot slot id) = xs :=
  (List.map_congr_left (fun r _ => by simp [rewriteSlot])).trans (List.map_id xs)

/-! ### A skim that stops (R128) -/

theorem State.runningSkim_some {s : State} {k : Kind} {r : Stroke} (h : s.runningSkim k = some r) :
    r ∈ s.pool.records ∧ r.owner = .office ∧ r.path = k ∧ r.state = .running := by
  have := List.find?_some h
  simp only [Bool.and_eq_true, beq_iff_eq] at this
  exact ⟨List.mem_of_find?_eq_some h, this.1.1, this.1.2, this.2⟩

/-- A skim stroke DRIVING into a removed cashbox: its window opens, and what it holds is released (R23). -/
theorem State.stopRunningSkim_driving {s : State} {k : Kind} {r : Stroke} {slot : SlotId} {ms : Nat}
    (hr : s.runningSkim k = some r) (hc : (s.store r.store).channel = .driving slot ms) :
    s.stopRunningSkim k = (s.modStore r.store (fun x => { x with
        reserved := x.reserved - (r.count - r.delivered)
        channel := .afterRun slot (Config.afterRunMs k) })).modBox k (fun b =>
          { b with promised := b.promised - (r.count - r.delivered) }) := by
  obtain ⟨-, howner, hpath, -⟩ := State.runningSkim_some hr
  simp only [State.stopRunningSkim, hr, hc, State.release, howner, hpath, State.modStore_modStore]

theorem State.stopRunningSkim_afterRun {s : State} {k : Kind} {r : Stroke} {slot : SlotId} {ms : Nat}
    (hr : s.runningSkim k = some r) (hc : (s.store r.store).channel = .afterRun slot ms) :
    s.stopRunningSkim k = s := by simp only [State.stopRunningSkim, hr, hc]

theorem State.stopRunningSkim_none {s : State} {k : Kind} (hr : s.runningSkim k = none) :
    s.stopRunningSkim k = s := by simp only [State.stopRunningSkim, hr]

/-- On the store of a running stroke every other stroke is WAITING, whatever its channel now is. -/
theorem State.Linked.waiting_beside {s : State} (linked : s.Linked) {r q : Stroke}
    (hs : (s.store r.store).channel.slot? = some r.slot) (hq : q ∈ s.pool.records)
    (hk : q.store = r.store) (hne : q.slot ≠ r.slot) : q.state = .waiting := by
  refine (linked.live q hq).resolve_right (fun hl => hne ?_)
  rw [hk, hs] at hl
  exact (Option.some.inj hl.2).symm

/-- A channel that goes on running its stroke leaves the others on its store what they hold. -/
theorem State.heldBy_beside {s t : State} {r q : Stroke}
    (hs : (s.store r.store).channel.slot? = some r.slot)
    (ht : (t.store r.store).channel.slot? = some r.slot)
    (hother : ∀ j, j ≠ r.store → t.store j = s.store j) (hne : q.slot ≠ r.slot) :
    t.heldBy q = s.heldBy q := by
  by_cases hk : q.store = r.store
  · simp [State.heldBy, hk, Channel.runs, hs, ht, Ne.symm hne]
  · exact State.heldBy_congr (by rw [hother _ hk])

theorem State.recordFits_beside {s t : State} (linked : s.Linked) {r q : Stroke}
    (hs : (s.store r.store).channel.slot? = some r.slot)
    (hst : (t.store r.store).state = (s.store r.store).state)
    (hother : ∀ j, j ≠ r.store → t.store j = s.store j) (hq : q ∈ s.pool.records)
    (hne : q.slot ≠ r.slot) (h : s.recordFits q) : t.recordFits q := by
  by_cases hk : q.store = r.store
  · obtain ⟨h1, h2, h3, -⟩ := h
    have hw := linked.waiting_beside hs hq hk hne
    exact ⟨h1, by rw [hk, hst, ← hk]; exact h2, h3, fun hrun => by simp [hw] at hrun⟩
  · exact (State.recordFits_congr (by rw [hother _ hk]) (by rw [hother _ hk])).mpr h

theorem State.heldBy_driving {s : State} {r : Stroke}
    (hc : (s.store r.store).channel.holdsNothing = false) : s.heldBy r = r.count - r.delivered := by
  simp [State.heldBy, hc]

theorem State.heldBy_afterRun {s : State} {r : Stroke}
    (hs : (s.store r.store).channel.slot? = some r.slot)
    (hc : (s.store r.store).channel.holdsNothing = true) : s.heldBy r = 0 := by
  simp [State.heldBy, Channel.runs, hs, hc]

theorem State.Stocked.stopRunningSkim {s : State} (h : s.Stocked) (linked : s.Linked) (k : Kind) :
    (s.stopRunningSkim k).Stocked ∧ (s.stopRunningSkim k).Linked := by
  cases hr : s.runningSkim k with
  | none => rw [State.stopRunningSkim_none hr]; exact ⟨h, linked⟩
  | some r =>
    obtain ⟨hmem, howner, hpath, hrun⟩ := State.runningSkim_some hr
    have hs := ((linked.live r hmem).resolve_left (by simp [hrun])).2
    cases hc : (s.store r.store).channel with
    | idle => simp [hc, Channel.slot?] at hs
    | afterRun slot ms => rw [State.stopRunningSkim_afterRun hr hc]; exact ⟨h, linked⟩
    | driving slot ms =>
      obtain rfl : slot = r.slot := by simpa [hc, Channel.slot?] using hs
      rw [State.stopRunningSkim_driving hr hc]
      generalize ht : State.modBox _ _ _ = t
      have hown : t.store r.store = { s.store r.store with
          reserved := (s.store r.store).reserved - (r.count - r.delivered)
          channel := .afterRun r.slot (Config.afterRunMs k) } := by
        rw [← ht, State.store_modBox, State.store_modStore_self]
      have hother : ∀ j, j ≠ r.store → t.store j = s.store j := by
        intro j hj; rw [← ht, State.store_modBox, s.store_modStore_ne _ _ _ hj]
      have hbox : ∀ j, t.box j = { s.box j with
          promised := (s.box j).promised - if j = k then r.count - r.delivered else 0 } := by
        intro j
        rw [← ht, State.box_modBox]
        by_cases hj : j = k
        · subst hj; simp
        · simp [hj]
      have hrec : t.pool.records = s.pool.records := by rw [← ht]; rfl
      have hheld := State.heldBy_driving (s := s) (r := r) (by simp [hc, Channel.holdsNothing])
      have hheld' : t.heldBy r = 0 := State.heldBy_afterRun (by simp [hown, Channel.slot?])
        (by simp [hown, Channel.holdsNothing])
      have hle := le_sumOver s.heldBy hmem (chosen := fun q => q.store == r.store) (by simp)
      have hle' := le_sumOver s.heldBy hmem (chosen := fun q => q.owner == .office && q.path == k)
        (by simp [howner, hpath])
      have hres := h.figures.reserved r.store
      have hpro := h.figures.promised k
      rw [State.sumStrokes_eq] at hres hpro
      refine ⟨⟨h.figures.change_one linked hmem (f := id) (by rw [hrec, map_rewriteSlot_id]) ⟨rfl, rfl, rfl⟩
        (fun q _ hne => State.heldBy_beside hs (by simp [hown, Channel.slot?]) hother hne)
        (fun j => ?_) (fun j => ?_), fun j => ?_, fun j => ?_, fun q hq => ?_, ?_⟩, ?_⟩
      · simp only [id, hheld, hheld']
        by_cases hj : r.store = j
        · subst hj; rw [hown]; simp only [if_true]; omega
        · rw [hother j (Ne.symm hj)]; simp [hj]
      · simp only [id, hheld, hheld', hbox, howner, hpath]
        by_cases hj : k = j
        · subst hj; simp only [if_true, and_self]; omega
        · simp [hj, Ne.symm hj]
      · by_cases hj : j = r.store
        · subst hj; rw [hown]; exact (Nat.sub_le ..).trans (h.stores _)
        · rw [hother j hj]; exact h.stores j
      · rw [hbox]; exact (Nat.add_le_add_left (Nat.sub_le ..) _).trans (h.boxes j)
      · rw [hrec] at hq
        by_cases hne : q.slot = r.slot
        · obtain rfl := eq_of_slot_eq linked.nodup hmem hq hne
          obtain ⟨h1, h2, h3, h4⟩ := h.records q hq
          exact ⟨h1, by rw [hown]; exact h2, h3, fun hrun => ⟨(h4 hrun).1, by simp [hown, Channel.holdsNothing]⟩⟩
        · exact State.recordFits_beside linked hs (by rw [hown]) hother hq hne (h.records q hq)
      · rw [hrec]; exact h.whole
      · refine linked.of_same (by rw [hrec]) (fun j => ?_)
        by_cases hj : j = r.store
        · subst hj; simp [hown, hc, Channel.slot?]
        · simp [hother j hj]

/-- CASHBOX_OUT (R22, R23). -/
theorem State.Stocked.cashboxOut {s : State} (h : s.Stocked) (linked : s.Linked) (k : Kind) :
    (((s.modBox k Cashbox.out).stopRunningSkim k).dropSkims (fun r => r.path == k)).Stocked := by
  have hout : (s.modBox k Cashbox.out).Stocked := h.modBox rfl (h.boxes k)
  obtain ⟨hstop, hlinked⟩ := hout.stopRunningSkim (linked.of_tables rfl rfl) k
  exact hstop.drops hlinked _

/-! ### A stroke that starts (R118) -/

theorem State.record_of_slot {s : State} {slot : SlotId} {r : Stroke} (h : s.record? slot = some r) :
    r ∈ s.pool.records ∧ r.slot = slot :=
  ⟨List.mem_of_find?_eq_some h, by simpa using List.find?_some h⟩

/-- STROKE_START (R11, R118): the latched stroke runs on its READY store. -/
theorem State.Stocked.startStroke {s : State} (h : s.Stocked) (linked : s.Linked) {r : Stroke}
    (hr : r ∈ s.pool.records) (hw : r.state = .waiting) (hready : (s.store r.store).state = .ready)
    (ms : Nat) {t : State}
    (hrec : t.pool.records = s.pool.records.map (rewriteSlot r.slot (fun q => { q with state := .running })))
    (hst : ∀ j, t.store j = if j = r.store then (s.store r.store).start r.slot ms else s.store j)
    (hbox : t.boxes = s.boxes) : t.Stocked := by
  have hidle := linked.channel_idle_of_not_paying (k := r.store) (by simp [hready])
  have hother : ∀ j, j ≠ r.store → t.store j = s.store j := fun j hj => by rw [hst, if_neg hj]
  have hown : t.store r.store = (s.store r.store).start r.slot ms := by rw [hst, if_pos rfl]
  have hheld : ∀ q, t.heldBy q = s.heldBy q := by
    intro q
    by_cases hk : q.store = r.store
    · simp [State.heldBy, hk, hown, hidle, Store.start, Channel.holdsNothing]
    · exact State.heldBy_congr (by rw [hother _ hk])
  have hfresh := h.loose.fresh r hr hw
  have hpos := h.whole r hr hw
  have hsame : s.heldBy { r with state := .running } = s.heldBy r := rfl
  refine ⟨h.figures.change_one linked hr hrec ⟨rfl, rfl, rfl⟩ (fun q _ _ => hheld q) (fun j => ?_)
    (fun j => ?_), fun j => ?_, fun j => ?_, fun q hq => ?_, fun q hq hqw => ?_⟩
  · rw [hheld, hsame, hst]; split
    · rename_i hj; subst hj; rfl
    · rfl
  · rw [hheld, hsame, State.box_congr hbox]
  · rw [hst]; split
    · exact h.stores r.store
    · exact h.stores j
  · rw [State.box_congr hbox]; exact h.boxes j
  · rw [hrec] at hq
    obtain ⟨p, hp, rfl⟩ := List.mem_map.mp hq
    unfold rewriteSlot
    split
    · rename_i hs
      obtain rfl := eq_of_slot_eq linked.nodup hr hp hs
      exact ⟨(h.records p hp).1, .inr (by simp [hown, Store.start]), fun hx => by simp at hx,
        fun _ => ⟨by simp [hfresh], fun _ => by simpa [hfresh] using hpos⟩⟩
    · rename_i hs
      obtain ⟨h1, h2, h3, h4⟩ := h.records p hp
      by_cases hk : p.store = r.store
      · have hpw := linked.waiting_of_not_paying hp (by rw [hk, hready]; decide)
        exact ⟨h1, .inr (by simp [hk, hown, Store.start]), h3, fun hx => by simp [hpw] at hx⟩
      · exact (State.recordFits_congr (by rw [hother _ hk]) (by rw [hother _ hk])).mpr (h.records p hp)
  · rw [hrec] at hq
    obtain ⟨p, hp, rfl⟩ := List.mem_map.mp hq
    unfold rewriteSlot at hqw ⊢
    split
    · rename_i hs; simp [hs] at hqw
    · rename_i hs; exact h.whole p hp (by simpa [hs] using hqw)

end Sys2Proof.Machine
end

section
/-! SUPPORT. The stock through the pieces a channel reports: counted, over-paid and unbidden (R16, R120–R124). -/

namespace Sys2Proof.Machine

/-! ### The count of a cashbox -/

/-- A sum over distinct indices moves with the one whose figure changes. -/
theorem sum_map_change {α : Type} {xs : List α} (nodup : xs.Nodup) {a : α} (ha : a ∈ xs) {f g : α → Nat}
    (h : ∀ b ∈ xs, b ≠ a → f b = g b) : (xs.map f).sum + g a = (xs.map g).sum + f a := by
  induction xs with
  | nil => cases ha
  | cons x xs ih =>
    obtain ⟨hx, nodup⟩ := List.nodup_cons.mp nodup
    simp only [List.map_cons, List.sum_cons]
    rcases List.mem_cons.mp ha with rfl | ha
    · have : xs.map f = xs.map g := List.map_congr_left (fun b hb =>
        h b (List.mem_cons_of_mem _ hb) (fun e => hx (e ▸ hb)))
      rw [this]; omega
    · have hne : x ≠ a := fun e => hx (e ▸ ha)
      have := ih nodup ha (fun b hb => h b (List.mem_cons_of_mem _ hb))
      rw [h x (List.mem_cons_self ..) hne]; omega

theorem allDenoms_nodup : allDenoms.Nodup := by decide

theorem mem_allDenoms (d : Denom) : d ∈ allDenoms := by revert d; decide

theorem Cashbox.countOf_setCount_self (b : Cashbox) (d : Denom) (n : Nat) :
    (b.setCount d n).countOf d = n := by simp [Cashbox.countOf, Cashbox.setCount]

theorem Cashbox.countOf_setCount_ne (b : Cashbox) (d e : Denom) (n : Nat) (h : e ≠ d) :
    (b.setCount d n).countOf e = b.countOf e := by
  have hv : d.val ≠ e.val := fun he => h (Fin.ext he.symm)
  simp [Cashbox.countOf, Cashbox.setCount, hv]

/-- A count that changes moves the count of its box. -/
theorem Cashbox.count_setCount (b : Cashbox) (d : Denom) (n : Nat) :
    (b.setCount d n).count + b.countOf d = b.count + n := by
  have := sum_map_change allDenoms_nodup (mem_allDenoms d) (f := (b.setCount d n).countOf) (g := b.countOf)
    (fun e _ hne => b.countOf_setCount_ne d e n hne)
  rwa [b.countOf_setCount_self] at this

theorem Cashbox.count_add (b : Cashbox) (d : Denom) (n : Nat) :
    (b.setCount d (b.countOf d + n)).count = b.count + n := by
  have := b.count_setCount d (b.countOf d + n); omega

theorem Cashbox.count_congr {b c : Cashbox} (h : b.counts = c.counts) : b.count = c.count := by
  have : b.countOf = c.countOf := funext (fun d => by simp [Cashbox.countOf, h])
  simp [Cashbox.count, this]

/-! ### A piece of a driving stroke (R120) -/

theorem State.countedPiece_same (s : State) (r : Stroke) (d : Denom) :
    (s.countedPiece r d).stores = s.stores ∧ (s.countedPiece r d).pool = s.pool := by
  unfold State.countedPiece; cases r.owner <;> simp

/-- A counted skim piece is no longer promised and counts in its box. -/
theorem State.box_countedPiece (s : State) (r : Stroke) (d : Denom) (k : Kind) :
    (s.countedPiece r d).box k = if r.owner = .office ∧ r.path = k then
      { (s.box k).setCount d ((s.box k).countOf d + 1) with promised := (s.box k).promised - 1 }
    else s.box k := by
  unfold State.countedPiece
  cases r.owner with
  | lane l => simp only [reduceCtorEq, false_and, if_false]; exact State.box_congr (by simp) k
  | office =>
    simp only [true_and]
    rw [State.box_congr (State.book_frame _ _ _ _).2.2.2.2.2.2.1, State.box_modBox]
    by_cases h : k = r.path
    · subst h; simp
    · simp [h, Ne.symm h]

/-- A stroke one piece on. -/
def Stroke.advanced (r : Stroke) : Stroke := { r with delivered := r.delivered + 1 }

/-- A store one reserved piece down. -/
def Store.paidOut (x : Store) : Store := { x with physical := x.physical - 1, reserved := x.reserved - 1 }

/-- The channel after a piece of its driving stroke: the last opens the window (R121). -/
def Channel.afterPiece (x : Channel) (r : Stroke) : Channel :=
  if r.delivered + 1 < r.count then x
  else .afterRun r.slot (Config.afterRunMs (storeKind r.store))

theorem State.drivePiece_tables (s : State) (r : Stroke) (d : Denom) :
    let t := s.drivePiece r.store r d
    t.pool.records = s.pool.records.map (rewriteSlot r.slot Stroke.advanced) ∧
    (∀ j, t.store j = if j = r.store then
      { (s.store r.store).paidOut with channel := (s.store r.store).channel.afterPiece r }
      else s.store j) ∧
    ∀ k, t.box k = if r.owner = .office ∧ r.path = k then
      { (s.box k).setCount d ((s.box k).countOf d + 1) with promised := (s.box k).promised - 1 }
      else s.box k := by
  intro t
  have hsame := State.countedPiece_same ((s.modRecord r.slot Stroke.advanced).modStore r.store
    Store.paidOut) r d
  have hbox := State.box_countedPiece ((s.modRecord r.slot Stroke.advanced).modStore r.store
    Store.paidOut) r d
  have hst := fun j => (State.store_congr hsame.1 j).trans
    ((s.modRecord r.slot Stroke.advanced).store_modStore r.store j Store.paidOut)
  have ht : t = if r.delivered + 1 < r.count then _ else _ := rfl
  split at ht
  · rename_i hlt
    refine ⟨by rw [ht]; exact congrArg Pool.records hsame.2, fun j => ?_, fun k => by rw [ht]; exact hbox k⟩
    rw [ht]
    refine (hst j).trans ?_
    simp only [Channel.afterPiece, hlt, if_true]
    rfl
  · rename_i hlt
    refine ⟨by rw [ht]; exact congrArg Pool.records hsame.2, fun j => ?_, fun k => by rw [ht]; exact hbox k⟩
    rw [ht, State.store_modStore]
    split
    · have hwindow := congrArg (fun x : Store => { x with
        channel := .afterRun r.slot (Config.afterRunMs (storeKind r.store)) }) (hst r.store)
      refine hwindow.trans ?_
      simp only [Channel.afterPiece, hlt, if_true, if_false]
      rfl
    · rename_i hj
      refine (hst j).trans ?_
      rw [if_neg hj]; rfl

/-- PIECE_PULSE of a driving stroke keeps the stock (R120, R121). -/
theorem State.Stocked.drivePiece {s : State} (h : s.Stocked) (linked : s.Linked) {r : Stroke}
    (hr : r ∈ s.pool.records) {ms : Nat} (hc : (s.store r.store).channel = .driving r.slot ms) (d : Denom) :
    (s.drivePiece r.store r d).Stocked := by
  obtain ⟨hrec, hst, hbox⟩ := s.drivePiece_tables r d
  generalize State.drivePiece s r.store r d = t at hrec hst hbox
  have hs : (s.store r.store).channel.slot? = some r.slot := by simp [hc, Channel.slot?]
  obtain ⟨hpath, -, -, hfit⟩ := h.records r hr
  have hrun := (linked.of_slot hr hs).2
  have hlt := (hfit hrun).2 (by simp [hc, Channel.holdsNothing])
  have hown : t.store r.store = { (s.store r.store).paidOut with
      channel := (s.store r.store).channel.afterPiece r } := by rw [hst, if_pos rfl]
  have hother : ∀ j, j ≠ r.store → t.store j = s.store j := fun j hj => by rw [hst, if_neg hj]
  have hs' : (t.store r.store).channel.slot? = some r.slot := by
    rw [hown]; simp only [Channel.afterPiece]; split
    · exact hs
    · rfl
  have hheld : s.heldBy r = r.count - r.delivered :=
    State.heldBy_driving (by simp [hc, Channel.holdsNothing])
  have hheld' : t.heldBy r.advanced = r.count - (r.delivered + 1) := by
    by_cases hlast : r.delivered + 1 < r.count
    · exact State.heldBy_driving (by simp [Stroke.advanced, hown, Channel.afterPiece, hlast, hc,
        Channel.holdsNothing])
    · rw [State.heldBy_afterRun (r := r.advanced) hs' (by simp [Stroke.advanced, hown,
        Channel.afterPiece, hlast, Channel.holdsNothing])]
      omega
  have hle := le_sumOver s.heldBy hr (chosen := fun q => q.store == r.store) (by simp)
  have hres := h.figures.reserved r.store
  have hphys := h.stores r.store
  rw [State.sumStrokes_eq] at hres
  have hpro : ∀ k, r.owner = .office ∧ r.path = k → r.count - r.delivered ≤ (s.box k).promised := by
    rintro k ⟨ho, rfl⟩
    rw [h.figures.promised, ← hheld]
    exact le_sumOver s.heldBy hr (by simp [ho])
  refine ⟨h.figures.change_one linked hr hrec ⟨rfl, rfl, rfl⟩
    (fun q _ hne => State.heldBy_beside hs hs' hother hne) (fun j => ?_) (fun k => ?_),
    fun j => ?_, fun k => ?_, fun q hq => ?_, fun q hq hw => ?_⟩
  · rw [hheld, hheld']
    by_cases hj : r.store = j
    · subst hj; rw [hown]; simp only [if_true, Store.paidOut]; omega
    · rw [hother j (Ne.symm hj)]; simp [hj]
  · rw [hheld, hheld', hbox]
    have := hpro k
    split
    · rename_i hk; have := this hk; simp only; omega
    · rfl
  · by_cases hj : j = r.store
    · subst hj; rw [hown]; simp only [Store.paidOut]; omega
    · rw [hother j hj]; exact h.stores j
  · have := hpro k
    have hfit := h.boxes k
    rw [hbox]
    split
    · rename_i hk
      have hcount : Cashbox.count { (s.box k).setCount d ((s.box k).countOf d + 1) with
          promised := (s.box k).promised - 1 } = (s.box k).count + 1 :=
        (Cashbox.count_congr rfl).trans (Cashbox.count_add _ d 1)
      rw [hcount]; have := this hk; simp only [Cashbox.setCount]; omega
    · exact hfit
  · rw [hrec] at hq
    obtain ⟨p, hp, rfl⟩ := List.mem_map.mp hq
    unfold rewriteSlot
    split
    · rename_i hslot
      obtain rfl := eq_of_slot_eq linked.nodup hr hp hslot
      refine ⟨hpath, .inr (by
        simp only [Stroke.advanced, hown, Store.paidOut]; exact (linked.runs _ _ hs).1),
        fun hw => by simp [Stroke.advanced, hrun] at hw, fun _ => ⟨hlt, fun hn => ?_⟩⟩
      by_contra hlast
      change (t.store p.store).channel.holdsNothing = false at hn
      change ¬p.delivered + 1 < p.count at hlast
      simp [hown, Channel.afterPiece, hlast, Channel.holdsNothing] at hn
    · rename_i hslot
      exact State.recordFits_beside linked hs (by rw [hown]; rfl) hother hp hslot (h.records p hp)
  · rw [hrec] at hq
    obtain ⟨p, hp, rfl⟩ := List.mem_map.mp hq
    unfold rewriteSlot at hw ⊢
    split
    · rename_i hslot
      obtain rfl := eq_of_slot_eq linked.nodup hr hp hslot
      simp [Stroke.advanced, hrun] at hw
    · rename_i hslot; rw [if_neg hslot] at hw; exact h.whole p hp hw

end Sys2Proof.Machine
end

section
/-! SUPPORT. The stock through over-paid and unbidden pieces and through the pieces taken in (R16, R65–R67,
R122–R124). -/

namespace Sys2Proof.Machine

/-! ### The WAITING stroke planned last -/

theorem Pool.latest?_some {p : Pool} {chosen : Stroke → Bool} {r : Stroke}
    (h : p.latest? chosen = some r) : r ∈ p.records ∧ r.state = .waiting ∧ chosen r = true := by
  have := List.mem_of_getLast? h
  simpa using this

theorem Pool.latest?_none {p : Pool} {chosen : Stroke → Bool} (h : p.latest? chosen = none) :
    ∀ r ∈ p.records, r.state = .waiting → chosen r = false := by
  have := List.getLast?_eq_none_iff.mp h
  simpa using this

/-! ### An over-pay piece in a cashbox (R123) -/

/-- At most one WAITING stroke was lowered by a piece, and nothing else of the stores and records changed. -/
def State.lowersOne (s t : State) : Prop :=
  (t.stores = s.stores ∧ t.pool.records = s.pool.records) ∨
  ∃ q ∈ s.pool.records, q.state = .waiting ∧ t.stores = (s.lowerStroke q).stores ∧
    t.pool.records = (s.lowerStroke q).pool.records

/-- A change of the cashboxes alone keeps the stock inside an event. -/
theorem State.Loose.of_boxes {s t : State} (h : s.Loose) (hst : t.stores = s.stores)
    (hrec : t.pool.records = s.pool.records)
    (hbox : ∀ k, (t.box k).promised = (s.box k).promised ∧
      (t.box k).count + (t.box k).promised ≤ (t.box k).capacity) : t.Loose where
  figures := h.figures.of_same hrec
    (fun r _ => State.heldBy_congr (by rw [State.store_congr hst]))
    (fun k => by rw [State.store_congr hst]) (fun k => (hbox k).1)
  boxes k := (hbox k).2
  records r hr := (State.recordFits_congr (by rw [State.store_congr hst])
    (by rw [State.store_congr hst])).mpr (h.records r (hrec ▸ hr))

theorem State.Loose.of_same {s t : State} (h : s.Loose) (hst : t.stores = s.stores)
    (hbox : t.boxes = s.boxes) (hrec : t.pool.records = s.pool.records) : t.Loose :=
  h.of_boxes hst hrec (fun k => by rw [State.box_congr hbox]; exact ⟨rfl, h.boxes k⟩)

/-- Lowering a stroke does not see the cashboxes' counts. -/
theorem State.lowerStroke_modBox_stores (s : State) (k : Kind) (f : Cashbox → Cashbox) (r : Stroke) :
    ((s.modBox k f).lowerStroke r).stores = (s.lowerStroke r).stores := by
  unfold State.lowerStroke State.release
  cases r.owner with
  | office => rfl
  | lane l => simp; rfl

/-- An over-pay piece of a skim counts in its box, within capacity: a WAITING skim stroke gives one up where the
box would be too full (R123). -/
theorem State.Loose.boxOverPay {s : State} (h : s.Loose) (linked : s.Linked) (k : Kind) (d : Denom)
    (whole : ∀ r ∈ s.pool.records, r.state = .waiting → 0 < r.count)
    (hrun : ∀ r ∈ s.pool.records, r.owner = .office → r.path = k → r.state = .running →
      s.heldBy r = 0) : (s.boxOverPay k d).Loose ∧ s.lowersOne (s.boxOverPay k d) := by
  have hcount : ((s.box k).setCount d ((s.box k).countOf d + 1)).count = (s.box k).count + 1 :=
    Cashbox.count_add _ d 1
  have hfit := h.boxes k
  unfold State.boxOverPay
  dsimp only
  split
  · rename_i hlt
    refine ⟨h.of_boxes rfl rfl (fun j => ?_), .inl ⟨rfl, rfl⟩⟩
    rw [State.box_modBox]
    split
    · rename_i hj; subst hj; rw [hcount]; exact ⟨rfl, by simp only [Cashbox.setCount]; omega⟩
    · exact ⟨rfl, h.boxes j⟩
  · split
    · rename_i hpos
      split
      · rename_i r hr
        obtain ⟨hmem, hw, hc⟩ := Pool.latest?_some hr
        simp only [Bool.and_eq_true, beq_iff_eq] at hc
        generalize hu : s.modBox k (fun b => b.setCount d (b.countOf d + 1)) = u
        have hust : u.stores = s.stores := by rw [← hu]; rfl
        have hupool : u.pool = s.pool := by rw [← hu]; rfl
        have hubox : ∀ j, u.box j = if j = k then (s.box k).setCount d ((s.box k).countOf d + 1)
            else s.box j := fun j => by rw [← hu, State.box_modBox]
        have hulinked : u.Linked := linked.of_tables hust (by rw [hupool])
        have hslot := linked.filter_slot hmem
        have hlow := h.lowerStroke linked hmem hw (whole r hmem hw)
        have huslot : u.pool.records.filter (fun q => q.slot == r.slot) = [r] := by rw [hupool]; exact hslot
        have hstores : (u.lowerStroke r).stores = (s.lowerStroke r).stores := by
          rw [← hu]; exact State.lowerStroke_modBox_stores s k _ r
        have hrecs : (u.lowerStroke r).pool.records = (s.lowerStroke r).pool.records := by
          rw [State.lowerStroke_records, State.lowerStroke_records, hupool]
        refine ⟨hlow.of_boxes hstores hrecs (fun j => ?_), .inr ⟨r, hmem, hw, hstores, hrecs⟩⟩
        rw [State.box_lowerStroke huslot, State.box_lowerStroke hslot, hubox]
        by_cases hj : j = k
        · subst hj
          simp only [if_true, hc, and_self]
          refine ⟨rfl, ?_⟩
          have hcount' : Cashbox.count { (s.box j).setCount d ((s.box j).countOf d + 1) with
              promised := ((s.box j).setCount d ((s.box j).countOf d + 1)).promised - 1 } =
              (s.box j).count + 1 := (Cashbox.count_congr rfl).trans hcount
          rw [hcount']; simp only [Cashbox.setCount]; omega
        · simp only [hj, hc, if_false, true_and, Ne.symm hj, Nat.sub_zero]
          exact h.boxes j
      · rename_i hnone
        have hzero : (s.box k).promised = 0 := by
          rw [h.figures.promised k]
          refine sumOver_eq_zero (fun r hr hc => ?_)
          have hc' := hc
          simp only [Bool.and_eq_true, beq_iff_eq] at hc'
          rcases linked.live r hr with hw | ⟨hx, -⟩
          · have := Pool.latest?_none hnone r hr hw
            rw [hc] at this; cases this
          · exact hrun r hr hc'.1 hc'.2 hx
        omega
    · split
      · rename_i hcap
        refine ⟨h.of_boxes rfl rfl (fun j => ?_), .inl ⟨rfl, rfl⟩⟩
        rw [State.box_modBox, State.box_modBox]
        split
        · rename_i hj
          subst hj
          simp only [if_true]
          refine ⟨rfl, ?_⟩
          have hcap' : Cashbox.count { (s.box j).setCount d ((s.box j).countOf d + 1) with
              capacity := ((s.box j).setCount d ((s.box j).countOf d + 1)).count } =
              ((s.box j).setCount d ((s.box j).countOf d + 1)).count := Cashbox.count_congr rfl
          rw [hcap']; simp only [Cashbox.setCount]; omega
        · rename_i hj; rw [State.box_modBox_ne _ _ _ _ hj]; exact ⟨rfl, h.boxes j⟩
      · have hf := s.bookAdjusted_frame d (-1)
        obtain ⟨-, -, -, -, -, hst, hbox, -, -, -, -, hpool, -⟩ := hf
        exact ⟨h.of_same hst hbox (by rw [hpool]), .inl ⟨hst, by rw [hpool]⟩⟩

/-- An over-pay piece, wherever it goes, keeps the stock and lowers one stroke at most (R40, R122, R123). -/
theorem State.Loose.overPaidPiece {s : State} (h : s.Loose) (linked : s.Linked) (r : Stroke) (d : Denom)
    (whole : ∀ q ∈ s.pool.records, q.state = .waiting → 0 < q.count)
    (hrun : ∀ q ∈ s.pool.records, q.owner = .office → r.owner = .office → q.path = r.path →
      q.state = .running → s.heldBy q = 0) :
    (s.overPaidPiece r d).Loose ∧ s.lowersOne (s.overPaidPiece r d) := by
  unfold State.overPaidPiece
  cases ho : r.owner with
  | lane l =>
    dsimp only
    obtain ⟨-, -, -, -, -, hst, hbox, -, -, -, -, hpool, -⟩ :=
      State.book_frame (s.modSale l (fun x => x.payPiece d (s.value d) true)) .paid d 1
    have hrec := congrArg Pool.records hpool
    exact ⟨h.of_same hst hbox hrec, .inl ⟨hst, hrec⟩⟩
  | office =>
    dsimp only
    obtain ⟨hloose, hlow⟩ := h.boxOverPay linked r.path d whole (fun q hq h1 h2 h3 => hrun q hq h1 ho h2 h3)
    obtain ⟨-, -, -, -, -, hst, hbox, -, -, -, -, hpool, -⟩ :=
      State.book_frame (s.boxOverPay r.path d) .skimmed d 1
    refine ⟨hloose.of_same hst hbox (by rw [hpool]), ?_⟩
    rwa [State.lowersOne, hst, hpool]

theorem State.lowersOne.linked {s t : State} (h : s.lowersOne t) (linked : s.Linked) : t.Linked := by
  rcases h with ⟨hst, hrec⟩ | ⟨q, hq, hw, hst, hrec⟩
  · exact linked.of_tables hst hrec
  · exact (linked.lowerStroke hq).of_tables hst hrec

/-- No store's reservation rises, and nothing else of a store changes. -/
theorem State.lowersOne.store {s t : State} (h : s.lowersOne t) (linked : s.Linked) (k : StoreId) :
    ∃ n, t.store k = { s.store k with reserved := n } ∧ n ≤ (s.store k).reserved := by
  rcases h with ⟨hst, -⟩ | ⟨q, hq, -, hst, -⟩
  · exact ⟨_, State.store_congr hst k, Nat.le_refl _⟩
  · exact ⟨_, (State.store_congr hst k).trans (State.store_lowerStroke (linked.filter_slot hq) k), Nat.sub_le ..⟩

/-- A store one of whose strokes was lowered gave a reserved piece up with it; on any other the strokes stay
whole. -/
theorem State.lowersOne.gave_or_whole {s t : State} (h : s.lowersOne t) (linked : s.Linked)
    (whole : ∀ q ∈ s.pool.records, q.state = .waiting → 0 < q.count) (k : StoreId) :
    (t.store k).reserved = (s.store k).reserved - 1 ∨
    ∀ q ∈ t.pool.records, q.state = .waiting → q.store = k → 0 < q.count := by
  rcases h with ⟨-, hrec⟩ | ⟨q, hq, -, hst, hrec⟩
  · exact .inr (fun q hq hw _ => whole q (hrec ▸ hq) hw)
  · by_cases hk : q.store = k
    · left
      rw [State.store_congr hst, State.store_lowerStroke (linked.filter_slot hq)]
      simp [hk]
    · right
      intro p hp hw hpk
      rw [hrec, State.lowerStroke_records] at hp
      obtain ⟨p', hp', rfl⟩ := List.mem_map.mp hp
      unfold rewriteSlot at hw hpk ⊢
      split
      · rename_i hslot
        obtain rfl := eq_of_slot_eq linked.nodup hq hp' hslot
        simp only [if_true] at hpk
        exact absurd hpk hk
      · rename_i hslot
        rw [if_neg hslot] at hw
        exact whole p' hp' hw

/-! ### A reservation deficit (R124) -/

/-- A store one piece short takes it from a WAITING stroke on it. -/
theorem State.Loose.absorbDeficit {s : State} (h : s.Loose) (linked : s.Linked) {k : StoreId}
    (hc : (s.store k).channel.holdsNothing = true)
    (others : ∀ j, j ≠ k → (s.store j).reserved ≤ (s.store j).physical)
    (own : (s.store k).reserved ≤ (s.store k).physical + 1)
    (whole : (s.store k).reserved ≤ (s.store k).physical ∨
      ∀ q ∈ s.pool.records, q.state = .waiting → q.store = k → 0 < q.count) :
    (s.absorbDeficit k).Loose ∧ (s.absorbDeficit k).Linked ∧
      ∀ j, ((s.absorbDeficit k).store j).reserved ≤ ((s.absorbDeficit k).store j).physical := by
  unfold State.absorbDeficit
  split
  · rename_i hdef
    have whole := whole.resolve_left (by omega)
    split
    · rename_i r hr
      obtain ⟨hmem, hw, hk⟩ := Pool.latest?_some hr
      simp only [beq_iff_eq] at hk
      refine ⟨h.lowerStroke linked hmem hw (whole r hmem hw hk), linked.lowerStroke hmem, fun j => ?_⟩
      rw [State.store_lowerStroke (linked.filter_slot hmem)]
      by_cases hj : j = k
      · subst hj; simp only [hk, if_true]; omega
      · exact (Nat.sub_le ..).trans (others j hj)
    · rename_i hnone
      have hzero : (s.store k).reserved = 0 := by
        rw [h.figures.reserved k]
        refine sumOver_eq_zero (fun r hr hk => ?_)
        have hstore : r.store = k := by simpa using hk
        rcases linked.live r hr with hw | ⟨-, hs⟩
        · have := Pool.latest?_none hnone r hr hw
          rw [hk] at this; cases this
        · exact State.heldBy_afterRun hs (by rw [hstore]; exact hc)
      omega
  · rename_i hdef
    refine ⟨h, linked, fun j => ?_⟩
    by_cases hj : j = k
    · subst hj; omega
    · exact others j hj

/-! ### Pieces -/

section
variable {s : State} {k : StoreId}

/-- An over-pay piece keeps the stock (R122–R124). -/
theorem State.Stocked.overPay (h : s.Stocked) (linked : s.Linked) {r : Stroke} {slot : SlotId} {ms : Nat}
    (hc : (s.store k).channel = .afterRun slot ms) (d : Denom)
    (hrun : ∀ q ∈ s.pool.records, q.owner = .office → r.owner = .office → q.path = r.path →
      q.state = .running → s.heldBy q = 0) : (s.overPay k r d).Stocked := by
  unfold State.overPay
  split
  · rename_i hpos
    have hloose : (s.modStore k (fun x => { x with physical := x.physical - 1 })).Loose :=
      h.loose.modStore rfl rfl (.inl rfl)
    have hlinked : (s.modStore k (fun x => { x with physical := x.physical - 1 })).Linked :=
      linked.modStore rfl (.inr rfl)
    have hstore := s.store_modStore k (f := fun x => { x with physical := x.physical - 1 })
    have hheld : ∀ q, (s.modStore k (fun x => { x with physical := x.physical - 1 })).heldBy q = s.heldBy q :=
      fun q => State.heldBy_congr (by rw [hstore]; split <;> simp [*])
    obtain ⟨hpaid, hlow⟩ := hloose.overPaidPiece hlinked r d h.whole
      (fun q hq h1 h2 h3 h4 => by rw [hheld]; exact hrun q hq h1 h2 h3 h4)
    have hlinked' := hlow.linked hlinked
    have hone := hlow.store hlinked
    have hkept := hlow.gave_or_whole hlinked h.whole k
    generalize State.overPaidPiece _ r d = t at *
    obtain ⟨n, hk, hn⟩ := hone k
    have hphys := h.stores k
    simp only [hstore, if_true] at hk hn hkept
    obtain ⟨hloose', hlinked'', hstores⟩ := hpaid.absorbDeficit hlinked' (k := k)
      (by rw [hk]; simp [hc, Channel.holdsNothing])
      (fun j hj => by
        obtain ⟨m, hj', hm⟩ := hone j
        rw [hj']
        simp only [hstore, if_neg hj] at hm ⊢
        exact hm.trans (h.stores j))
      (by rw [hk]; simp only; omega)
      (hkept.imp_left (fun e => by rw [hk] at e ⊢; simp only at e ⊢; omega))
    exact hloose'.dropEmptied hlinked'' hstores
  · obtain ⟨-, -, -, -, -, hst, hbox, -, -, -, -, hpool, -⟩ := s.bookAdjusted_frame d 1
    have hrec := congrArg Pool.records hpool
    have hstock := h.of_same hst hbox hrec
    have hlinked := linked.of_tables hst hrec
    have hchan := congrArg Store.channel (State.store_congr hst k)
    have hheld : ∀ q, (s.bookAdjusted d 1).heldBy q = s.heldBy q :=
      fun q => State.heldBy_congr (by rw [State.store_congr hst])
    generalize State.bookAdjusted s d 1 = u at *
    obtain ⟨hpaid, hlow⟩ := hstock.loose.overPaidPiece hlinked r d hstock.whole
      (fun q hq h1 h2 h3 h4 => by rw [hheld]; exact hrun q (hrec ▸ hq) h1 h2 h3 h4)
    have hlinked' := hlow.linked hlinked
    have hone := hlow.store hlinked
    generalize State.overPaidPiece u r d = t at *
    have hchan' : (t.store k).channel = .afterRun slot ms := by
      obtain ⟨n, hk, -⟩ := hone k; rw [hk, ← hc, ← hchan]
    have hpaying : (t.store k).state = .paying :=
      (hlinked'.runs k slot (by rw [hchan']; rfl)).1
    have hmark : t.markUncertain k = t.modStore k (fun x => { x with marked := true }) := by
      simp [State.markUncertain_cases, hpaying]
    rw [hmark]
    refine (hpaid.modStore rfl rfl (.inl rfl)).dropEmptied (hlinked'.modStore rfl (.inr rfl)) (fun j => ?_)
    obtain ⟨n, hj, hn⟩ := hone j
    rw [State.store_modStore]
    split
    · rename_i hjk; subst hjk; rw [hj]; exact hn.trans (hstock.stores j)
    · rw [hj]; exact hn.trans (hstock.stores j)

/-- An unbidden piece keeps the stock (R16): where it was reserved, the mark drops what reserved it. -/
theorem State.Stocked.unbidden (h : s.Stocked) (linked : s.Linked) (k : StoreId) :
    (s.unbidden k).Stocked := by
  have counted : ∃ u : State, u.pool.records = s.pool.records ∧ u.boxes = s.boxes ∧
      (∀ j, u.store j = if j = k then { s.store k with physical := (s.store k).physical - 1 } else s.store j) ∧
      u = if 0 < (s.store k).physical then
        (s.modStore k (fun x => { x with physical := x.physical - 1 })).bookAdjustedStore k (-1) else s := by
    refine ⟨_, ?_, ?_, fun j => ?_, rfl⟩
    · split <;> simp
    · split <;> simp
    · split
      · rw [State.store_congr (State.bookAdjustedStore_frame _ _ _).2.2.2.2.2.1, State.store_modStore]
      · split
        · rename_i hz hj; subst hj
          have : (s.store j).physical = 0 := by omega
          rw [this]
          have := congrArg (fun n => ({ s.store j with physical := n } : Store)) this
          exact this
        · rfl
  obtain ⟨u, hrec, hbox, hst, hu⟩ := counted
  have hloose : u.Loose := by
    have := h.loose.modStore (k := k) (f := fun x => { x with physical := x.physical - 1 }) rfl rfl (.inl rfl)
    refine ⟨this.figures.of_same hrec (fun r _ => State.heldBy_congr ?_) (fun j => ?_) (fun b => ?_),
      fun b => ?_, fun r hr => (State.recordFits_congr ?_ ?_).mpr (this.records r (hrec ▸ hr))⟩
    any_goals rw [hst, s.store_modStore]
    · rw [State.box_congr hbox]; rfl
    · rw [State.box_congr hbox]; exact h.boxes b
  have hlinked : u.Linked := linked.of_same (by rw [hrec]) (fun j => by
    rw [hst]; split <;> simp [*])
  have others : ∀ j, j ≠ k → (u.store j).reserved ≤ (u.store j).physical := fun j hj => by
    rw [hst, if_neg hj]; exact h.stores j
  have own : (u.store k).state = (s.store k).state := by rw [hst, if_pos rfl]
  have whole : ∀ r ∈ u.pool.records, r.state = .waiting → 0 < r.count := by rw [hrec]; exact h.whole
  have idle (hn : (s.store k).state ≠ .ready) (hp : (s.store k).state ≠ .paying) : u.Stocked := by
    refine hloose.stocked (fun j => ?_) whole
    by_cases hj : j = k
    · subst hj
      rw [State.reserved_eq_zero hloose.figures
        (State.no_strokes_of_state hloose (by rwa [own]) (by rwa [own]))]
      exact Nat.zero_le _
    · exact others j hj
  unfold State.unbidden
  dsimp only
  rw [← hu]
  cases hs : (s.store k).state with
  | ready => exact hloose.markUncertain hlinked others (.inl (own.trans hs)) whole
  | uncertain => exact idle (by simp [hs]) (by simp [hs])
  | disabled => exact idle (by simp [hs]) (by simp [hs])
  | jammed => exact h
  | absent => exact h
  | paying => exact h

/-- A confirmed entry keeps the stock (R65). -/
theorem State.Stocked.confirmFill (h : s.Stocked) (linked : s.Linked) (f : Fill) (rest : List Fill) :
    (s.confirmFill k f rest).Stocked := by
  have hfills : (s.modStore k (fun x => { x with fills := rest })).Stocked :=
    h.modStore rfl rfl (h.stores k) (.inl rfl)
  unfold State.confirmFill
  dsimp only
  split
  · exact hfills
  · split
    · have hup := hfills.modStore (k := k) (f := fun x => { x with physical := x.physical + 1 }) rfl rfl
        ((hfills.stores k).trans (Nat.le_succ _)) (.inl rfl)
      obtain ⟨-, -, -, -, -, hst, hbox, -, -, -, -, hpool, -⟩ := State.book_frame
        ((s.modStore k (fun x => { x with fills := rest })).modStore k
          (fun x => { x with physical := x.physical + 1 })) f.counter.counter f.denom 1
      exact hup.of_same hst hbox (by rw [hpool])
    · exact hfills.markUncertain (linked.modStore rfl (.inr rfl)) k

/-- A stray entry keeps the stock (R67). -/
theorem State.Stocked.strayEntry (h : s.Stocked) (linked : s.Linked) (k : StoreId) :
    (s.strayEntry k).Stocked := by
  unfold State.strayEntry
  split
  · exact h
  · rename_i d _
    split
    · exact h
    · split
      · have hup := h.modStore (k := k) (f := fun x => { x with physical := x.physical + 1 }) rfl rfl
          ((h.stores k).trans (Nat.le_succ _)) (.inl rfl)
        obtain ⟨-, -, -, -, -, hst, hbox, -, -, -, -, hpool, -⟩ := State.bookAdjusted_frame
          (s.modStore k (fun x => { x with physical := x.physical + 1 })) d 1
        have hrec := congrArg Pool.records hpool
        exact (hup.of_same hst hbox hrec).markUncertain
          ((linked.modStore rfl (.inr rfl)).of_tables hst hrec) k
      · exact h.markUncertain linked k

/-- An entry that never came keeps the stock (R66). -/
theorem State.Stocked.expireFill (h : s.Stocked) (linked : s.Linked) (f : Fill) (rest : List Fill) :
    (((s.modStore k (fun x => { x with fills := rest })).bookUnplaced f).markUncertain k).Stocked := by
  obtain ⟨-, -, -, -, -, hst, hbox, -, -, -, -, hpool, -⟩ :=
    State.bookUnplaced_frame (s.modStore k (fun x => { x with fills := rest })) f
  have hrec := congrArg Pool.records hpool
  exact ((h.modStore (k := k) (f := fun x => { x with fills := rest }) rfl rfl (h.stores k)
    (.inl rfl)).of_same hst hbox hrec).markUncertain ((linked.modStore rfl (.inr rfl)).of_tables hst hrec) k

end

end Sys2Proof.Machine
end

section
/-! SUPPORT. A plan that is laid down (R17, R21, R91, R100), and the stock after an attempt. -/

namespace Sys2Proof.Machine

/-! ### What a plan reserves -/

/-- The pieces a plan takes from a store. -/
def plannedOn (xs : List Planned) (k : StoreId) : Nat :=
  (xs.map (fun x => if x.store = k then x.count else 0)).sum

theorem plannedOn_cons (x : Planned) (xs : List Planned) (k : StoreId) :
    plannedOn (x :: xs) k = (if x.store = k then x.count else 0) + plannedOn xs k := by
  simp [plannedOn]

/-- A plan whose every reservation is made: it raises the reserved counts of its stores, each READY or PAYING and
with the pieces free, and changes nothing else (R17, R91). -/
theorem State.reserveAll_some {s t : State} {xs : List Planned} (h : s.reserveAll xs = some t) :
    t = { s with stores := t.stores } ∧
    (∀ k, t.store k = { s.store k with reserved := (s.store k).reserved + plannedOn xs k }) ∧
    (∀ k, (s.store k).reserved ≤ (s.store k).physical → (t.store k).reserved ≤ (t.store k).physical) ∧
    ∀ x ∈ xs, 0 < x.count → (s.store x.store).state = .ready ∨ (s.store x.store).state = .paying := by
  induction xs generalizing s with
  | nil =>
    cases h
    exact ⟨rfl, fun k => by simp [plannedOn], fun k hk => hk, fun x hx => by cases hx⟩
  | cons x xs ih =>
    rw [State.reserveAll_cons] at h
    split at h
    · rename_i hfree
      obtain ⟨heq, hst, hle, hstate⟩ := ih h
      have hone : ∀ k, (s.setStore x.store { s.store x.store with
          reserved := (s.store x.store).reserved + x.count }).store k = { s.store k with
          reserved := (s.store k).reserved + if x.store = k then x.count else 0 } := by
        intro k
        by_cases hk : x.store = k
        · subst hk; simp
        · rw [s.store_setStore_ne _ _ _ (Ne.symm hk)]; simp [hk]
      have hstate' : 0 < x.count → (s.store x.store).state = .ready ∨ (s.store x.store).state = .paying := by
        intro hpos
        by_contra hn
        rw [Store.free_eq, if_neg hn] at hfree
        omega
      refine ⟨heq, fun k => ?_, fun k hk => hle k ?_, fun y hy hpos => ?_⟩
      · rw [hst, hone, plannedOn_cons]; simp [Nat.add_assoc]
      · rw [hone]
        simp only
        split
        · rename_i hx
          subst hx
          rw [Store.free_eq] at hfree
          split at hfree <;> omega
        · exact hk
      · rcases List.mem_cons.mp hy with rfl | hy
        · exact hstate' hpos
        · have := hstate y hy hpos
          rwa [hone] at this
    · cases h

/-! ### Writing a plan into the pool -/

/-- The strokes of a plan take the slots from the top of the free list and join the end of the planning order in
the order of the plan (R95, R96, R100). -/
theorem Pool.write_eq (o : Owner) (origin : Origin) (plan : List Planned) (p : Pool)
    (h : plan.length ≤ p.free.length) :
    Pool.write o origin plan p = { p with
      free := p.free.drop plan.length
      records := p.records ++ (p.free.zip plan).map (fun (slot, x) => x.record o origin slot) } := by
  induction plan generalizing p with
  | nil => simp [Pool.write]
  | cons x xs ih =>
    unfold Pool.write
    cases hf : p.free with
    | nil => simp [hf] at h
    | cons slot rest =>
      dsimp only
      rw [ih _ (by simpa [hf] using h)]
      simp

/-- The records a plan is written as. -/
def writtenOf (o : Owner) (origin : Origin) (free : List SlotId) (plan : List Planned) : List Stroke :=
  (free.zip plan).map (fun (slot, x) => x.record o origin slot)

theorem mem_writtenOf {o : Owner} {origin : Origin} {free : List SlotId} {plan : List Planned} {r : Stroke}
    (h : r ∈ writtenOf o origin free plan) :
    ∃ slot ∈ free, ∃ x ∈ plan, r = x.record o origin slot := by
  obtain ⟨⟨slot, x⟩, hmem, rfl⟩ := List.mem_map.mp h
  exact ⟨slot, (List.of_mem_zip hmem).1, x, (List.of_mem_zip hmem).2, rfl⟩

/-- The records a plan is written as weigh what the plan does. -/
theorem sumOver_writtenOf {o : Owner} {origin : Origin} {free : List SlotId} {plan : List Planned}
    (hlen : plan.length ≤ free.length) {c : Stroke → Bool} {p : Stroke → Nat} {g : Planned → Nat}
    (h : ∀ slot ∈ free, ∀ x ∈ plan, (if c (x.record o origin slot) then p (x.record o origin slot) else 0) = g x) :
    sumOver (writtenOf o origin free plan) c p = (plan.map g).sum := by
  have hsnd : (free.zip plan).map Prod.snd = plan := List.map_snd_zip hlen
  rw [sumOver_eq_sum_ite, writtenOf, List.map_map]
  conv_rhs => rw [← hsnd, List.map_map]
  refine congrArg List.sum (List.map_congr_left (fun y hy => ?_))
  exact h y.1 (List.of_mem_zip hy).1 y.2 (List.of_mem_zip hy).2

/-! ### The counts of a plan -/

theorem Snapshot.takeFrom_pos (n : Snapshot) (ks : List StoreId) (want : Nat) :
    ∀ x ∈ n.takeFrom ks want, 0 < x.count := by
  induction ks generalizing want with
  | nil => intro x hx; cases hx
  | cons k ks ih =>
    unfold Snapshot.takeFrom
    dsimp only
    split
    · exact ih want
    · intro x hx
      rcases List.mem_cons.mp hx with rfl | hx
      · exact Nat.pos_of_ne_zero ‹_›
      · exact ih _ x hx

theorem insertByStore_perm (x : Planned) (ys : List Planned) : (insertByStore x ys).Perm (x :: ys) := by
  induction ys with
  | nil => exact List.Perm.refl _
  | cons y ys ih =>
    unfold insertByStore
    split
    · exact List.Perm.refl _
    · exact (ih.cons y).trans (List.Perm.swap x y ys)

theorem foldr_insertByStore_perm (xs : List Planned) : (xs.foldr insertByStore []).Perm xs := by
  induction xs with
  | nil => exact List.Perm.refl _
  | cons x xs ih => exact (insertByStore_perm x _).trans (ih.cons x)

theorem Snapshot.allocate_pos (n : Snapshot) (ks : List StoreId) (count : Nat) :
    ∀ x ∈ n.allocate ks count, 0 < x.count := fun x hx =>
  n.takeFrom_pos _ _ x ((foldr_insertByStore_perm _).mem_iff.mp hx)

theorem Snapshot.strokesOf_pos (n : Snapshot) (excluded : List StoreId) (k : Kind)
    (counted : List (Position × Nat)) : ∀ x ∈ n.strokesOf excluded k counted, 0 < x.count := by
  induction counted with
  | nil => intro x hx; cases hx
  | cons y ys ih =>
    obtain ⟨p, count⟩ := y
    intro x hx
    rcases List.mem_append.mp hx with hx | hx
    · split at hx
      · exact n.allocate_pos _ _ x hx
      · cases hx
    · exact ih x hx

/-- Every stroke of a plan has a piece to pay (R86). -/
theorem Work.plan_pos (w : Work) (limits : Limits) : ∀ x ∈ (w.plan limits).strokes, 0 < x.count := by
  intro x hx
  unfold Work.plan at hx
  split at hx
  · rcases List.mem_append.mp hx with hx | hx <;> exact Snapshot.strokesOf_pos _ _ _ _ x hx
  · rename_i r _
    cases r with
    | toTarget => rcases List.mem_append.mp hx with hx | hx <;> exact Snapshot.strokesOf_pos _ _ _ _ x hx
    | emptyStore k =>
      simp only [Snapshot.skimPlan, planWith, Snapshot.emptyStrokes] at hx
      split at hx
      · cases hx
      · rw [List.mem_singleton] at hx
        subst hx
        exact Nat.pos_of_ne_zero ‹_›

/-- The pieces of each kind are those of the strokes. -/
theorem Work.plan_pieces (w : Work) (limits : Limits) :
    (w.plan limits).coins = piecesOf .coin (w.plan limits).strokes ∧
    (w.plan limits).notes = piecesOf .note (w.plan limits).strokes := by
  unfold Work.plan
  split
  · exact ⟨rfl, rfl⟩
  · rename_i r _; cases r <;> exact ⟨rfl, rfl⟩

theorem piecesOf_eq (k : Kind) (xs : List Planned) :
    piecesOf k xs = (xs.map (fun x => if storeKind x.store = k then x.count else 0)).sum := by
  induction xs with
  | nil => rfl
  | cons x xs ih =>
    by_cases h : storeKind x.store = k <;> simp_all [piecesOf]

end Sys2Proof.Machine
end

section
/-! SUPPORT. The stock after an attempt of the planner (R91–R93). -/

namespace Sys2Proof.Machine

/-- The stores, the cashboxes and the records stand. -/
def State.sameStock (s t : State) : Prop :=
  t.stores = s.stores ∧ t.boxes = s.boxes ∧ t.pool.records = s.pool.records

theorem State.sameStock.stocked {s t : State} (h : s.sameStock t) (hs : s.Stocked) : t.Stocked :=
  hs.of_same h.1 h.2.1 h.2.2

theorem State.sameStock.trans {s t u : State} (h : s.sameStock t) (h' : t.sameStock u) : s.sameStock u :=
  ⟨h'.1.trans h.1, h'.2.1.trans h.2.1, h'.2.2.trans h.2.2⟩

theorem State.sameStock.refl (s : State) : s.sameStock s := ⟨rfl, rfl, rfl⟩

/-- The promised count of a cashbox after a plan of the owner is laid down (R21). -/
theorem State.box_layDown (s : State) (job : Job) (plan : Plan) (k : Kind) :
    (s.layDown job plan).box k = { s.box k with promised := (s.box k).promised +
      if job.owner = .office then (match k with | .coin => plan.coins | .note => plan.notes) else 0 } := by
  unfold State.layDown
  cases job with
  | lane l r => rfl
  | skim r => cases k <;> rfl

/-- A free slot is on no channel. -/
theorem State.Sound.slot_ne_of_free {s : State} (h : s.Sound) {slot : SlotId} (hf : slot ∈ s.pool.free)
    (k : StoreId) : (s.store k).channel.slot? ≠ some slot := by
  intro hs
  obtain ⟨-, r, hr, hslot, -⟩ := h.linked.runs k slot hs
  exact (List.nodup_append.mp h.partition.nodup).2.2 slot hf slot
    (List.mem_map.mpr ⟨r, hr, hslot⟩) rfl

/-- A plan whose reservations are made and whose cashboxes have room is laid down with the stock in step
(R17, R21, R91). -/
theorem State.Sound.layDown {s t : State} (h : s.Sound) {job : Job} {plan : Plan}
    (hpos : ∀ x ∈ plan.strokes, 0 < x.count)
    (hpieces : plan.coins = piecesOf .coin plan.strokes ∧ plan.notes = piecesOf .note plan.strokes)
    (hspace : s.spaceAllows job plan = true) (hres : s.reserveAll plan.strokes = some t)
    (hlen : plan.strokes.length ≤ s.pool.free.length) : (t.layDown job plan).Stocked := by
  obtain ⟨heq, hst, hle, hstate⟩ := State.reserveAll_some hres
  have hpool : t.pool = s.pool := by rw [heq]
  have hbox : ∀ k, t.box k = s.box k := fun k => State.box_congr (by rw [heq]) k
  have hrec : (t.layDown job plan).pool.records =
      s.pool.records ++ writtenOf job.owner job.origin s.pool.free plan.strokes := by
    have : (t.layDown job plan).pool = t.pool.write job.owner job.origin plan.strokes := by
      cases job <;> rfl
    rw [this, hpool, Pool.write_eq _ _ _ _ hlen]; rfl
  have hstore : ∀ k, (t.layDown job plan).store k =
      { s.store k with reserved := (s.store k).reserved + plannedOn plan.strokes k } := by
    intro k; rw [← hst]; cases job <;> rfl
  have hbox' := t.box_layDown job plan
  generalize State.layDown t job plan = u at hrec hstore hbox'
  have hold : ∀ r, u.heldBy r = s.heldBy r := fun r => State.heldBy_congr (by rw [hstore])
  have hnew : ∀ slot ∈ s.pool.free, ∀ x : Planned, u.heldBy (x.record job.owner job.origin slot) = x.count := by
    intro slot hf x
    have hidle := h.slot_ne_of_free hf x.store
    simp [State.heldBy, Planned.record, hstore, Channel.runs, hidle]
  have hsum : ∀ (c : Stroke → Bool) (g : Planned → Nat),
      (∀ slot ∈ s.pool.free, ∀ x ∈ plan.strokes,
        (if c (x.record job.owner job.origin slot) then x.count else 0) = g x) →
      u.sumStrokes c u.heldBy = s.sumStrokes c s.heldBy + (plan.strokes.map g).sum := by
    intro c g hg
    rw [State.sumStrokes_eq, hrec, sumOver_append]
    refine congrArg₂ (· + ·) (sumOver_congr (fun r _ => by rw [hold])) (sumOver_writtenOf hlen ?_)
    intro slot hf x hx
    rw [hnew slot hf x]; exact hg slot hf x hx
  have hkind : ∀ k : Kind, (match k with | .coin => plan.coins | .note => plan.notes) =
      piecesOf k plan.strokes := by
    intro k; cases k
    · exact hpieces.1
    · exact hpieces.2
  refine ⟨⟨fun k => ?_, fun k => ?_⟩, fun k => ?_, fun k => ?_, fun r hr => ?_, fun r hr hw => ?_⟩
  · rw [hstore, hsum _ (fun x => if x.store = k then x.count else 0)
      (fun slot _ x _ => by simp [Planned.record]), h.stocked.figures.reserved k]
    rfl
  · rw [hbox', hbox, hkind]
    simp only
    by_cases ho : job.owner = .office
    · rw [if_pos ho, hsum _ (fun x => if storeKind x.store = k then x.count else 0)
        (fun slot _ x _ => by simp [Planned.record, ho]), h.stocked.figures.promised k, piecesOf_eq]
    · rw [if_neg ho, hsum _ (fun _ => 0) (fun slot _ x _ => by simp [Planned.record, ho]),
        h.stocked.figures.promised k]
      simp
  · have := hle k (h.stocked.stores k)
    rw [hst] at this
    rw [hstore]
    exact this
  · rw [hbox', hbox, hkind]
    have hfit := h.stocked.boxes k
    cases job with
    | lane l r => simpa [Job.owner] using hfit
    | skim r =>
      have hspace' : piecesOf k plan.strokes ≤ s.space k := by
        simp only [State.spaceAllows, Bool.and_eq_true, decide_eq_true_eq] at hspace
        cases k
        · rw [← hpieces.1]; exact hspace.1
        · rw [← hpieces.2]; exact hspace.2
      have hcount : Cashbox.count { s.box k with promised := (s.box k).promised +
          if (Job.skim r).owner = .office then piecesOf k plan.strokes else 0 } = (s.box k).count :=
        Cashbox.count_congr rfl
      rw [hcount]
      unfold State.space at hspace'
      simp only [Job.owner, if_true]
      split at hspace' <;> omega
  · rw [hrec] at hr
    rcases List.mem_append.mp hr with hr | hr
    · exact (State.recordFits_congr (by rw [hstore]) (by rw [hstore])).mpr (h.stocked.records r hr)
    · obtain ⟨slot, hf, x, hx, rfl⟩ := mem_writtenOf hr
      refine ⟨rfl, ?_, fun _ => rfl, fun hrun => by simp [Planned.record] at hrun⟩
      rw [hstore]
      exact hstate x hx (hpos x hx)
  · rw [hrec] at hr
    rcases List.mem_append.mp hr with hr | hr
    · exact h.stocked.whole r hr hw
    · obtain ⟨slot, hf, x, hx, rfl⟩ := mem_writtenOf hr
      exact hpos x hx

/-! ### What an attempt hands back -/

section
variable (s : State)

theorem State.sameStock_nextMakeup (l : Lane) : s.sameStock (s.nextMakeup l) := by
  unfold State.nextMakeup; split <;> exact ⟨rfl, rfl, rfl⟩

theorem State.sameStock_handBack (job : Job) (plan : Plan) : s.sameStock (s.handBack job plan) := by
  unfold State.handBack
  split
  · exact ⟨rfl, rfl, rfl⟩
  · exact ⟨rfl, rfl, rfl⟩
  · exact State.sameStock.trans (t := s.modSale _ _) ⟨rfl, rfl, rfl⟩ (State.sameStock_nextMakeup _ _)
  · exact .refl s

theorem State.sameStock_handStockChanged (job : Job) (target : Nat) :
    s.sameStock (s.handStockChanged job target) := by
  unfold State.handStockChanged
  split
  · exact ⟨rfl, rfl, rfl⟩
  · exact ⟨rfl, rfl, rfl⟩
  · exact State.sameStock.trans (t := s.modSale _ _) ⟨rfl, rfl, rfl⟩ (State.sameStock_nextMakeup _ _)
  · exact .refl s

theorem State.sameStock_completeWithdrawn (w : Work) : s.sameStock (s.completeWithdrawn w) := by
  unfold State.completeWithdrawn; split <;> exact ⟨rfl, rfl, rfl⟩

theorem State.sameStock_completeRefused (w : Work) : s.sameStock (s.completeRefused w) := by
  unfold State.completeRefused; split <;> exact ⟨rfl, rfl, rfl⟩

theorem State.sameStock_freePlanner : s.sameStock s.freePlanner := ⟨rfl, rfl, rfl⟩

theorem State.sameStock_recompute (w : Work) : s.sameStock (s.recompute w) := by
  unfold State.recompute
  split
  · exact ⟨rfl, rfl, rfl⟩
  · exact s.sameStock_freePlanner.trans (State.sameStock_handStockChanged _ _ _)

end

/-- An attempt that completes keeps the stock (R91). -/
theorem State.Sound.completeAttempt {s t : State} (h : s.Sound) {w : Work}
    (ht : s.completeAttempt w = some t) : t.Stocked := by
  unfold State.completeAttempt at ht
  dsimp only at ht
  split at ht
  · cases ht
    exact (s.sameStock_freePlanner.trans (State.sameStock_completeWithdrawn _ w)).stocked h.stocked
  split at ht
  · cases ht
    exact (s.sameStock_freePlanner.trans (State.sameStock_completeRefused _ w)).stocked h.stocked
  split at ht
  · cases ht
    exact (s.sameStock_freePlanner.trans (State.sameStock_handBack _ _ _)).stocked h.stocked
  split at ht
  · cases ht; exact (s.sameStock_recompute w).stocked h.stocked
  · rename_i u hu
    split at hu
    · rename_i hspace
      split at ht
      · rename_i hlen
        cases ht
        have hpool : u.pool = s.pool := by rw [(State.reserveAll_some hu).1]
        rw [hpool] at hlen
        have hlaid := h.layDown (w.plan_pos s.limits) (w.plan_pieces s.limits) hspace hu hlen
        exact ((State.sameStock_freePlanner _).trans (State.sameStock_handBack _ _ _)).stocked hlaid
      · cases ht
    · cases hu

end Sys2Proof.Machine
end

section
/-! SUPPORT. The stock through the requests of the three ports. -/

namespace Sys2Proof

theorem mapTable_get {α β : Type} {n : Nat} (f : α → β) (v : Vector α n) (i : Fin n) :
    (mapTable f v)[i] = f v[i] := by simp [mapTable, Vector.getElem_mk]

namespace Machine

/-! ### The close of an event -/

/-- The stock holds, and Retained Memory has the cashboxes as they were or as they are. -/
def State.keepsStock (s t : State) : Prop :=
  t.Stocked ∧ (t.retained.boxes = s.retained.boxes ∨ t.retained.boxes = t.capture.boxes)

theorem State.keepsStock_of_same {s t : State} (hs : s.Stocked) (h : s.sameStock t)
    (hr : t.retained = s.retained) : s.keepsStock t := ⟨h.stocked hs, .inl (by rw [hr])⟩

theorem State.keepsStock_self {s : State} (hs : s.Stocked) : s.keepsStock s := ⟨hs, .inl rfl⟩

theorem State.sameStock_closeEvent (s : State) : s.sameStock s.closeEvent := ⟨rfl, rfl, rfl⟩

theorem State.sameStock_settleWork (s : State) : s.sameStock s.settleWork :=
  ⟨by simp, by simp, s.settleWork_records.1⟩

theorem State.keepsStock_closeEvent {s t : State} (h : t.Stocked) : s.keepsStock t.closeEvent :=
  ⟨t.sameStock_closeEvent.stocked h, .inr rfl⟩

theorem State.keepsStock_finish {s t : State} (h : t.Stocked) : s.keepsStock t.finish :=
  State.keepsStock_closeEvent (t.sameStock_settleWork.stocked h)

@[simp] theorem State.clearTallies_records (s : State) (o : Owner) :
    (s.clearTallies o).pool.records = s.pool.records := rfl

theorem State.sameStock_closeSale (s : State) (l : Lane) (o : SaleOutcome) :
    s.sameStock (s.closeSale l o) := ⟨by simp, by simp, by simp [State.closeSale]⟩

theorem State.sameStock_beginRefund (s : State) (l : Lane) : s.sameStock (s.beginRefund l) :=
  ⟨by simp, by simp, by simp⟩

theorem State.sameStock_beginSettle (s : State) (l : Lane) : s.sameStock (s.beginSettle l) := by
  unfold State.beginSettle
  dsimp only
  split
  · exact State.sameStock.trans (t := s.modSale l _) ⟨rfl, rfl, rfl⟩ (State.sameStock_closeSale _ _ _)
  · exact ⟨rfl, rfl, rfl⟩

/-! ### Sales -/

section
variable {s : State} (h : s.Sound)
include h

theorem State.Sound.openSale (l : Lane) (payload : List Byte) :
    s.keepsStock (openSale l payload s).1 := by
  unfold Machine.openSale
  split
  · split
    · exact State.keepsStock_self h.stocked
    · split
      · exact State.keepsStock_self h.stocked
      · split
        · exact State.keepsStock_self h.stocked
        · split
          · exact State.keepsStock_self h.stocked
          · exact State.keepsStock_closeEvent (h.stocked.of_same rfl rfl rfl)
  · exact State.keepsStock_self h.stocked

theorem State.Sound.settle (l : Lane) (payload : List Byte) : s.keepsStock (settle l payload s).1 := by
  unfold Machine.settle
  split
  · split
    · exact State.keepsStock_self h.stocked
    · rename_i short _
      split
      · exact State.keepsStock_self h.stocked
      · dsimp only
        split
        · exact State.keepsStock_closeEvent (h.stocked.of_same rfl rfl rfl)
        · have hbefore : s.sameStock ((s.laneFlag l .settleRefused false).modSale l (fun x =>
              { x with acceptShort := x.acceptShort || short })) := ⟨rfl, rfl, rfl⟩
          exact State.keepsStock_finish ((hbefore.trans (State.sameStock_beginSettle _ l)).stocked h.stocked)
  · exact State.keepsStock_self h.stocked

theorem State.Sound.cancelSale (l : Lane) : s.keepsStock (cancelSale l s).1 := by
  unfold Machine.cancelSale
  split
  · split
    · exact State.keepsStock_finish ((s.sameStock_closeSale l _).stocked h.stocked)
    · exact State.keepsStock_finish ((s.sameStock_beginRefund l).stocked h.stocked)
  · split
    · split
      · exact State.keepsStock_finish ((s.sameStock_beginRefund l).stocked h.stocked)
      · exact State.keepsStock_closeEvent (h.stocked.of_same rfl rfl rfl)
    · exact State.keepsStock_self h.stocked
  · exact State.keepsStock_self h.stocked
  · exact State.keepsStock_self h.stocked
  · exact State.keepsStock_self h.stocked

theorem State.Sound.haltPayout (l : Lane) : s.keepsStock (haltPayout l s).1 := by
  unfold Machine.haltPayout
  split
  · exact State.keepsStock_self h.stocked
  · split
    · exact State.keepsStock_self h.stocked
    · have hsame : s.sameStock ((s.modSale l Sale.halt).withdrawMakeup l) := by
        unfold State.withdrawMakeup; split <;> exact ⟨rfl, rfl, rfl⟩
      exact State.keepsStock_finish ((hsame.stocked h.stocked).drops
        (h.linked.of_tables hsame.1 hsame.2.2) _)

theorem State.Sound.collect (l : Lane) : s.keepsStock (collect l s).1 := by
  unfold Machine.collect
  split
  · exact State.keepsStock_finish ((s.sameStock_closeSale l _).stocked h.stocked)
  · exact State.keepsStock_self h.stocked

end

/-! ### Retracted notes -/

theorem Sale.paidPieces_setPieces_ne (x : Sale) (d e : Denom) (n : Nat) (h : e ≠ d) :
    (x.setPieces d n).paidPieces e = x.paidPieces e := by
  have hv : d.val ≠ e.val := fun he => h (Fin.ext he.symm)
  simp [Sale.paidPieces, Sale.setPieces, hv]

/-- One note denomination of a bundle goes from the sale to the note cashbox (R47). -/
theorem State.retractOne_tables (l : Lane) (s : State) (d : Denom) :
    let t := State.retractOne l s d
    t.stores = s.stores ∧ t.pool = s.pool ∧
    (∀ k, t.box k = if k = .note then
      (s.box .note).setCount d ((s.box .note).countOf d + (s.sale l).paidPieces d) else s.box k) ∧
    ∀ e, e ≠ d → (t.sale l).paidPieces e = (s.sale l).paidPieces e := by
  intro t
  obtain ⟨-, -, -, -, -, hst, hbox, -, hlanes, -, -, hpool, -⟩ := State.book_frame
    (s.modBox .note (fun b => b.setCount d (b.countOf d + (s.sale l).paidPieces d))) .retracted d
      ((s.sale l).paidPieces d)
  refine ⟨hst, hpool, fun k => (State.box_congr hbox k).trans (State.box_modBox ..), fun e he => ?_⟩
  have hsale : t.sale l = Sale.setPieces _ d 0 := State.sale_modSale_self _ l _
  rw [hsale, Sale.paidPieces_setPieces_ne _ _ _ _ he]
  exact congrArg (fun x : PerLane LaneControl => (x.get l).sale.paidPieces e) hlanes

/-- A bundle of distinct denominations goes into the note cashbox whole (R47). -/
theorem State.retract_tables (l : Lane) (ds : List Denom) (s : State) (nodup : ds.Nodup) :
    let t := ds.foldl (State.retractOne l) s
    t.stores = s.stores ∧ t.pool = s.pool ∧ t.box .coin = s.box .coin ∧
    (t.box .note).promised = (s.box .note).promised ∧ (t.box .note).capacity = (s.box .note).capacity ∧
    (t.box .note).count = (s.box .note).count + (ds.map (s.sale l).paidPieces).sum := by
  induction ds generalizing s with
  | nil => exact ⟨rfl, rfl, rfl, rfl, rfl, rfl⟩
  | cons d ds ih =>
    obtain ⟨hd, nodup⟩ := List.nodup_cons.mp nodup
    obtain ⟨hst, hpool, hbox, hsale⟩ := State.retractOne_tables l s d
    have hsum : ds.map ((State.retractOne l s d).sale l).paidPieces = ds.map (s.sale l).paidPieces :=
      List.map_congr_left (fun e he => hsale e (fun hx => hd (hx ▸ he)))
    obtain ⟨h1, h2, h3, h4, h5, h6⟩ := ih (State.retractOne l s d) nodup
    simp only [hbox, if_true, reduceCtorEq, if_false, hsum, Cashbox.count_add] at h1 h2 h3 h4 h5 h6
    refine ⟨h1.trans hst, h2.trans hpool, h3, h4, h5, h6.trans ?_⟩
    rw [List.map_cons, List.sum_cons, Nat.add_assoc]

theorem State.Sound.retractNotes {s : State} (h : s.Sound) (l : Lane) :
    s.keepsStock (retractNotes l s).1 := by
  unfold Machine.retractNotes
  split
  · exact State.keepsStock_self h.stocked
  split
  · exact State.keepsStock_self h.stocked
  split
  · exact State.keepsStock_self h.stocked
  · rename_i hroom
    obtain ⟨hst, hpool, hcoin, hpro, hcap, hcount⟩ := State.retract_tables l (s.noteDenoms l) s
      (allDenoms_nodup.filter _)
    refine State.keepsStock_closeEvent (State.Stocked.of_boxes (t := { List.foldl (State.retractOne l) s
      (s.noteDenoms l) with presenterOpen := _ }) h.stocked hst (congrArg Pool.records hpool) (fun k => ?_))
    cases k with
    | coin => exact ⟨congrArg Cashbox.promised hcoin, hcoin ▸ h.stocked.boxes .coin⟩
    | note =>
      refine ⟨hpro, ?_⟩
      change (State.box (List.foldl (State.retractOne l) s (s.noteDenoms l)) .note).count +
        (State.box (List.foldl (State.retractOne l) s (s.noteDenoms l)) .note).promised ≤
        (State.box (List.foldl (State.retractOne l) s (s.noteDenoms l)) .note).capacity
      have hfits : (s.box .note).present = true ∧ (s.box .note).count + (s.box .note).promised +
          s.bundle l ≤ (s.box .note).capacity := by simpa using hroom
      rw [hpro, hcap, hcount]
      exact le_of_eq_of_le (by simp only [State.bundle]; omega) hfits.2

/-! ### The inventory -/

section
variable {s : State} (h : s.Sound)
include h

theorem State.Sound.assignStore (payload : List Byte) : s.keepsStock (assignStore payload s).1 := by
  unfold Machine.assignStore
  split
  · split
    · exact State.keepsStock_self h.stocked
    · split
      · rename_i k d _ _ _ _ _
        dsimp only
        split
        · exact State.keepsStock_self h.stocked
        split
        · exact State.keepsStock_self h.stocked
        · rename_i hphys
          split
          · exact State.keepsStock_self h.stocked
          split
          · exact State.keepsStock_self h.stocked
          · rename_i hpaying
            have hzero : (s.store k).reserved = 0 := by
              have := h.stocked.stores k
              rw [not_not] at hphys; omega
            exact State.keepsStock_closeEvent (h.stocked.modStore_clear
              (State.no_strokes_of_reserved h.linked h.stocked hpaying hzero) hzero)
      · exact State.keepsStock_self h.stocked
  · exact State.keepsStock_self h.stocked

theorem State.Sound.writeLimits (payload : List Byte) : s.keepsStock (writeLimits payload s).1 := by
  unfold Machine.writeLimits
  split
  · split
    · exact State.keepsStock_self h.stocked
    · have hcap : ∀ (k : Kind) (n : Nat), Cashbox.count { s.box k with
          capacity := (s.box k).heldCapacity k n } + (s.box k).promised ≤ (s.box k).heldCapacity k n :=
        fun k n => Nat.le_max_right _ _
      refine State.keepsStock_closeEvent (h.stocked.of_boxes rfl rfl (fun k => ?_))
      cases k
      · exact ⟨rfl, hcap .coin _⟩
      · exact ⟨rfl, hcap .note _⟩
  · exact State.keepsStock_self h.stocked

/-- A store that has no stroke goes to a state by office request. -/
theorem State.Sound.putStore {k : StoreId} (none : ∀ r ∈ s.pool.records, r.store ≠ k) (x : StoreState) :
    s.keepsStock (s.putStore k x) :=
  State.keepsStock_closeEvent (h.stocked.modStore_clear none
    (State.reserved_eq_zero h.stocked.figures none))

theorem State.Sound.disableOne (k : StoreId) : s.keepsStock (disableOne k s).1 := by
  have out (hp : (s.store k).state ≠ .paying) : s.keepsStock
      (if (s.store k).reserved = 0 then (s.putStore k .disabled, done) else (s, refuse .state)).1 := by
    split
    · rename_i hzero
      exact h.putStore (State.no_strokes_of_reserved h.linked h.stocked hp hzero) _
    · exact State.keepsStock_self h.stocked
  unfold Machine.disableOne
  cases hs : (s.store k).state with
  | ready => exact out (by simp [hs])
  | uncertain => exact out (by simp [hs])
  | jammed => exact out (by simp [hs])
  | disabled => exact State.keepsStock_self h.stocked
  | paying => exact State.keepsStock_self h.stocked
  | absent => exact State.keepsStock_self h.stocked

theorem State.Sound.enableOne (k : StoreId) : s.keepsStock (enableOne k s).1 := by
  unfold Machine.enableOne
  split
  · rename_i hs
    exact h.putStore (State.no_strokes_of_state h.stocked.loose (by simp [hs.1]) (by simp [hs.1])) _
  · exact State.keepsStock_self h.stocked

theorem State.Sound.clearJamOne (k : StoreId) : s.keepsStock (clearJamOne k s).1 := by
  unfold Machine.clearJamOne
  split
  · rename_i hs
    exact h.putStore (State.no_strokes_of_state h.stocked.loose (by simp [hs]) (by simp [hs])) _
  · exact State.keepsStock_self h.stocked

theorem State.Sound.onStore {f : StoreId → State × Response} (hf : ∀ k, s.keepsStock (f k).1)
    (payload : List Byte) : s.keepsStock (onStore payload s f).1 := by
  unfold Machine.onStore
  split
  · split
    · exact hf _
    · exact State.keepsStock_self h.stocked
  · exact State.keepsStock_self h.stocked

theorem State.Sound.declareCount (payload : List Byte) : s.keepsStock (declareCount payload s).1 := by
  unfold Machine.declareCount
  split
  · rename_i hi lo
    split
    · exact State.keepsStock_self h.stocked
    · rename_i k _
      split
      · exact State.keepsStock_self h.stocked
      rename_i hdecl
      split
      · exact State.keepsStock_self h.stocked
      split
      · exact State.keepsStock_self h.stocked
      have none : ∀ r ∈ s.pool.records, r.store ≠ k := by
        simp only [Store.declarable, Bool.not_eq_true, Bool.not_eq_false', Bool.or_eq_true,
          Bool.and_eq_true, beq_iff_eq] at hdecl
        rcases hdecl with hs | ⟨hs, hzero⟩
        · exact State.no_strokes_of_state h.stocked.loose (by simp [hs]) (by simp [hs])
        · exact State.no_strokes_of_reserved h.linked h.stocked (by simp [hs]) hzero
      have hset := h.stocked.modStore_clear none (f := fun x =>
        { x with physical := numberOf [hi, lo], state := .ready })
        (State.reserved_eq_zero h.stocked.figures none)
      obtain ⟨-, -, -, -, -, hst, hbox, -, -, -, -, hpool, -⟩ := State.bookAdjustedStore_frame
        (s.modStore k (fun x => { x with physical := numberOf [hi, lo], state := .ready })) k _
      exact State.keepsStock_closeEvent (hset.of_same hst hbox (by rw [hpool]))
  · exact State.keepsStock_self h.stocked

omit h in
theorem State.bookEmptied_same (k : Kind) :
    (allDenoms.foldl (State.bookEmptied k) s).stores = s.stores ∧
    (allDenoms.foldl (State.bookEmptied k) s).boxes = s.boxes ∧
    (allDenoms.foldl (State.bookEmptied k) s).pool = s.pool := by
  refine ⟨?_, ?_, ?_⟩ <;> exact foldl_keeps _ _ (fun t d => by simp [State.bookEmptied]) _ s

theorem State.Sound.cashboxEmptied (payload : List Byte) : s.keepsStock (cashboxEmptied payload s).1 := by
  unfold Machine.cashboxEmptied
  split
  · split
    · exact State.keepsStock_self h.stocked
    · rename_i k _
      split
      · obtain ⟨hst, hbox, hpool⟩ := State.bookEmptied_same (s := s) k
        have hstock := h.stocked.of_same hst hbox (by rw [hpool])
        refine State.keepsStock_closeEvent (hstock.modBox rfl ?_)
        have hzero : ∀ b : Cashbox, Cashbox.count { b with counts := Vector.replicate 12 0, stage := .none } = 0 := by
          intro b; simp [Cashbox.count, Cashbox.countOf, allDenoms]
        rw [hzero]
        have := hstock.boxes k
        simp only
        omega
      · exact State.keepsStock_self h.stocked
  · exact State.keepsStock_self h.stocked

/-- Both lanes CLOSED and no skim live: no stroke is left (R26, R100, R141). -/
theorem State.Sound.no_records (hclosed : s.bothClosed = true) (hskim : s.skimLive = false) :
    s.pool.records = [] := by
  refine List.eq_nil_iff_forall_not_mem.mpr (fun r hr => ?_)
  simp only [State.bothClosed, Bool.and_eq_true, beq_iff_eq] at hclosed
  simp only [State.skimLive, Bool.or_eq_false_iff, State.chainEmpty, Pool.chain, Bool.not_eq_false',
    List.isEmpty_iff, List.filter_eq_nil_iff] at hskim
  cases ho : r.owner with
  | lane l =>
    obtain ⟨hmode, -, -, -, hpay⟩ := h.lanes l
    have hserve := hmode (by rw [hpay r hr ho]; decide)
    cases l
    · rw [hclosed.1] at hserve; cases hserve
    · rw [hclosed.2] at hserve; cases hserve
  | office =>
    cases hp : r.path
    · exact hskim.1.2 r hr (by simp [ho, hp])
    · exact hskim.2 r hr (by simp [ho, hp])

theorem State.Sound.clearCurrency : s.keepsStock (clearCurrency s).1 := by
  unfold Machine.clearCurrency
  split
  · exact State.keepsStock_self h.stocked
  split
  · exact State.keepsStock_self h.stocked
  · rename_i hallowed _
    simp only [State.clearAllowed, Bool.not_eq_true', Bool.not_eq_false, Bool.and_eq_true] at hallowed
    have hnil := h.no_records hallowed.1.1.1 hallowed.1.2
    have hst : ∀ k, s.closeTotals.clearTables.store k = (s.store k).unassign := fun k =>
      mapTable_get Store.unassign s.stores k
    have hrec : s.closeTotals.clearTables.pool.records = [] := hnil
    refine State.keepsStock_closeEvent ⟨h.stocked.figures.of_same (hrec.trans hnil.symm)
      (fun r hr => ?_) (fun k => by rw [hst]; rfl) (fun _ => rfl), fun k => ?_, h.stocked.boxes,
      fun r hr => ?_, fun r hr => ?_⟩
    · rw [hnil] at hr; cases hr
    · rw [hst]; exact h.stocked.stores k
    · rw [hrec] at hr; cases hr
    · rw [hrec] at hr; cases hr

theorem State.Sound.stopSkim : s.keepsStock (stopSkim s).1 := by
  unfold Machine.stopSkim
  split
  · have hstock : ({ s with planner := s.planner.stopSkim }.placeSkim none).Stocked :=
      h.stocked.of_same rfl rfl rfl
    exact State.keepsStock_finish (hstock.drops (h.linked.of_tables rfl rfl) _)
  · exact State.keepsStock_self h.stocked

end

end Machine

end Sys2Proof
end

section
/-! SUPPORT. The stock through the link: a request performed, a frame taken, a reply sent. -/

namespace Sys2Proof.Machine

/-- A request that is performed keeps the stock (R173). -/
theorem State.Sound.performRequest {s : State} (h : s.Sound) (r : Request) (p : Port)
    (payload : List Byte) : s.keepsStock (performRequest r p payload s).1 := by
  have self := State.keepsStock_self h.stocked
  have lane {f : Lane → State × Response} (hf : ∀ l, s.keepsStock (f l).1) : s.keepsStock (onLane p s f).1 := by
    cases p with
    | lane l => exact hf l
    | office => exact self
  cases r with
  | openSale => exact lane (fun l => h.openSale l payload)
  | readTender => exact lane (fun l => self)
  | settle => exact lane (fun l => h.settle l payload)
  | cancelSale => exact lane h.cancelSale
  | haltPayout => exact lane h.haltPayout
  | collect => exact lane h.collect
  | retractNotes => exact lane h.retractNotes
  | readCompletion =>
    refine lane (fun l => ?_)
    unfold readCompletion
    split
    · exact State.keepsStock_closeEvent (h.stocked.of_same rfl rfl rfl)
    · exact self
  | readStock => exact lane (fun l => self)
  | readPlan =>
    simp only [Machine.performRequest, readPlan]
    split
    · exact self
    · split <;> exact self
    · exact self
  | setLaneMode =>
    have enter (l : Lane) (m : Mode) : s.keepsStock (s.enterMode l m) := by
      unfold State.enterMode
      split
      · exact self
      · exact State.keepsStock_closeEvent (h.stocked.of_same rfl rfl rfl)
    simp only [Machine.performRequest, setLaneMode]
    split
    · unfold setModeFromLane
      split
      · exact self
      split
      · exact self
      split
      · exact self
      · exact enter _ _
    · unfold setModeFromOffice
      split
      · split
        · exact self
        · exact enter _ _
      · exact self
      · exact self
    · exact self
  | readNotices => cases p <;> exact self
  | enableNotice =>
    simp only [Machine.performRequest, turnNotice]
    split
    · split
      · exact State.keepsStock_of_same h.stocked ⟨rfl, rfl, rfl⟩ rfl
      · exact self
    · split
      · exact State.keepsStock_of_same h.stocked ⟨rfl, rfl, rfl⟩ rfl
      · exact self
    · exact self
  | disableNotice =>
    simp only [Machine.performRequest, turnNotice]
    split
    · split
      · exact State.keepsStock_of_same h.stocked ⟨rfl, rfl, rfl⟩ rfl
      · exact self
    · split
      · exact State.keepsStock_of_same h.stocked ⟨rfl, rfl, rfl⟩ rfl
      · exact self
    · exact self
  | dismissNotice =>
    simp only [Machine.performRequest, dismissNotice]
    split
    · split
      · split
        · exact State.keepsStock_of_same h.stocked ⟨rfl, rfl, rfl⟩ rfl
        · exact self
      · exact self
    · split
      · split
        · exact State.keepsStock_of_same h.stocked ⟨rfl, rfl, rfl⟩ rfl
        · exact self
      · exact self
    · exact self
  | readStore =>
    simp only [Machine.performRequest, readStore]
    split
    · split
      · exact self
      · split
        · exact self
        · split <;> exact self
    · exact self
  | readTotals =>
    simp only [Machine.performRequest, readTotals]
    split
    · split
      · exact self
      · split
        · exact self
        · split <;> exact self
    · exact self
  | readProfile =>
    simp only [Machine.performRequest, readProfile]
    split
    · split
      · exact self
      · split <;> exact self
    · exact self
  | writeDenomination =>
    have write (d : Denom) (v : Nat) (k : Kind) (e : Bool) : s.keepsStock (s.writeEntry d v k e).closeEvent := by
      refine State.keepsStock_closeEvent (h.stocked.of_same ?_ ?_ ?_) <;>
        (unfold State.writeEntry; dsimp only; split <;> rfl)
    simp only [Machine.performRequest, writeDenomination]
    split
    · split
      · exact self
      split
      · split
        · exact self
        split
        · exact self
        split
        · exact self
        split
        · exact self
        · exact write _ _ _ _
      · exact self
    · exact self
  | writeClassEntry =>
    simp only [Machine.performRequest, writeClassEntry]
    split
    · split
      · exact self
      split
      · split
        · exact State.keepsStock_closeEvent (h.stocked.of_same rfl rfl rfl)
        · exact self
      · exact self
    · exact self
  | assignStore => exact h.assignStore payload
  | writeLimits => exact h.writeLimits payload
  | writeProfileEntry =>
    simp only [Machine.performRequest, writeProfileEntry]
    split
    · split
      · exact self
      · exact State.keepsStock_of_same h.stocked ⟨rfl, rfl, rfl⟩ rfl
    · exact self
  | commitProfile =>
    simp only [Machine.performRequest, commitProfile]
    split
    · exact self
    · exact State.keepsStock_closeEvent (h.stocked.of_same (by simp) (by simp) (by simp))
  | skimToTarget =>
    simp only [Machine.performRequest, skimToTarget]
    split
    · exact self
    · exact State.keepsStock_finish (h.stocked.of_same rfl rfl rfl)
  | emptyStore =>
    refine h.onStore (fun k => ?_) payload
    split
    · exact self
    · exact State.keepsStock_finish (h.stocked.of_same rfl rfl rfl)
  | stopSkim => exact h.stopSkim
  | declareCount => exact h.declareCount payload
  | clearJam => exact h.onStore h.clearJamOne payload
  | enableStore => exact h.onStore h.enableOne payload
  | disableStore => exact h.onStore h.disableOne payload
  | cashboxEmptied => exact h.cashboxEmptied payload
  | closeShift =>
    simp only [Machine.performRequest, closeShift]
    split
    · exact self
    · exact State.keepsStock_closeEvent (h.stocked.of_same rfl rfl rfl)
  | clearCurrency => exact h.clearCurrency
  | restart =>
    simp only [Machine.performRequest, restart]
    split <;> exact self

/-! ### Frames and replies -/

theorem State.keepsStock.modPort {s t : State} (h : s.keepsStock t) (p : Port) (f : LinkPort → LinkPort) :
    s.keepsStock (t.modPort p f) := ⟨h.1.of_same rfl rfl rfl, h.2⟩

theorem State.Sound.modPort {s : State} (h : s.Sound) (p : Port) (f : LinkPort → LinkPort) :
    (s.modPort p f).Sound := h.of_same rfl rfl rfl rfl rfl rfl

section
variable {s : State} (h : s.Sound)
include h

theorem State.Sound.serveAndReply (r : Request) (p : Port) (payload : List Byte) :
    s.keepsStock (s.serveAndReply r p payload) := by
  have serve : s.keepsStock (serveRequest r p payload s).1 := by
    unfold serveRequest
    split
    · exact State.keepsStock_self h.stocked
    split
    · exact State.keepsStock_self h.stocked
    split
    · exact State.keepsStock_self h.stocked
    · exact h.performRequest r p payload
  unfold State.serveAndReply State.sendReply
  exact serve.modPort p _

theorem State.Sound.takeFrame (p : Port) (f : Frame) : s.keepsStock (s.takeFrame p f) := by
  unfold State.takeFrame
  split
  · exact State.keepsStock_self h.stocked
  · split
    · exact (State.keepsStock_self h.stocked).modPort p _
    · split
      · exact (State.keepsStock_self h.stocked).modPort p _
      · exact h.serveAndReply _ p _

theorem State.Sound.takeHeld (p : Port) : s.keepsStock (s.takeHeld p) := by
  unfold State.takeHeld
  split
  · exact (h.modPort p _).takeFrame p _
  · exact State.keepsStock_self h.stocked
  · exact State.keepsStock_self h.stocked

theorem State.Sound.offerFrame (p : Port) (f : Frame) : s.keepsStock (s.offerFrame p f) := by
  unfold State.offerFrame
  split
  · exact h.takeFrame p f
  · exact (h.modPort p _).takeHeld p
  · exact (State.keepsStock_self h.stocked).modPort p _

theorem State.Sound.takeByte (p : Port) (b : Byte) : s.keepsStock (s.takeByte p b) := by
  have receive (x : Receiver) : s.keepsStock (s.setReceiver p x) :=
    (State.keepsStock_self h.stocked).modPort p _
  unfold State.takeByte
  split
  · split
    · exact receive _
    · exact State.keepsStock_self h.stocked
  · split <;> exact receive _
  · split <;> exact receive _
  · exact (h.modPort p _).offerFrame p _

theorem State.Sound.replySent (p : Port) (r : Reply) : s.keepsStock (s.replySent p r) := by
  unfold State.replySent
  dsimp only
  split
  · exact State.keepsStock_of_same h.stocked ⟨rfl, rfl, rfl⟩ rfl
  · exact (h.modPort p _).takeHeld p

end

end Sys2Proof.Machine
end

section
/-! SUPPORT. Bookings of the Totals Unit one after another (R148, R150). -/

namespace Sys2Proof.Machine

/-- A booking: a counter, a denomination and a number of pieces (R148). -/
structure Booking where
  counter : Counter
  denom : Denom
  pieces : Nat

/-- Bookings made in their order. -/
def State.bookAll (s : State) (bs : List Booking) : State :=
  bs.foldl (fun t b => t.book b.counter b.denom b.pieces) s

/-- The pieces some bookings bring to a counter of a denomination. -/
def booked (bs : List Booking) (c : Counter) (d : Denom) : Nat :=
  (bs.map (fun b => if b.counter = c ∧ b.denom = d then b.pieces else 0)).sum

theorem booked_cons (b : Booking) (bs : List Booking) (c : Counter) (d : Denom) :
    booked (b :: bs) c d = (if b.counter = c ∧ b.denom = d then b.pieces else 0) + booked bs c d := by
  simp [booked]

theorem booked_append (bs bs' : List Booking) (c : Counter) (d : Denom) :
    booked (bs ++ bs') c d = booked bs c d + booked bs' c d := by simp [booked]

theorem booked_flatMap {α : Type} (xs : List α) (f : α → List Booking) (c : Counter) (d : Denom) :
    booked (xs.flatMap f) c d = (xs.map (fun x => booked (f x) c d)).sum := by
  induction xs with
  | nil => rfl
  | cons x xs ih => rw [List.flatMap_cons, booked_append, ih, List.map_cons, List.sum_cons]

theorem State.bookAll_append (s : State) (bs bs' : List Booking) :
    s.bookAll (bs ++ bs') = (s.bookAll bs).bookAll bs' := List.foldl_append ..

theorem State.bookAll_flatMap {α : Type} (xs : List α) (f : α → List Booking) (s : State) :
    s.bookAll (xs.flatMap f) = xs.foldl (fun t x => t.bookAll (f x)) s := by
  induction xs generalizing s with
  | nil => rfl
  | cons x xs ih => rw [List.flatMap_cons, State.bookAll_append, ih]; rfl

/-- The counters, the inexact flag and SHIFT_INEXACT change, and nothing else (R148, R150). -/
def State.onlyBooks (s t : State) : Prop :=
  ∃ (counters : Vector Counters 12) (inexact flag : Bool), t = { s with
    totals := { s.totals with counters := counters, inexact := inexact }
    officeNotices := { s.officeNotices with flags :=
      { s.officeNotices.flags with shiftInexact := flag } } }

theorem State.onlyBooks.trans {s t u : State} (h : s.onlyBooks t) (h' : t.onlyBooks u) : s.onlyBooks u := by
  obtain ⟨c, i, f, rfl⟩ := h
  obtain ⟨c', i', f', rfl⟩ := h'
  exact ⟨c', i', f', rfl⟩

theorem State.onlyBooks.eq {s t : State} (h : s.onlyBooks t) : t = { s with
    totals := { s.totals with counters := t.totals.counters, inexact := t.totals.inexact }
    officeNotices := { s.officeNotices with flags :=
      { s.officeNotices.flags with shiftInexact := t.officeNotices.flags.shiftInexact } } } := by
  obtain ⟨c, i, f, rfl⟩ := h; rfl

theorem State.book_onlyBooks (s : State) (c : Counter) (d : Denom) (n : Nat) : s.onlyBooks (s.book c d n) := by
  unfold State.book; split <;> exact ⟨_, _, _, rfl⟩

theorem State.bookAll_onlyBooks (bs : List Booking) (s : State) : s.onlyBooks (s.bookAll bs) := by
  induction bs generalizing s with
  | nil => exact ⟨_, _, _, rfl⟩
  | cons b bs ih => exact (s.book_onlyBooks _ _ _).trans (ih _)

/-- Bookings do not see the stores. -/
theorem State.book_withStores (s : State) (v : Vector Store 12) (c : Counter) (d : Denom) (n : Nat) :
    ({ s with stores := v }).book c d n = { s.book c d n with stores := v } := by
  have h : ({ s with stores := v }).book c d n = if (s.counters d).get c + n ≤ Config.maxCounter then _
    else _ := rfl
  rw [h, State.book]
  by_cases hc : (s.counters d).get c + n ≤ Config.maxCounter <;> simp only [hc] <;> rfl

theorem State.bookAll_withStores (bs : List Booking) (s : State) (v : Vector Store 12) :
    ({ s with stores := v }).bookAll bs = { s.bookAll bs with stores := v } := by
  induction bs generalizing s with
  | nil => rfl
  | cons b bs ih =>
    refine Eq.trans ?_ (ih (s.book b.counter b.denom b.pieces))
    rw [← State.book_withStores]; rfl

/-- What bookings leave in the totals and the notices rests on these alone. -/
theorem State.bookAll_congr (bs : List Booking) {s t : State} (h : t.totals = s.totals)
    (hn : t.officeNotices = s.officeNotices) : (t.bookAll bs).totals = (s.bookAll bs).totals ∧
      (t.bookAll bs).officeNotices = (s.bookAll bs).officeNotices := by
  induction bs generalizing s t with
  | nil => exact ⟨h, hn⟩
  | cons b bs ih =>
    have hc : t.counters = s.counters := by funext d; simp [State.counters, h]
    refine ih (s := s.book b.counter b.denom b.pieces) (t := t.book b.counter b.denom b.pieces) ?_ ?_ <;>
      (unfold State.book; rw [hc]; split <;>
        simp [State.setCounters, State.markInexact, State.officeFlag, h, hn])

/-- A booking past the limit marks the shift inexact, and no other does (R150). -/
theorem State.book_inexact (s : State) (c : Counter) (d : Denom) (n : Nat) :
    ((s.book c d n).totals.inexact = true ↔
      s.totals.inexact = true ∨ Config.maxCounter < (s.counters d).get c + n) ∧
    ((s.book c d n).officeNotices.flags.shiftInexact = true ↔
      s.officeNotices.flags.shiftInexact = true ∨ Config.maxCounter < (s.counters d).get c + n) := by
  unfold State.book
  split
  · rename_i hle
    have : ¬Config.maxCounter < (s.counters d).get c + n := Nat.not_lt.mpr hle
    simp [State.setCounters, this]
  · rename_i hgt
    simp [State.setCounters, State.markInexact, State.officeFlag, OfficeBits.set, Nat.lt_of_not_le hgt]

/-- A counter of any denomination after a booking. -/
theorem State.book_counters (s : State) (c j : Counter) (d e : Denom) (n : Nat)
    (h : (s.counters e).get j ≤ Config.maxCounter) : ((s.book c d n).counters e).get j =
      min ((s.counters e).get j + if c = j ∧ d = e then n else 0) Config.maxCounter := by
  by_cases he : c = j ∧ d = e
  · obtain ⟨rfl, rfl⟩ := he
    simp [s.book_get c d n]
  · rw [s.book_get_ne c j d e n (by
      by_contra hn
      simp only [not_or, not_not] at hn
      exact he ⟨hn.2.symm, hn.1.symm⟩), if_neg he, Nat.add_zero, Nat.min_eq_left h]

/-- The counters are within their limit (R150). -/
def State.countersFit (s : State) : Prop := ∀ d c, (s.counters d).get c ≤ Config.maxCounter

theorem State.countersFit.book {s : State} (h : s.countersFit) (c : Counter) (d : Denom) (n : Nat) :
    (s.book c d n).countersFit := fun e j => by
  rw [s.book_counters c j d e n (h e j)]; exact Nat.min_le_right _ _

/-- What bookings leave in a counter: the sum, up to the limit (R150). -/
theorem State.bookAll_counters (bs : List Booking) (s : State) (h : s.countersFit) (c : Counter)
    (d : Denom) : ((s.bookAll bs).counters d).get c =
      min ((s.counters d).get c + booked bs c d) Config.maxCounter := by
  induction bs generalizing s with
  | nil =>
    rw [show booked [] c d = 0 from rfl, Nat.add_zero]
    exact (Nat.min_eq_left (h d c)).symm
  | cons b bs ih =>
    refine (ih (s.book b.counter b.denom b.pieces) (h.book _ _ _)).trans ?_
    rw [s.book_counters _ _ _ _ _ (h d c), booked_cons]
    omega

theorem State.bookAll_adjusted (bs : List Booking) (s : State) (d : Denom) :
    ((s.bookAll bs).counters d).adjusted = (s.counters d).adjusted := by
  induction bs generalizing s with
  | nil => rfl
  | cons b bs ih => exact (ih (s.book b.counter b.denom b.pieces)).trans (s.book_adjusted _ _ d _)

/-- Bookings mark the shift inexact exactly where some counter would pass its limit (R150). -/
theorem State.bookAll_inexact (bs : List Booking) (s : State) (h : s.countersFit) :
    ((s.bookAll bs).totals.inexact = true ↔ s.totals.inexact = true ∨
      ∃ d c, Config.maxCounter < (s.counters d).get c + booked bs c d) ∧
    ((s.bookAll bs).officeNotices.flags.shiftInexact = true ↔
      s.officeNotices.flags.shiftInexact = true ∨
      ∃ d c, Config.maxCounter < (s.counters d).get c + booked bs c d) := by
  induction bs generalizing s with
  | nil =>
    have : ¬∃ d c, Config.maxCounter < (s.counters d).get c + booked [] c d := by
      rintro ⟨d, c, hlt⟩
      exact absurd (h d c) (Nat.not_le.mpr (by simpa [booked] using hlt))
    simp [this, State.bookAll]
  | cons b bs ih =>
    have key : (Config.maxCounter < (s.counters b.denom).get b.counter + b.pieces ∨
        ∃ d c, Config.maxCounter < ((s.book b.counter b.denom b.pieces).counters d).get c + booked bs c d) ↔
        ∃ d c, Config.maxCounter < (s.counters d).get c + booked (b :: bs) c d := by
      constructor
      · rintro (hlt | ⟨d, c, hlt⟩)
        · exact ⟨b.denom, b.counter, by rw [booked_cons, if_pos ⟨rfl, rfl⟩]; omega⟩
        · refine ⟨d, c, ?_⟩
          rw [s.book_counters _ _ _ _ _ (h d c)] at hlt
          rw [booked_cons]
          have := h d c
          omega
      · rintro ⟨d, c, hlt⟩
        rw [booked_cons] at hlt
        by_cases hb : b.counter = c ∧ b.denom = d
        · by_cases hone : Config.maxCounter < (s.counters d).get c + b.pieces
          · left; obtain ⟨rfl, rfl⟩ := hb; exact hone
          · right
            refine ⟨d, c, ?_⟩
            rw [s.book_counters _ _ _ _ _ (h d c)]
            rw [if_pos hb] at hlt ⊢
            omega
        · right
          refine ⟨d, c, ?_⟩
          rw [s.book_counters _ _ _ _ _ (h d c)]
          rw [if_neg hb] at hlt ⊢
          have := h d c
          omega
    obtain ⟨h1, h2⟩ := ih (s.book b.counter b.denom b.pieces) (h.book _ _ _)
    obtain ⟨i1, i2⟩ := s.book_inexact b.counter b.denom b.pieces
    exact ⟨by rw [← key, ← or_assoc, ← i1]; exact h1, by rw [← key, ← or_assoc, ← i2]; exact h2⟩

/-- Two records of counters that read the same are one. -/
theorem Counters.ext_get {x y : Counters} (h : ∀ c, x.get c = y.get c) (ha : x.adjusted = y.adjusted) :
    x = y := by
  obtain ⟨a, b, c, d, e, f, g, i, j⟩ := x
  obtain ⟨a', b', c', d', e', f', g', i', j'⟩ := y
  have h1 := h .accepted; have h2 := h .loaded; have h3 := h .paid; have h4 := h .retracted
  have h5 := h .skimmed; have h6 := h .emptied; have h7 := h .removed; have h8 := h .unplaced
  simp only [Counters.get] at h1 h2 h3 h4 h5 h6 h7 h8 ha
  subst h1 h2 h3 h4 h5 h6 h7 h8 ha
  rfl

end Sys2Proof.Machine
end

section
/-! SUPPORT. Start-up, step by step (R187): what each step makes of a store, and what it books. -/

namespace Sys2Proof.Machine

theorem State.onlyBooks.pins {s t : State} (h : s.onlyBooks t) : t.pins = s.pins := by
  obtain ⟨_, _, _, rfl⟩ := h; rfl

theorem State.onlyBooks.pool {s t : State} (h : s.onlyBooks t) : t.pool = s.pool := by
  obtain ⟨_, _, _, rfl⟩ := h; rfl

theorem State.onlyBooks.boxes {s t : State} (h : s.onlyBooks t) : t.boxes = s.boxes := by
  obtain ⟨_, _, _, rfl⟩ := h; rfl

/-- With no record in the pool nothing ends. -/
theorem State.endStrokes_nil {s : State} (h : s.pool.records = []) (how : Stroke → Option (Ending × Nat)) :
    s.endStrokes how = s := by
  have hp : s.pool.remove (fun r => (how r).isSome) = s.pool := by
    unfold Pool.remove
    rw [h]
    simp only [List.filter_nil, List.map_nil]
    rw [← h]
    rfl
  unfold State.endStrokes
  rw [h]
  simp only [List.foldl_nil]
  rw [hp]

/-- The bookings of a fill that was never confirmed (R66). -/
def Fill.bookings (f : Fill) : List Booking := [⟨f.counter.counter, f.denom, 1⟩, ⟨.unplaced, f.denom, 1⟩]

theorem State.foldl_bookUnplaced (s : State) (fills : List Fill) :
    fills.foldl State.bookUnplaced s = s.bookAll (fills.flatMap Fill.bookings) := by
  rw [State.bookAll_flatMap]; rfl

/-- The booking of a count that leaves with its cassette (R9). -/
def Store.removal (x : Store) : List Booking :=
  match x.denom with
  | some d => [⟨.removed, d, x.physical⟩]
  | none => []

theorem State.bookStore_removed (s : State) (k : StoreId) :
    s.bookStore .removed k (s.store k).physical = s.bookAll (s.store k).removal := by
  unfold State.bookStore Store.removal
  cases (s.store k).denom <;> rfl

/-- Stores rewritten one by one, with some bookings, and nothing else. -/
def State.recovers (s t : State) (g : StoreId → Store → Store) (bs : List Booking) : Prop :=
  (∀ k, t.store k = g k (s.store k)) ∧ t = { s.bookAll bs with stores := t.stores }

section
variable {s t u : State} {g g' : StoreId → Store → Store} {bs bs' : List Booking}

theorem State.recovers.trans (h : s.recovers t g bs) (h' : t.recovers u g' bs') :
    s.recovers u (fun k x => g' k (g k x)) (bs ++ bs') := by
  obtain ⟨hst, ht⟩ := h
  obtain ⟨hst', hu⟩ := h'
  refine ⟨fun k => by rw [hst', hst], hu.trans ?_⟩
  rw [ht, State.bookAll_withStores, State.bookAll_append]

theorem State.recovers.pins (h : s.recovers t g bs) : t.pins = s.pins := by
  exact (congrArg State.pins h.2).trans (State.bookAll_onlyBooks bs s).pins

theorem State.recovers.pool (h : s.recovers t g bs) : t.pool = s.pool := by
  exact (congrArg State.pool h.2).trans (State.bookAll_onlyBooks bs s).pool

end

theorem State.recovers_self (s : State) : s.recovers s (fun _ x => x) [] := ⟨fun _ => rfl, rfl⟩

/-- A rewriting of one store, where the others are left. -/
def rewriteStore (k : StoreId) (f : Store → Store) (j : StoreId) (x : Store) : Store :=
  if j = k then f x else x

theorem State.recovers_modStore (s : State) (k : StoreId) (f : Store → Store) :
    s.recovers (s.modStore k f) (rewriteStore k f) [] := by
  refine ⟨fun j => ?_, rfl⟩
  rw [s.store_modStore, rewriteStore]
  split
  · rename_i h; rw [h]
  · rfl

theorem State.recovers_bookAll (s : State) (bs : List Booking) :
    s.recovers (s.bookAll bs) (fun _ x => x) bs :=
  ⟨fun k => State.store_congr (congrArg State.stores (State.bookAll_onlyBooks bs s).eq) k, rfl⟩

theorem State.recovers.congr {s t : State} {g g' : StoreId → Store → Store} {bs : List Booking}
    (h : s.recovers t g bs) (hg : ∀ k, g k (s.store k) = g' k (s.store k)) : s.recovers t g' bs :=
  ⟨fun k => (h.1 k).trans (hg k), h.2⟩

/-- A step over all stores, each rewritten by itself. -/
theorem State.recovers_fold {step : State → StoreId → State} {pins : Pins}
    {f : StoreId → Store → Store} {b : StoreId → Store → List Booking}
    (hstep : ∀ (s : State) (k : StoreId), s.pins = pins → s.pool.records = [] →
      s.recovers (step s k) (rewriteStore k (f k)) (b k (s.store k)))
    (ks : List StoreId) (nodup : ks.Nodup) (s : State) (hp : s.pins = pins) (hr : s.pool.records = []) :
    s.recovers (ks.foldl step s) (fun j x => if j ∈ ks then f j x else x)
      (ks.flatMap (fun k => b k (s.store k))) := by
  induction ks generalizing s with
  | nil => simpa using s.recovers_self
  | cons k ks ih =>
    obtain ⟨hk, nodup⟩ := List.nodup_cons.mp nodup
    have one := hstep s k hp hr
    have rest := ih nodup (step s k) (one.pins.trans hp) (by rw [one.pool]; exact hr)
    have hsame : ks.flatMap (fun j => b j ((step s k).store j)) = ks.flatMap (fun j => b j (s.store j)) := by
      rw [List.flatMap_def, List.flatMap_def]
      refine congrArg List.flatten (List.map_congr_left (fun j hj => ?_))
      rw [one.1 j, rewriteStore, if_neg (by rintro rfl; exact hk hj)]
    rw [hsame] at rest
    refine (one.trans rest).congr (fun j => ?_)
    by_cases hj : j = k
    · subst hj; simp [rewriteStore, hk]
    · simp [rewriteStore, hj]

theorem allStores_nodup : allStores.Nodup := by decide

theorem mem_allStores (k : StoreId) : k ∈ allStores := by revert k; decide

theorem State.recovers_all {step : State → StoreId → State} {f : StoreId → Store → Store}
    {b : StoreId → Store → List Booking} (s : State) (hr : s.pool.records = [])
    (hstep : ∀ (t : State) (k : StoreId), t.pins = s.pins → t.pool.records = [] →
      t.recovers (step t k) (rewriteStore k (f k)) (b k (t.store k))) :
    s.recovers (allStores.foldl step s) f (allStores.flatMap (fun k => b k (s.store k))) :=
  (State.recovers_fold hstep allStores allStores_nodup s rfl hr).congr
    (fun k => if_pos (mem_allStores k))

/-! ### The steps -/

/-- Step 2 on a store. -/
def Store.unmarked (x : Store) : Store :=
  if x.inFlight then { x with state := .uncertain, inFlight := false } else x

/-- Step 3 on a store. -/
def Store.unfilled (x : Store) : Store :=
  if x.fills.isEmpty then x
  else { x with fills := [], state := if x.state = .ready then .uncertain else x.state }

/-- Step 4 on a store, by its presence sensor. -/
def Store.sensed (x : Store) (present : Bool) : Store :=
  if present then (if x.state = .absent then x.newCassette else x)
  else if x.state = .absent then x else Store.pulled { x with fills := [] }

/-- What step 4 books of a store (R9). -/
def Store.sensedBookings (x : Store) (present : Bool) : List Booking :=
  if present || x.state == .absent then [] else x.removal ++ x.fills.flatMap Fill.bookings

/-- Step 5 on a store, by its empty-level sensor (R12, R13). -/
def Store.levelled (x : Store) (empty : Bool) : Store :=
  if empty = true ∧ 0 < x.physical then
    (if x.state = .ready then { x with state := .uncertain }
     else if x.state = .paying then { x with marked := true } else x)
  else x

theorem rewriteStore_self (k : StoreId) {f : Store → Store} {x : StoreId → Store} (h : f (x k) = x k)
    (j : StoreId) : x j = rewriteStore k f j (x j) := by
  unfold rewriteStore
  split
  · rename_i hj; rw [hj, h]
  · rfl

section
variable (s : State) (k : StoreId)

theorem State.recoverMarker_recovers : s.recovers (s.recoverMarker k) (rewriteStore k Store.unmarked) [] := by
  unfold State.recoverMarker
  split
  · rename_i h
    refine (s.recovers_modStore k _).congr (fun j => ?_)
    unfold rewriteStore
    split
    · rename_i hj; subst hj; simp [Store.unmarked, h]
    · rfl
  · rename_i h
    exact s.recovers_self.congr (rewriteStore_self k (by simp [Store.unmarked, h]))

theorem State.resolveFills_recovers : s.recovers (s.resolveFills k)
    (rewriteStore k (fun x => { x with fills := [] })) ((s.store k).fills.flatMap Fill.bookings) := by
  unfold State.resolveFills
  rw [State.foldl_bookUnplaced]
  have h := (s.recovers_bookAll ((s.store k).fills.flatMap Fill.bookings)).trans
    (State.recovers_modStore _ k (fun x => { x with fills := [] }))
  rwa [List.append_nil] at h

theorem State.recoverFills_recovers : s.recovers (s.recoverFills k) (rewriteStore k Store.unfilled)
    ((s.store k).fills.flatMap Fill.bookings) := by
  unfold State.recoverFills
  split
  · rename_i h
    rw [List.isEmpty_iff.mp h]
    exact s.recovers_self.congr (rewriteStore_self k (by simp [Store.unfilled, h]))
  · rename_i h
    have hboth := (s.resolveFills_recovers k).trans (State.recovers_modStore _ k (fun x =>
      { x with state := if x.state = .ready then .uncertain else x.state }))
    rw [List.append_nil] at hboth
    refine hboth.congr (fun j => ?_)
    unfold rewriteStore
    split
    · rename_i hj; subst hj; simp [Store.unfilled, h]
    · rfl

theorem State.pullCassette_recovers (hr : s.pool.records = []) :
    s.recovers (s.pullCassette k) (rewriteStore k (fun x => Store.pulled { x with fills := [] }))
      ((s.store k).removal ++ (s.store k).fills.flatMap Fill.bookings) := by
  unfold State.pullCassette
  rw [State.bookStore_removed]
  have hb := s.recovers_bookAll (s.store k).removal
  rw [State.endStrokes_nil (by rw [hb.pool]; exact hr)]
  have hboth := (hb.trans (State.resolveFills_recovers _ k)).trans (State.recovers_modStore _ k Store.pulled)
  rw [List.append_nil, hb.1] at hboth
  refine hboth.congr (fun j => ?_)
  unfold rewriteStore
  split <;> rfl

theorem State.recoverPresence_recovers (hr : s.pool.records = []) :
    s.recovers (s.recoverPresence k) (rewriteStore k (fun x => x.sensed s.pins.cassetteIn[k]))
      ((s.store k).sensedBookings s.pins.cassetteIn[k]) := by
  unfold State.recoverPresence
  generalize s.pins.cassetteIn[k] = present
  by_cases ha : (s.store k).state = .absent <;> cases present <;>
    simp only [ha, if_true, if_false, Bool.false_eq_true]
  · rw [show (s.store k).sensedBookings false = [] by simp [Store.sensedBookings, ha]]
    exact s.recovers_self.congr (rewriteStore_self k (by simp [Store.sensed, ha]))
  · refine (s.recovers_modStore k _).congr (fun j => ?_)
    unfold rewriteStore
    split
    · rename_i hj; subst hj; simp [Store.sensed, ha]
    · rfl
  · rw [show (s.store k).sensedBookings false =
        (s.store k).removal ++ (s.store k).fills.flatMap Fill.bookings by simp [Store.sensedBookings, ha]]
    refine (s.pullCassette_recovers k hr).congr (fun j => ?_)
    unfold rewriteStore
    split
    · rename_i hj; subst hj; simp [Store.sensed, ha]
    · rfl
  · exact s.recovers_self.congr (rewriteStore_self k (by simp [Store.sensed, ha]))

theorem State.recoverLevel_recovers (hr : s.pool.records = []) :
    s.recovers (s.recoverLevel k) (rewriteStore k (fun x => x.levelled s.pins.levelEmpty[k])) [] := by
  have hdrop : ∀ f, (s.modStore k f).dropWaiting k = s.modStore k f := fun f => State.endStrokes_nil (s := s.modStore k f) hr _
  have stays (h : (s.store k).levelled s.pins.levelEmpty[k] = s.store k) :
      s.recovers s (rewriteStore k (fun x => x.levelled s.pins.levelEmpty[k])) [] :=
    s.recovers_self.congr (rewriteStore_self k (f := fun x => x.levelled s.pins.levelEmpty[k]) h)
  have goes {f : Store → Store} (h : (s.store k).levelled s.pins.levelEmpty[k] = f (s.store k)) :
      s.recovers (s.modStore k f) (rewriteStore k (fun x => x.levelled s.pins.levelEmpty[k])) [] := by
    refine (s.recovers_modStore k f).congr (fun j => ?_)
    unfold rewriteStore
    split
    · rename_i hj; subst hj; exact h.symm
    · rfl
  unfold State.recoverLevel
  split
  · rename_i he
    unfold State.levelReported
    split
    · rename_i hpos
      rw [State.markUncertain_cases, hdrop]
      split
      · rename_i hs; exact goes (by simp [Store.levelled, he, hpos, hs])
      · split
        · rename_i hs hs'; exact goes (by simp [Store.levelled, he, hpos, hs'])
        · rename_i hs hs'; exact stays (by simp [Store.levelled, he, hpos, hs, hs'])
    · rename_i hpos; exact stays (by simp [Store.levelled, hpos])
  · rename_i he; exact stays (by simp [Store.levelled, he])

end

end Sys2Proof.Machine
end

section
/-! SUPPORT. Start-up as a whole (R186–R189): the tables and the totals after recovery, the interrupted
sales, and the close of the event. -/

namespace Sys2Proof.Machine

/-! ### The tables and the totals after recovery -/

/-- A store after all the steps of R187. -/
def Store.recovered (pins : Pins) (k : StoreId) (x : Store) : Store :=
  ((x.unmarked.unfilled).sensed pins.cassetteIn[k]).levelled pins.levelEmpty[k]

/-- A cashbox after step 4 (R25). -/
def Cashbox.sensed (b : Cashbox) (present : Bool) : Cashbox := if present then b.back else b.out

/-- What recovery books (R158, R187). -/
def State.recoveryBookings (s : State) : List Booking :=
  (allStores.flatMap (fun k => (s.store k).unmarked.fills.flatMap Fill.bookings)) ++
    allStores.flatMap (fun k => (s.store k).unmarked.unfilled.sensedBookings s.pins.cassetteIn[k])

/-- The stores after the steps that come before the cashboxes. -/
theorem State.recover_presence {s : State} (hr : s.pool.records = []) :
    s.recovers (allStores.foldl State.recoverPresence (allStores.foldl State.recoverFills
        (allStores.foldl State.recoverMarker s)))
      (fun k x => (x.unmarked.unfilled).sensed s.pins.cassetteIn[k])
      s.recoveryBookings := by
  have one := State.recovers_all (f := fun _ x => x.unmarked) (b := fun _ _ => []) s hr
    (fun t k _ _ => t.recoverMarker_recovers k)
  have hr2 := (congrArg Pool.records one.pool).trans hr
  have two := State.recovers_all (f := fun _ x => x.unfilled)
    (b := fun _ x => x.fills.flatMap Fill.bookings) _ hr2 (fun t k _ _ => t.recoverFills_recovers k)
  have both := one.trans two
  have hr3 := (congrArg Pool.records both.pool).trans hr
  have three := State.recovers_all (f := fun k x => x.sensed s.pins.cassetteIn[k])
    (b := fun k x => x.sensedBookings s.pins.cassetteIn[k]) _ hr3 (fun t k hp hr => by
      have hps : t.pins = s.pins := hp.trans both.pins
      rw [← hps]
      exact t.recoverPresence_recovers k hr)
  have all := both.trans three
  simp only [both.1, one.1] at all
  rw [show allStores.flatMap (fun _ => ([] : List Booking)) = [] from rfl, List.nil_append] at all
  exact all

theorem State.recoverBoxes (s : State) : (s.recoverBox .coin).recoverBox .note = { s with boxes :=
    { coin := s.boxes.coin.sensed s.pins.boxIn.coin, note := s.boxes.note.sensed s.pins.boxIn.note } } := rfl

theorem State.recoverLevels_recovers {s : State} {pins : Pins} (hr : s.pool.records = [])
    (hp : s.pins = pins) : s.recovers (allStores.foldl State.recoverLevel s)
      (fun k x => x.levelled pins.levelEmpty[k]) [] :=
  State.recovers_all (b := fun _ _ => []) s hr (fun t k ht hr => by
    rw [← hp, ← ht]; exact t.recoverLevel_recovers k hr)

/-- Stores rewritten once more after the cashboxes were. -/
theorem State.recovers.withBoxes {s t w : State} {g f : StoreId → Store → Store} {bs : List Booking}
    {boxes : PerKind Cashbox} (h : s.recovers t g bs) (last : ({ t with boxes := boxes }).recovers w f []) :
    (∀ k, w.store k = f k (g k (s.store k))) ∧
      w = { s.bookAll bs with stores := w.stores, boxes := boxes } := by
  refine ⟨fun k => (last.1 k).trans (congrArg (f k) (h.1 k)), last.2.trans ?_⟩
  refine Eq.trans (b := { t with stores := w.stores, boxes := boxes }) rfl ?_
  rw [h.2]

/-- What recovery makes of the tables (R187). -/
theorem State.recover_tables {s : State} (hr : s.pool.records = []) :
    (∀ k, s.recover.store k = (s.store k).recovered s.pins k) ∧
    s.recover = { s.bookAll s.recoveryBookings with
      stores := s.recover.stores
      boxes := { coin := s.boxes.coin.sensed s.pins.boxIn.coin
                 note := s.boxes.note.sensed s.pins.boxIn.note } } := by
  have h := State.recover_presence hr
  unfold State.recover
  dsimp only
  generalize s.recoveryBookings = bs at h ⊢
  generalize allStores.foldl State.recoverPresence _ = t at h ⊢
  have hboxes : t.boxes = s.boxes := (congrArg State.boxes h.2).trans (State.bookAll_onlyBooks _ s).boxes
  have hrec : t.pool.records = [] := (congrArg Pool.records h.pool).trans hr
  have hb : (t.recoverBox .coin).recoverBox .note = { t with boxes :=
      { coin := s.boxes.coin.sensed s.pins.boxIn.coin
        note := s.boxes.note.sensed s.pins.boxIn.note } } := by
    rw [State.recoverBoxes, hboxes, h.pins]
  rw [hb]
  have last := State.recoverLevels_recovers (s := { t with boxes :=
    { coin := s.boxes.coin.sensed s.pins.boxIn.coin, note := s.boxes.note.sensed s.pins.boxIn.note } })
      hrec h.pins
  generalize allStores.foldl State.recoverLevel _ = w at last ⊢
  have both := h.withBoxes last
  exact both

/-! ### The interrupted sales -/

theorem State.recoverLane_retained (s : State) (l : Lane) : (s.recoverLane l).retained = s.retained := by
  unfold State.recoverLane; dsimp only; split <;> rfl

theorem State.recoverLane_denoms (s : State) (l : Lane) : (s.recoverLane l).denoms = s.denoms := by
  unfold State.recoverLane; dsimp only; split <;> rfl

theorem State.recoverLane_eq (s : State) (l : Lane) : s.recoverLane l = { s with
    lanes := (s.recoverLane l).lanes, laneNotices := (s.recoverLane l).laneNotices } := by
  unfold State.recoverLane
  dsimp only
  split <;> rfl

/-- A lane after start-up: its slot holds the INTERRUPTED record of a sale that was outside IDLE (R188). -/
theorem State.recoverLane_lane (s : State) (l m : Lane) : (s.recoverLane l).lane m =
    if m = l ∧ (s.retained.sales.get l).state ≠ .idle then
      { s.lane m with slot := some (s.interrupted (s.retained.sales.get l)) } else s.lane m := by
  unfold State.recoverLane
  dsimp only
  by_cases hm : m = l
  · subst hm
    by_cases hi : (s.retained.sales.get m).state = .idle
    · simp [hi]
    · rw [if_neg hi, if_pos ⟨rfl, hi⟩]
      exact s.lane_setLane_self m _
  · rw [if_neg (c := m = l ∧ _) (fun h => hm h.1)]
    split
    · rfl
    · exact s.lane_setLane_ne l m _ hm

theorem State.recoverLane_notices (s : State) (l m : Lane) : (s.recoverLane l).laneNotices.get m =
    if m = l ∧ (s.retained.sales.get l).state ≠ .idle then
      { s.laneNotices.get m with
        flags := { (s.laneNotices.get m).flags with completionReady := true } }
    else s.laneNotices.get m := by
  unfold State.recoverLane
  dsimp only
  by_cases hm : m = l
  · subst hm
    by_cases hi : (s.retained.sales.get m).state = .idle
    · simp [hi]
    · rw [if_neg hi, if_pos ⟨rfl, hi⟩]
      exact PerLane.get_set_self _ _ _
  · rw [if_neg (c := m = l ∧ _) (fun h => hm h.1)]
    split
    · rfl
    · exact PerLane.get_set_ne _ _ _ _ hm

theorem State.interrupted_congr {s t : State} (h : t.denoms = s.denoms) (x : OpenSale) :
    t.interrupted x = s.interrupted x := by
  have hv : t.value = s.value := by funext d; simp [State.value, State.denom, h]
  have ho : t.outranks = s.outranks := by
    funext p a b; unfold State.outranks; rw [hv]
  unfold State.interrupted State.piecesList
  rw [ho]

/-- Both lanes after start-up. -/
theorem State.recoverLanes_lane (s : State) (l : Lane) :
    ((s.recoverLane .one).recoverLane .two).lane l =
      if (s.retained.sales.get l).state ≠ .idle then
        { s.lane l with slot := some (s.interrupted (s.retained.sales.get l)) } else s.lane l := by
  have hr : (s.recoverLane .one).retained = s.retained := s.recoverLane_retained .one
  have hd : (s.recoverLane .one).denoms = s.denoms := s.recoverLane_denoms .one
  rw [State.recoverLane_lane, State.recoverLane_lane, hr, State.interrupted_congr hd]
  cases l <;> simp

theorem State.recoverLanes_notices (s : State) (l : Lane) :
    ((s.recoverLane .one).recoverLane .two).laneNotices.get l =
      if (s.retained.sales.get l).state ≠ .idle then
        { s.laneNotices.get l with
          flags := { (s.laneNotices.get l).flags with completionReady := true } }
      else s.laneNotices.get l := by
  have hr : (s.recoverLane .one).retained = s.retained := s.recoverLane_retained .one
  rw [State.recoverLane_notices, State.recoverLane_notices, hr]
  cases l <;> simp

theorem State.recoverLanes_eq (s : State) : (s.recoverLane .one).recoverLane .two = { s with
    lanes := ((s.recoverLane .one).recoverLane .two).lanes
    laneNotices := ((s.recoverLane .one).recoverLane .two).laneNotices } := by
  refine (State.recoverLane_eq _ .two).trans ?_
  rw [s.recoverLane_eq .one]

end Sys2Proof.Machine
end

section
/-! SUPPORT. What start-up leaves, field by field (R184–R189). -/

namespace Sys2Proof.Machine

theorem State.closeEvent_eq (s : State) : s.closeEvent = { s with
    officeNotices := s.closeEvent.officeNotices
    laneNotices := s.closeEvent.laneNotices
    retained := s.closeEvent.retained } := rfl

section
variable (r : Retained) (pins : Pins) (q : List Instr)

theorem restored_store (k : StoreId) : (restored r pins .running q).store k = r.stores[k].restore :=
  mapTable_get RetainedStore.restore r.stores k

/-- What start-up books (R158, R187). -/
def startUpBookings : List Booking := (restored r pins .running q).recoveryBookings

/-- What start-up leaves of the totals. -/
def startUpTotals : Totals := ((restored r pins .running q).bookAll (startUpBookings r pins q)).totals

/-- The state that recovery hands to the notices and the lanes. -/
theorem recovered_eq : (restored r pins .running q).recover = { restored r pins .running q with
    stores := (restored r pins .running q).recover.stores
    boxes := { coin := (r.boxes.coin.restore pins.boxIn.coin).sensed pins.boxIn.coin
               note := (r.boxes.note.restore pins.boxIn.note).sensed pins.boxIn.note }
    totals := startUpTotals r pins q
    officeNotices := (restored r pins .running q).recover.officeNotices } := by
  have hr := (State.recover_tables (s := restored r pins .running q) rfl).2
  have hb := State.bookAll_onlyBooks (startUpBookings r pins q) (restored r pins .running q)
  unfold startUpTotals
  unfold startUpBookings at hb ⊢
  generalize (restored r pins .running q).bookAll _ = b at hb hr ⊢
  generalize (restored r pins .running q).recover = u at hr ⊢
  obtain ⟨c, i, f, rfl⟩ := hb
  have ho := congrArg State.officeNotices hr
  refine hr.trans ?_
  rw [ho]
  rfl

/-- Past the tables, the lanes, the totals and the notices, start-up leaves what reset leaves. -/
theorem startedUp_eq : startedUp r pins q = { restored r pins .running q with
    stores := (restored r pins .running q).recover.stores
    boxes := { coin := (r.boxes.coin.restore pins.boxIn.coin).sensed pins.boxIn.coin
               note := (r.boxes.note.restore pins.boxIn.note).sensed pins.boxIn.note }
    lanes := (startedUp r pins q).lanes
    totals := startUpTotals r pins q
    officeNotices := (startedUp r pins q).officeNotices
    laneNotices := (startedUp r pins q).laneNotices
    retained := (startedUp r pins q).retained } := by
  obtain ⟨stores, notices, hr⟩ : ∃ v o, (restored r pins .running q).recover =
      { restored r pins .running q with
        stores := v
        boxes := { coin := (r.boxes.coin.restore pins.boxIn.coin).sensed pins.boxIn.coin
                   note := (r.boxes.note.restore pins.boxIn.note).sensed pins.boxIn.note }
        totals := startUpTotals r pins q
        officeNotices := o } := ⟨_, _, recovered_eq r pins q⟩
  unfold startedUp
  generalize (restored r pins .running q).recover = u at hr ⊢
  obtain ⟨lanes, laneNotices, hx⟩ : ∃ v o, (u.recoverNotices.recoverLane .one).recoverLane .two =
      { u.recoverNotices with lanes := v, laneNotices := o } := ⟨_, _, State.recoverLanes_eq _⟩
  rw [hx, hr]
  exact State.closeEvent_eq _

theorem startedUp_store (k : StoreId) :
    (startedUp r pins q).store k = r.stores[k].restore.recovered pins k := by
  have h := (State.recover_tables (s := restored r pins .running q) rfl).1 k
  rw [restored_store] at h
  have hs : (startedUp r pins q).stores = (restored r pins .running q).recover.stores := by
    rw [startedUp_eq]
  exact (State.store_congr hs k).trans h

theorem startedUp_box (k : Kind) : (startedUp r pins q).box k =
    ((r.boxes.get k).restore (pins.boxIn.get k)).sensed (pins.boxIn.get k) := by
  refine (State.box_congr (congrArg State.boxes (startedUp_eq r pins q)) k).trans ?_
  cases k <;> rfl

/-- The state whose lanes start-up gives their INTERRUPTED records. -/
theorem recovered_lanes : ∃ u : State, u.denoms = r.denoms ∧ u.retained = r ∧
    (∀ l, u.lane l = (r.sales.get l).restore) ∧ (∀ l, u.laneNotices.get l = noLaneNotices) ∧
    u.officeNotices.flags = { OfficeBits.all false with recovered := true } ∧
    u.officeNotices.enables = OfficeBits.all true ∧
    startedUp r pins q = ((u.recoverLane .one).recoverLane .two).closeEvent := by
  have hr := recovered_eq r pins q
  have hen : (restored r pins .running q).recover.officeNotices.enables = OfficeBits.all true := by
    have hb := (State.recover_tables (s := restored r pins .running q) rfl).2
    obtain ⟨c, i, f, hc⟩ := State.bookAll_onlyBooks (restored r pins .running q).recoveryBookings
      (restored r pins .running q)
    rw [hb, hc]
    rfl
  have hs : startedUp r pins q = (((restored r pins .running q).recover.recoverNotices.recoverLane
    .one).recoverLane .two).closeEvent := rfl
  generalize (restored r pins .running q).recover = u at hr hen hs
  refine ⟨u.recoverNotices, ?_, ?_, fun l => ?_, fun l => ?_, rfl, hen, hs⟩
  · exact congrArg State.denoms hr
  · exact congrArg State.retained hr
  · refine (congrArg (fun s => State.lane s l) hr).trans ?_
    cases l <;> rfl
  · refine (congrArg (fun s => s.laneNotices.get l) hr).trans ?_
    cases l <;> rfl

theorem startedUp_lane (l : Lane) : (startedUp r pins q).mode l = .closed ∧
    (startedUp r pins q).sale l = Sale.idle (r.sales.get l).sequence ∧
    (startedUp r pins q).slot l = if (r.sales.get l).state = .idle then none
      else some ((startedUp r pins q).interrupted (r.sales.get l)) := by
  have hd : (startedUp r pins q).denoms = r.denoms := congrArg State.denoms (startedUp_eq r pins q)
  obtain ⟨u, hden, hret, hlane, -, -, -, hu⟩ := recovered_lanes r pins q
  have h : (startedUp r pins q).lane l = ((u.recoverLane .one).recoverLane .two).lane l := by rw [hu]; rfl
  rw [State.recoverLanes_lane, hret, hlane,
    ← State.interrupted_congr (s := u) (t := startedUp r pins q) (hd.trans hden.symm)] at h
  unfold State.mode State.sale State.slot
  rw [h]
  by_cases hi : (r.sales.get l).state = .idle
  · rw [if_neg (not_not.mpr hi), if_pos hi]; exact ⟨rfl, rfl, rfl⟩
  · rw [if_pos hi, if_neg hi]; exact ⟨rfl, rfl, rfl⟩

theorem startedUp_laneNotices (l : Lane) :
    let n := (startedUp r pins q).laneNotices.get l
    n.flags.completionReady = decide ((r.sales.get l).state ≠ .idle) ∧ n.flags.settleRefused = false ∧
      n.flags.pieceReturned = false ∧ n.flags.tenderReached = false ∧ n.enables = LaneBits.all true := by
  obtain ⟨u, -, hret, -, hnot, -, -, hu⟩ := recovered_lanes r pins q
  rw [hu, State.closeEvent_laneNotices]
  unfold State.laneConditions laneSet
  rw [State.recoverLanes_notices, hret, hnot]
  split <;> rename_i hi
  · exact ⟨(decide_eq_true hi).symm, rfl, rfl, rfl, rfl⟩
  · exact ⟨(decide_eq_false hi).symm, rfl, rfl, rfl, rfl⟩

theorem startedUp_officeNotices :
    let n := (startedUp r pins q).officeNotices
    n.flags.recovered = true ∧ n.flags.shiftInexact = false ∧ n.flags.skimAdvised = false ∧
      n.flags.profileSwitched = false ∧ n.enables = OfficeBits.all true ∧ n.line = true := by
  obtain ⟨u, -, -, -, -, hflags, hen, hu⟩ := recovered_lanes r pins q
  have ho : ((u.recoverLane .one).recoverLane .two).officeNotices = u.officeNotices := by
    rw [u.recoverLanes_eq]
  rw [hu, State.closeEvent_officeNotices]
  unfold State.officeConditions officeSet
  rw [ho, hflags, hen]
  exact ⟨rfl, rfl, rfl, rfl, rfl, rfl⟩

theorem startUpTotals_rest : (startUpTotals r pins q).shift = r.totals.shift ∧
    (startUpTotals r pins q).opening = r.totals.opening ∧
    (startUpTotals r pins q).previous = r.totals.previous := by
  obtain ⟨c, i, f, h⟩ := State.bookAll_onlyBooks (startUpBookings r pins q) (restored r pins .running q)
  unfold startUpTotals
  rw [h]
  exact ⟨rfl, rfl, rfl⟩

end
end Sys2Proof.Machine
end

section
/-! SUPPORT. The pieces list of a completion record (R49): of more than ten paid denominations, the ten that
fewer than ten others outrank. -/

namespace Sys2Proof.Machine

theorem length_filter_lt_range (m n : Nat) :
    ((List.range n).filter (fun i => decide (i < m))).length = min m n := by
  induction n with
  | zero => simp
  | succ n ih =>
    rw [List.range_succ, List.filter_append, List.length_append, ih]
    by_cases h : n < m <;> simp [h] <;> omega

/-- How many elements of a list stand above one. -/
def countAbove {α : Type} (above : α → α → Bool) (xs : List α) (d : α) : Nat :=
  (xs.filter (fun e => above e d)).length

section
variable {α : Type} {above : α → α → Bool} {xs : List α}
  (irrefl : ∀ a, above a a = false) (trans : ∀ a b c, above a b = true → above b c = true → above a c = true)
  (nodup : xs.Nodup)
include irrefl trans nodup

/-- What stands higher has fewer above it. -/
theorem fewer_above_of_above {a d : α} (ha : a ∈ xs) (had : above a d = true) :
    (xs.filter (fun e => above e a)).length < (xs.filter (fun e => above e d)).length := by
  have hnot : a ∉ xs.filter (fun e => above e a) := by simp [irrefl]
  refine ((nodup.filter _).cons hnot).subperm (fun e he => ?_) |>.length_le
  rcases List.mem_cons.mp he with rfl | he
  · exact List.mem_filter.mpr ⟨ha, had⟩
  · obtain ⟨he, hea⟩ := List.mem_filter.mp he
    exact List.mem_filter.mpr ⟨he, trans _ _ _ hea had⟩

/-- In a strict total order, of `n` elements exactly `min m n` have fewer than `m` others above them. -/
theorem length_filter_fewer_above (total : ∀ a b, a ≠ b → above a b = true ∨ above b a = true) (m : Nat) :
    (xs.filter (fun d => decide ((xs.filter (fun e => above e d)).length < m))).length =
      min m xs.length := by
  have hnodup : (xs.map (countAbove above xs)).Nodup := nodup.map_on (fun a ha b hb hab => by
    by_contra hne
    rcases total a b hne with h | h
    · exact absurd hab (fewer_above_of_above irrefl trans nodup ha h).ne
    · exact absurd hab (fewer_above_of_above irrefl trans nodup hb h).ne')
  have hrange : xs.map (countAbove above xs) ⊆ List.range xs.length := fun i hi => by
    obtain ⟨d, hd, rfl⟩ := List.mem_map.mp hi
    have hnot : d ∉ xs.filter (fun e => above e d) := by simp [irrefl]
    exact List.mem_range.mpr (((nodup.filter _).cons hnot).subperm (fun e he => by
      rcases List.mem_cons.mp he with rfl | he
      · exact hd
      · exact (List.mem_filter.mp he).1)).length_le
  have hperm : (xs.map (countAbove above xs)).Perm (List.range xs.length) :=
    (hnodup.subperm hrange).perm_of_length_le (by simp)
  have h := (hperm.filter (fun i => decide (i < m))).length_eq
  rw [length_filter_lt_range, List.filter_map, List.length_map] at h
  exact h

end

/-- The pieces list is one of those R49 asks for. -/
theorem State.listsPieces_piecesList (s : State) (pieces : Vector Nat 12) :
    s.listsPieces pieces (s.piecesList pieces) := by
  have hentries : ∀ kept : List Denom, (kept.map (fun d => (d, pieces[d]))).map Prod.fst = kept := fun kept => by
    rw [List.map_map]; exact List.map_id kept
  have hnodup : (paidDenoms pieces).Nodup := allDenoms_nodup.filter _
  unfold State.piecesList State.listsPieces
  dsimp only
  rw [hentries]
  change _ ∧ _ ∧ List.length _ = min 10 (paidDenoms pieces).length ∧ ∀ d ∈ _, ∀ e ∈ paidDenoms pieces, _
  split
  · rename_i hle
    exact ⟨rfl, List.Sublist.refl _, (Nat.min_eq_right hle).symm, fun d _ e he hn => absurd he hn⟩
  · refine ⟨rfl, List.filter_sublist, ?_, fun d hd e he hn => ?_⟩
    · exact length_filter_fewer_above (s.outranks_irrefl pieces) (s.outranks_trans pieces) hnodup
        (s.outranks_total pieces) Config.maxEntries
    · by_cases hde : d = e
      · exact absurd (hde ▸ hd) hn
      · rcases s.outranks_total pieces d e hde with h | h
        · exact s.value_le_of_outranks pieces d e h
        · refine absurd (List.mem_filter.mpr ⟨he, decide_eq_true ?_⟩) hn
          exact (fewer_above_of_above (s.outranks_irrefl pieces) (s.outranks_trans pieces) hnodup he h).trans
            (of_decide_eq_true (List.mem_filter.mp hd).2)

end Sys2Proof.Machine
end

section
/-! SUPPORT. What start-up books (R158, R187), and what it leaves of each store. -/

namespace Sys2Proof.Machine

section
variable (r : Retained) (pins : Pins) (q : List Instr)

/-- The retained fills of a denomination that wait for a counter. -/
def retainedFills (d : Denom) (n : FillCounter) : Nat :=
  (allStores.map (fun k => (r.stores[k].fills.filter (· == (d, n))).length)).sum

/-- The pieces that left with the cassettes found out. -/
def removedPieces (d : Denom) : Nat :=
  ((allStores.filter (fun k => r.stores[k].denom == some d && !pins.cassetteIn[k] &&
    (r.stores[k].state != .absent || r.stores[k].inFlight))).map (fun k => r.stores[k].physical)).sum

/-- What start-up books to a counter. -/
def startUpBooked (c : Counter) (d : Denom) : Nat :=
  match c with
  | .accepted => retainedFills r d .accepted
  | .loaded => retainedFills r d .loaded
  | .unplaced => retainedFills r d .accepted + retainedFills r d .loaded
  | .removed => removedPieces r pins d
  | _ => 0

/-- What a store's retained fills book to a counter (R66). -/
def fillsBooked (fills : List (Denom × FillCounter)) (c : Counter) (d : Denom) : Nat :=
  match c with
  | .accepted => (fills.filter (· == (d, FillCounter.accepted))).length
  | .loaded => (fills.filter (· == (d, FillCounter.loaded))).length
  | .unplaced => (fills.filter (· == (d, FillCounter.accepted))).length +
      (fills.filter (· == (d, FillCounter.loaded))).length
  | _ => 0

theorem booked_fills (fills : List (Denom × FillCounter)) (c : Counter) (d : Denom) :
    booked ((fills.map (fun f => { denom := f.1, counter := f.2, windowMs := 0 : Fill })).flatMap
      Fill.bookings) c d = fillsBooked fills c d := by
  induction fills with
  | nil => cases c <;> rfl
  | cons f fills ih =>
    obtain ⟨e, n⟩ := f
    rw [List.map_cons, List.flatMap_cons, booked_append, ih]
    by_cases hd : e = d
    · subst hd
      cases n <;> cases c <;>
        simp [fillsBooked, Fill.bookings, booked, FillCounter.counter] <;> omega
    · cases n <;> cases c <;> simp [fillsBooked, Fill.bookings, booked, hd]

theorem booked_sensed (x : Store) (present : Bool) (hf : x.fills = []) (c : Counter) (d : Denom) :
    booked (x.sensedBookings present) c d =
      if c = .removed ∧ (x.denom == some d && !present && x.state != .absent) = true
      then x.physical else 0 := by
  unfold Store.sensedBookings Store.removal
  rw [hf]
  cases present
  · by_cases ha : x.state = .absent
    · simp [ha, booked]
    · cases hx : x.denom with
      | none => simp [booked, ha]
      | some e => cases c <;> simp [booked, ha]
  · simp [booked]

theorem Store.unmarked_fields (x : Store) : x.unmarked.fills = x.fills ∧ x.unmarked.denom = x.denom ∧
    x.unmarked.physical = x.physical ∧
    x.unmarked.state = if x.inFlight then .uncertain else x.state := by
  unfold Store.unmarked; split <;> exact ⟨rfl, rfl, rfl, rfl⟩

theorem Store.unfilled_fields (x : Store) : x.unfilled.fills = [] ∧ x.unfilled.denom = x.denom ∧
    x.unfilled.physical = x.physical ∧
    x.unfilled.state = if x.fills ≠ [] ∧ x.state = .ready then .uncertain else x.state := by
  unfold Store.unfilled
  cases hf : x.fills with
  | nil => simp [hf]
  | cons f fs => simp

theorem Store.unfilled_absent (x : Store) : (x.unmarked.unfilled.state != .absent) =
    (x.state != .absent || x.inFlight) := by
  obtain ⟨-, -, -, hs⟩ := x.unmarked.unfilled_fields
  obtain ⟨hf, -, -, hm⟩ := x.unmarked_fields
  rw [hs, hm, hf]
  cases x.inFlight <;> cases x.state <;> simp
  split <;> rfl

theorem sum_filter_map {α : Type} (xs : List α) (p : α → Bool) (f : α → Nat) :
    ((xs.filter p).map f).sum = (xs.map (fun x => if p x then f x else 0)).sum := by
  induction xs with
  | nil => rfl
  | cons x xs ih => by_cases h : p x = true <;> simp [h, ih]

/-- Start-up books what R158 asks for. -/
theorem booked_startUp (c : Counter) (d : Denom) :
    booked (startUpBookings r pins q) c d = startUpBooked r pins c d := by
  have hsensed : ∀ k : StoreId, booked ((((restored r pins .running q).store k).unmarked.unfilled).sensedBookings
      (restored r pins .running q).pins.cassetteIn[k]) c d = if c = .removed then (if (r.stores[k].denom == some d &&
        !pins.cassetteIn[k] && (r.stores[k].state != .absent || r.stores[k].inFlight)) = true
        then r.stores[k].physical else 0) else 0 := fun k => by
    have hx := restored_store r pins q k
    obtain ⟨-, hmd, hmp, -⟩ := Store.unmarked_fields ((restored r pins .running q).store k)
    obtain ⟨hf, hd, hp, -⟩ := Store.unfilled_fields ((restored r pins .running q).store k).unmarked
    rw [booked_sensed _ _ hf, hd, hmd, hp, hmp, Store.unfilled_absent, hx]
    by_cases hc : c = .removed
    · simp only [hc, true_and, if_true]; rfl
    · simp [hc]
  have hfills : ∀ k : StoreId, booked (((restored r pins .running q).store k).unmarked.fills.flatMap
      Fill.bookings) c d = fillsBooked r.stores[k].fills c d := fun k => by
    rw [(Store.unmarked_fields _).1, restored_store]
    exact booked_fills _ c d
  unfold startUpBookings State.recoveryBookings
  rw [booked_append, booked_flatMap, booked_flatMap]
  rw [List.map_congr_left (fun k _ => hfills k), List.map_congr_left (fun k _ => hsensed k)]
  cases c <;> simp [startUpBooked, retainedFills, removedPieces, fillsBooked, sum_filter_map,
    List.sum_map_add]

end

/-- The counters after start-up, where Retained Memory's are in range (R158). -/
theorem startUpTotals_counters (r : Retained) (pins : Pins) (q : List Instr)
    (h : ∀ d : Denom, (r.totals.counters[d]).inRange) :
    (∀ d : Denom, (startUpTotals r pins q).counters[d] = { r.totals.counters[d] with
      accepted := min ((r.totals.counters[d]).accepted + retainedFills r d .accepted) 4294967295
      loaded := min ((r.totals.counters[d]).loaded + retainedFills r d .loaded) 4294967295
      unplaced := min ((r.totals.counters[d]).unplaced + retainedFills r d .accepted +
        retainedFills r d .loaded) 4294967295
      removed := min ((r.totals.counters[d]).removed + removedPieces r pins d) 4294967295 }) ∧
    ((startUpTotals r pins q).inexact = true ↔ r.totals.inexact = true ∨
      ∃ d c, 4294967295 < (r.totals.counters[d]).get c + startUpBooked r pins c d) := by
  have hfit : (restored r pins .running q).countersFit := fun d c => (h d).1 c
  have hget := State.bookAll_counters (startUpBookings r pins q) _ hfit
  refine ⟨fun d => Counters.ext_get (fun c => ?_) (State.bookAll_adjusted _ _ d), ?_⟩
  · refine (hget c d).trans ?_
    rw [booked_startUp]
    have hc : (r.totals.counters[d]).get c ≤ 4294967295 := (h d).1 c
    change min ((r.totals.counters[d]).get c + _) 4294967295 = _
    cases c <;> simp only [Counters.get, startUpBooked] at hc ⊢ <;> omega
  · have hi := (State.bookAll_inexact (startUpBookings r pins q) _ hfit).1
    refine hi.trans (or_congr_right (exists_congr fun d => exists_congr fun c => ?_))
    rw [booked_startUp]
    rfl

end Sys2Proof.Machine
end

section
/-! PROOF. Start-up rebuilds the working state from Retained Memory and the sensors (O18). -/

namespace Sys2Proof.Machine

/-- A store's assignment, capacity and permissions, which no event of start-up touches. -/
def Store.kept (x : Store) : Option Denom × Nat × Bool × Bool := (x.denom, x.capacity, x.pay, x.fill)

theorem Store.unmarked_rest (x : Store) : x.unmarked.kept = x.kept ∧ x.unmarked.reserved = x.reserved ∧
    x.unmarked.channel = x.channel ∧ x.unmarked.inFlight = false := by
  unfold Store.unmarked
  split
  · exact ⟨rfl, rfl, rfl, rfl⟩
  · rename_i h; exact ⟨rfl, rfl, rfl, Bool.not_eq_true _ ▸ h⟩

theorem Store.unfilled_rest (x : Store) : x.unfilled.kept = x.kept ∧ x.unfilled.reserved = x.reserved ∧
    x.unfilled.channel = x.channel ∧ x.unfilled.inFlight = x.inFlight := by
  unfold Store.unfilled; split <;> exact ⟨rfl, rfl, rfl, rfl⟩

theorem Store.sensed_rest (x : Store) (present : Bool) (hf : x.fills = []) (hr : x.reserved = 0)
    (hi : x.inFlight = false) (hc : x.channel = .idle) : let y := x.sensed present
    y.kept = x.kept ∧ y.fills = [] ∧ y.reserved = 0 ∧ y.inFlight = false ∧ y.channel = .idle := by
  unfold Store.sensed
  dsimp only
  repeat' split
  · exact ⟨rfl, rfl, rfl, hi, hc⟩
  · exact ⟨rfl, hf, hr, hi, hc⟩
  · exact ⟨rfl, hf, hr, hi, hc⟩
  · exact ⟨rfl, rfl, rfl, rfl, rfl⟩

theorem Store.levelled_rest (x : Store) (empty : Bool) : let y := x.levelled empty
    y.kept = x.kept ∧ y.fills = x.fills ∧ y.reserved = x.reserved ∧ y.inFlight = x.inFlight ∧
      y.channel = x.channel := by
  unfold Store.levelled
  dsimp only
  repeat' split
  all_goals exact ⟨rfl, rfl, rfl, rfl, rfl⟩

theorem Cashbox.sensed_rest (b : Cashbox) (present : Bool) : let y := b.sensed present
    y.counts = b.counts ∧ y.capacity = b.capacity ∧ y.promised = b.promised ∧ y.present = present := by
  cases present <;> exact ⟨rfl, rfl, rfl, rfl⟩

/-- The shortfall of an INTERRUPTED record by the state its sale was in (R188). -/
theorem OpenSale.interruptedShortfall_eq (x : OpenSale) (h : x.state ≠ .idle) : x.interruptedShortfall =
    if x.state = .paying ∨ x.state = .presented then x.target - x.paid else x.tendered := by
  unfold OpenSale.interruptedShortfall
  cases hx : x.state <;> simp_all

/-- A store's steps of R187 touch its state, its count and its pending fills, and clear its markers. -/
theorem Store.recovered_rest (x : Store) (pins : Pins) (k : StoreId) (hr : x.reserved = 0)
    (hc : x.channel = .idle) : let y := x.recovered pins k
      y.kept = x.kept ∧ y.fills = [] ∧ y.reserved = 0 ∧ y.inFlight = false ∧ y.channel = .idle := by
  obtain ⟨mk, mr, mc, mi⟩ := x.unmarked_rest
  obtain ⟨fk, fr, fc, fi⟩ := x.unmarked.unfilled_rest
  obtain ⟨sk, sf, sr, si, sc⟩ := x.unmarked.unfilled.sensed_rest pins.cassetteIn[k]
    x.unmarked.unfilled_fields.1 (fr.trans (mr.trans hr)) (fi.trans mi) (fc.trans (mc.trans hc))
  obtain ⟨lk, lf, lr, li, lc⟩ :=
    (x.unmarked.unfilled.sensed pins.cassetteIn[k]).levelled_rest pins.levelEmpty[k]
  exact ⟨lk.trans (sk.trans (fk.trans mk)), lf.trans sf, lr.trans sr, li.trans si, lc.trans sc⟩

end Sys2Proof.Machine

namespace Sys2Proof
open Machine

/-- Settles O18, step by step of start-up: the tables and the bookings of recovery, then the lanes' INTERRUPTED
records, then the notices at the close of the event. -/
theorem startUpRebuildsTheWorkingState : Obligations.StartUpRebuildsTheWorkingState := by
  intro s
  have heq := startedUp_eq s.retained s.pins s.pending
  obtain ⟨hshift, hopen, hprev⟩ := startUpTotals_rest s.retained s.pins s.pending
  obtain ⟨hrec, hinex, hadv, hprof, hen, hline⟩ := startedUp_officeNotices s.retained s.pins s.pending
  have hlane := startedUp_lane s.retained s.pins s.pending
  have hnot := startedUp_laneNotices s.retained s.pins s.pending
  have hstore := startedUp_store s.retained s.pins s.pending
  have hbox := startedUp_box s.retained s.pins s.pending
  have htot : (startedUp s.retained s.pins s.pending).totals = startUpTotals s.retained s.pins s.pending := by
    rw [heq]
  refine ⟨startedUp s.retained s.pins s.pending, rfl, ?_⟩
  generalize startedUp s.retained s.pins s.pending = t at *
  refine ⟨by rw [heq]; rfl, by rw [heq]; rfl, by rw [heq]; rfl, by rw [heq]; rfl, by rw [heq]; rfl,
    by rw [heq]; rfl, by rw [heq]; rfl, by rw [heq]; rfl, by rw [heq]; rfl, by rw [heq]; rfl,
    by rw [heq]; rfl, ?_, ?_, ?_, ?_, ?_, ?_, ?_, ?_, hrec, hinex, hadv, hprof, hline, ?_, ?_, ?_, ?_, ?_⟩
  · intro k; rw [heq]; cases k <;> rfl
  · intro l
    obtain ⟨hmode, hsale, -⟩ := hlane l
    refine ⟨hmode, hsale, by rw [heq]; cases l <;> rfl, fun k => ?_⟩
    rw [heq]; cases l <;> cases k <;> rfl
  · intro p; rw [heq]; cases p with
    | office => rfl
    | lane l => cases l <;> rfl
  · intro k
    obtain ⟨hkept, hfills, hres, hfl, hch⟩ :=
      s.retained.stores[k].restore.recovered_rest s.pins k rfl rfl
    simp only [Store.kept, Prod.mk.injEq] at hkept
    rw [← hstore k] at hkept hfills hres hfl hch
    obtain ⟨hden, hcap, hpay, hfill⟩ := hkept
    exact ⟨hres, hfills, hfl, hch, hden, hcap, hpay, hfill⟩
  · intro k
    obtain ⟨hcounts, hcap, hprom, hpres⟩ := ((s.retained.boxes.get k).restore (s.pins.boxIn.get k)).sensed_rest
      (s.pins.boxIn.get k)
    rw [← hbox k] at hcounts hcap hprom hpres
    exact ⟨hcounts, hcap, hprom, hpres⟩
  · intro l
    obtain ⟨-, -, hslot⟩ := hlane l
    obtain ⟨hready, -⟩ := hnot l
    refine ⟨fun hi => ⟨by rw [hslot, if_pos hi], by rw [hready]; simp [hi]⟩, fun hi =>
      ⟨by rw [hready]; simp [hi], t.interrupted (s.retained.sales.get l), by rw [hslot, if_neg hi],
        rfl, rfl, rfl, rfl, rfl, rfl, rfl, t.listsPieces_piecesList _, ?_⟩⟩
    exact OpenSale.interruptedShortfall_eq _ hi
  · intro n; rw [hen]; cases n <;> rfl
  · intro l n
    obtain ⟨-, -, -, -, hen⟩ := hnot l
    rw [hen]; cases n <;> rfl
  · intro l
    obtain ⟨-, hrefused, hreturned, hreached, -⟩ := hnot l
    exact ⟨hrefused, hreturned, hreached⟩
  · rw [htot]; exact hshift
  · rw [htot]; exact hopen
  · rw [htot]; exact hprev
  · intro hrange
    obtain ⟨hcounters, hinexact⟩ := startUpTotals_counters s.retained s.pins s.pending hrange
    refine ⟨fun d => ?_, ?_⟩
    · unfold State.counters
      rw [htot]
      exact hcounters d
    · rw [htot]
      refine hinexact.trans (or_congr_right (exists_congr fun d => ⟨?_, ?_⟩))
      · rintro ⟨c, hc⟩
        have hfit : (s.retained.totals.counters[d]).get c ≤ 4294967295 := (hrange d).1 c
        cases c <;> simp only [startUpBooked, Counters.get, Nat.add_zero, ← Nat.add_assoc] at hc hfit
        case accepted => exact .inl hc
        case loaded => exact .inr (.inl hc)
        case unplaced => exact .inr (.inr (.inl hc))
        case removed => exact .inr (.inr (.inr hc))
        all_goals omega
      · rintro (hc | hc | hc | hc)
        · exact ⟨.accepted, hc⟩
        · exact ⟨.loaded, hc⟩
        · exact ⟨.unplaced, hc.trans_eq (Nat.add_assoc ..)⟩
        · exact ⟨.removed, hc⟩

end Sys2Proof
end

section
/-! PROOF. The stock follows the strokes through every step (O11). -/

namespace Sys2Proof.Machine

/-! ### The stock that Retained Memory gives back -/

/-- The pieces a retained cashbox counts. -/
def RetainedBox.count (b : RetainedBox) : Nat := (b.restore true).count

theorem RetainedBox.count_restore (b : RetainedBox) (present : Bool) : (b.restore present).count = b.count :=
  Cashbox.count_congr rfl

theorem Cashbox.count_retained (b : Cashbox) : b.retained.count = b.count := Cashbox.count_congr rfl

theorem restored_box (r : Retained) (pins : Pins) (phase : Phase) (q : List Instr) (k : Kind) :
    (restored r pins phase q).box k = (r.boxes.get k).restore (pins.boxIn.get k) := by cases k <;> rfl

/-- A restored part has no strokes, so its stock follows where no retained cashbox is past its capacity. -/
theorem State.fromMemory_stockHeld_iff (s : State) :
    s.fromMemory.stockHeld ↔ ∀ k, (s.retained.boxes.get k).count ≤ (s.retained.boxes.get k).capacity := by
  have hrec : s.fromMemory.pool.records = [] := rfl
  have hbox := restored_box s.retained s.pins .running s.pending
  have hsum : ∀ p f, s.fromMemory.sumStrokes p f = 0 := fun _ _ => by simp [State.sumStrokes, hrec]
  constructor
  · rintro ⟨-, hb, -⟩ k
    have h := (hb k).2
    unfold State.fromMemory at h
    rw [hbox, RetainedBox.count_restore] at h
    exact (Nat.le_add_right ..).trans h
  · intro h
    refine ⟨fun k => ?_, fun k => ?_, fun r hr => absurd hr (by simp [hrec])⟩
    · have hst : (s.fromMemory.store k).reserved = 0 :=
        congrArg Store.reserved (restored_store s.retained s.pins s.pending k)
      rw [hst, hsum]; exact ⟨rfl, Nat.zero_le _⟩
    · rw [hsum]
      unfold State.fromMemory
      rw [hbox, RetainedBox.count_restore]
      exact ⟨rfl, h k⟩

theorem State.keepsStock.stockFollows {s t : State} (h : s.keepsStock t) (hs : s.fromMemory.stockHeld) :
    t.stockFollows := by
  obtain ⟨hstock, hret⟩ := h
  refine ⟨fun _ => t.stockHeld_iff.mpr hstock, t.fromMemory_stockHeld_iff.mpr fun k => ?_⟩
  rcases hret with hret | hret
  · rw [hret]; exact s.fromMemory_stockHeld_iff.mp hs k
  · have hbox : t.capture.boxes.get k = (t.box k).retained := by cases k <;> rfl
    rw [hret, hbox, Cashbox.count_retained]
    exact (Nat.le_add_right ..).trans (hstock.boxes k)

/-! ### One event -/

/-- What a step starts from: Retained Memory fits, and while the part runs its tables are sound. -/
structure State.Steady (s : State) : Prop where
  sound : s.phase = .running → s.Sound
  memory : s.fromMemory.stockHeld

theorem State.Steady.stockFollows {s : State} (h : s.Steady) : s.stockFollows :=
  ⟨fun hp => s.stockHeld_iff.mpr (h.sound hp).stocked, h.memory⟩

/-- The queue and the sensors are no part of it. -/
theorem State.Steady.of_same {s t : State} (h : s.Steady) (hphase : t.phase = s.phase)
    (hst : t.stores = s.stores) (hbox : t.boxes = s.boxes) (hlane : t.lanes = s.lanes)
    (hplan : t.planner = s.planner) (hpool : t.pool = s.pool) (hpath : t.paths = s.paths)
    (hret : t.retained = s.retained) : t.Steady where
  sound hp := (h.sound (hphase.symm.trans hp)).of_same hst hbox hlane hplan hpool hpath
  memory := t.fromMemory_stockHeld_iff.mpr (by rw [hret]; exact s.fromMemory_stockHeld_iff.mp h.memory)

theorem State.Steady.withPins {s : State} (h : s.Steady) (pins : Pins) : ({ s with pins := pins }).Steady :=
  h.of_same rfl rfl rfl rfl rfl rfl rfl rfl

/-- An event of the running part that keeps the stock. -/
theorem State.Steady.whileRunning {s t : State} (h : s.Steady) {event : State → State}
    (keeps : s.Sound → s.keepsStock (event s)) (ht : s.whileRunning event = .next t) : t.stockFollows := by
  unfold State.whileRunning at ht
  split at ht <;> obtain rfl := Host.Outcome.next.inj ht
  · rename_i hp
    exact (keeps (h.sound hp)).stockFollows h.memory
  · exact h.stockFollows
  · exact h.stockFollows

theorem State.Steady.requestArrives {s t : State} (h : s.Steady) {r : Request} {p : Port} {payload : List Byte}
    (ht : requestArrives r p payload s = .next t) : t.stockFollows := by
  refine h.whileRunning (fun hs => ?_) ht
  split
  · exact hs.offerFrame p _
  · exact State.keepsStock_self hs.stocked

section
variable {s : State}

theorem State.Sound.discardFrame (h : s.Sound) (p : Port) : s.keepsStock (s.discardFrame p) :=
  (State.keepsStock_self h.stocked).modPort p (fun y => { y with receiver := .hunt })

/-! ### The intake's events -/

theorem State.sameStock_credit (s : State) (l : Lane) (v : Nat) : s.sameStock (s.credit l v) := by
  unfold State.credit
  dsimp only
  split
  · split
    · exact State.sameStock.trans (t := s.modSale l _) ⟨rfl, rfl, rfl⟩ (State.sameStock_beginSettle _ l)
    · exact ⟨rfl, rfl, rfl⟩
  · exact ⟨rfl, rfl, rfl⟩

theorem State.sameStock_creditIfServing (s : State) (l : Lane) (v : Nat) :
    s.sameStock (s.creditIfServing l v) := by
  unfold State.creditIfServing
  cases s.mode l with
  | serve => exact s.sameStock_credit l v
  | load => exact .refl s
  | closed => exact .refl s

theorem State.sameStock_adviseSkim (s : State) (l : Lane) (d : Denom) : s.sameStock (s.adviseSkim l d) := by
  unfold State.adviseSkim
  split
  · exact ⟨rfl, rfl, rfl⟩
  · exact .refl s

theorem State.sameStock_book (s : State) (c : Counter) (d : Denom) (n : Nat) : s.sameStock (s.book c d n) := by
  obtain ⟨-, -, -, -, -, hst, hbox, -, -, -, -, hpool, -⟩ := s.book_frame c d n
  exact ⟨hst, hbox, congrArg Pool.records hpool⟩

/-- A piece that a route decision sends to a cashbox finds room there (R57, R60). -/
theorem State.route_cashbox {l : Lane} {k : Kind} {code : ClassCode} {d : Denom}
    (h : s.route l k code = .cashbox d) : 0 < s.space k := by
  unfold State.route at h
  split at h
  · exact absurd h nofun
  split at h
  · exact absurd h nofun
  split at h
  · exact absurd h nofun
  split at h
  · exact absurd h nofun
  split at h
  · assumption
  · exact absurd h nofun

/-- ROUTE_DECISION's changes (R58–R62). -/
theorem State.Stocked.applyRoute (h : s.Stocked) (l : Lane) (k : Kind) (code : ClassCode) :
    (s.applyRoute l k (s.route l k code)).Stocked := by
  cases hr : s.route l k code with
  | refuse => exact h
  | noRoom => exact h.of_same rfl rfl rfl
  | store j d =>
    exact (State.sameStock_creditIfServing _ l _).stocked (h.modStore rfl rfl (h.stores j) (.inl rfl))
  | cashbox d =>
    have hroom : (s.box k).count + (s.box k).promised < (s.box k).capacity := by
      have hspace := State.route_cashbox hr
      unfold State.space at hspace
      split at hspace <;> omega
    have hcount : (s.modBox k (fun b => b.setCount d (b.countOf d + 1))).Stocked := by
      refine h.modBox rfl ?_
      rw [Cashbox.count_add, Nat.add_right_comm]
      exact hroom
    exact (((State.sameStock_book _ _ d 1).trans (State.sameStock_adviseSkim _ l d)).trans
      (State.sameStock_creditIfServing _ l _)).stocked hcount

theorem State.Sound.routeDecision (h : s.Sound) (l : Lane) (k : Kind) (code : ClassCode) (x : Head) :
    s.keepsStock ((s.route l k code).close ((s.applyRoute l k (s.route l k code)).setHead l k x)) := by
  have hstock : ((s.applyRoute l k (s.route l k code)).setHead l k x).Stocked :=
    (h.stocked.applyRoute l k code).of_same rfl rfl rfl
  generalize (s.applyRoute l k (s.route l k code)).setHead l k x = t at hstock
  cases s.route l k code with
  | refuse => exact State.keepsStock_closeEvent hstock
  | noRoom => exact State.keepsStock_closeEvent hstock
  | store => exact State.keepsStock_finish hstock
  | cashbox => exact State.keepsStock_finish hstock

/-! ### The channels' events -/

/-- A path runs one stroke at a time (R99). -/
theorem State.strokesFollow.one_per_path (h : s.strokesFollow) {q r : Stroke} (hq : q ∈ s.pool.records)
    (hr : r ∈ s.pool.records) (hqs : q.state = .running) (hrs : r.state = .running)
    (hp : q.path = r.path) : q = r := by
  obtain ⟨-, -, -, hone⟩ := h
  have hmem : ∀ x ∈ s.pool.records, x.state = .running → x.path = r.path →
      x ∈ s.pool.records.filter (fun y => y.path == r.path && y.state == .running) := fun x hx hs hp =>
    List.mem_filter.mpr ⟨hx, by simp [hs, hp]⟩
  have hone := (hone r.path).1
  have hqm := hmem q hq hqs hp
  have hrm := hmem r hr hrs rfl
  generalize s.pool.records.filter _ = xs at hone hqm hrm
  match xs, hone, hqm, hrm with
  | [x], _, hqm, hrm => exact (List.mem_singleton.mp hqm).trans (List.mem_singleton.mp hrm).symm

theorem State.Sound.channelStroke (h : s.Sound) {k : StoreId} {slot : SlotId} {r : Stroke} {d : Denom}
    (hs : (s.store k).channel.slot? = some slot) (hc : s.channelStroke k slot = some (r, d)) :
    r ∈ s.pool.records ∧ r.slot = slot ∧ r.store = k ∧ r.state = .running := by
  unfold State.channelStroke at hc
  split at hc
  · rename_i q e hq he
    obtain ⟨rfl, rfl⟩ := Prod.mk.inj (Option.some.inj hc)
    obtain ⟨hmem, hslot⟩ := State.record_of_slot hq
    obtain ⟨hstore, hrun⟩ := h.linked.of_slot hmem (hslot ▸ hs)
    exact ⟨hmem, hslot, hstore, hrun⟩
  · exact absurd hc nofun
  · exact absurd hc nofun

/-- STROKE_START (R118). -/
theorem State.Sound.strokeStart (h : s.Sound) {path : Kind} {x : Latch} (hx : (s.path path).latch = some x)
    (hm : s.mayStart path x = true) (ms : Nat) :
    (((s.modRecord x.slot (fun r => { r with state := .running })).modStore x.store
      (fun y => y.start x.slot ms)).modPath path (fun a => { a with latch := none })).Stocked := by
  obtain ⟨-, -, hlatch, -⟩ := h.follow
  obtain ⟨r, hr, rfl, -, hw, -⟩ := hlatch path x hx
  have hready : (s.store r.store).state = .ready := by
    simp only [State.mayStart, Bool.and_eq_true, beq_iff_eq] at hm
    exact hm.1.2
  refine h.stocked.startStroke h.linked hr hw hready ms (State.modRecord_records s _ _) (fun j => ?_) rfl
  exact State.store_modStore (s.modRecord r.slot (fun q => { q with state := .running })) r.store j
    (fun y => y.start r.slot ms)

end

/-- With no stroke the stock follows where nothing is reserved or promised and the cashboxes are within their
capacity. -/
theorem State.Stocked.of_empty {s : State} (hrec : s.pool.records = []) (hst : ∀ k, (s.store k).reserved = 0)
    (hbox : ∀ k, (s.box k).promised = 0 ∧ (s.box k).count ≤ (s.box k).capacity) : s.Stocked := by
  have hsum : ∀ p f, s.sumStrokes p f = 0 := fun _ _ => by simp [State.sumStrokes, hrec]
  refine ⟨⟨fun k => by rw [hst, hsum], fun k => by rw [(hbox k).1, hsum]⟩, fun k => ?_, fun k => ?_,
    fun r hr => absurd hr (by simp [hrec]), fun r hr => absurd hr (by simp [hrec])⟩
  · rw [hst]; exact Nat.zero_le _
  · rw [(hbox k).1]; exact (hbox k).2

/-- START_UP leaves no stroke, and the cashboxes as Retained Memory has them (R184, R187). -/
theorem startedUp_keepsStock {s : State} (h : s.fromMemory.stockHeld) :
    s.keepsStock (startedUp s.retained s.pins s.pending) := by
  obtain ⟨u, -, -, -, -, -, -, hu⟩ := recovered_lanes s.retained s.pins s.pending
  have hret : (startedUp s.retained s.pins s.pending).retained.boxes =
      (startedUp s.retained s.pins s.pending).capture.boxes := by rw [hu]; rfl
  refine ⟨State.Stocked.of_empty (by rw [startedUp_eq]; rfl) (fun k => ?_) (fun k => ?_), .inr hret⟩
  · obtain ⟨-, -, hres, -⟩ := s.retained.stores[k].restore.recovered_rest s.pins k rfl rfl
    rw [startedUp_store]; exact hres
  · obtain ⟨hcounts, hcap, hprom, -⟩ := ((s.retained.boxes.get k).restore (s.pins.boxIn.get k)).sensed_rest
      (s.pins.boxIn.get k)
    rw [startedUp_box, hprom, hcap, Cashbox.count_congr hcounts, RetainedBox.count_restore]
    exact ⟨rfl, s.fromMemory_stockHeld_iff.mp h k⟩

/-! ### The events -/

section
variable {s : State}

theorem State.Steady.unknownCode {t : State} (h : s.Steady) {p : Port} {body : List Byte} {check : Byte}
    (ht : execUnknownCode p body check s = .next t) : t.stockFollows := by
  unfold execUnknownCode at ht
  refine h.whileRunning (fun hs => ?_) ht
  split
  · exact hs.offerFrame p _
  · exact State.keepsStock_self hs.stocked

theorem State.Steady.frameComplete {t : State} (h : s.Steady) {p : Port} {check : Byte}
    (ht : execFrameComplete p check s = .next t) : t.stockFollows := by
  unfold execFrameComplete at ht
  refine h.whileRunning (fun hs => ?_) ht
  split
  · exact (hs.modPort p _).offerFrame p _
  all_goals exact State.keepsStock_self hs.stocked

theorem State.Steady.interByteGapExpiry {t : State} (h : s.Steady) {p : Port}
    (ht : execInterByteGapExpiry p s = .next t) : t.stockFollows := by
  unfold execInterByteGapExpiry at ht
  exact h.whileRunning (fun hs => hs.discardFrame p) ht

theorem State.Steady.replyTransmitEnd {t : State} (h : s.Steady) {p : Port}
    (ht : execReplyTransmitEnd p s = .next t) : t.stockFollows := by
  unfold execReplyTransmitEnd at ht
  refine h.whileRunning (fun hs => ?_) ht
  split
  · exact hs.replySent p _
  · exact State.keepsStock_self hs.stocked

theorem State.Steady.byteReceived {t : State} (h : s.Steady) {p : Port} {b : Byte} {stopError : Bool}
    (ht : execByteReceived p b stopError s = .next t) : t.stockFollows := by
  unfold execByteReceived at ht
  refine h.whileRunning (fun hs => ?_) ht
  split
  · exact hs.discardFrame p
  · exact hs.takeByte p b

theorem State.Steady.startUp {t : State} (h : s.Steady)
    (ht : execStartUp s = .next t) : t.stockFollows := by
  unfold execStartUp at ht
  obtain rfl := Host.Outcome.next.inj ht
  exact (startedUp_keepsStock h.memory).stockFollows h.memory

theorem State.Steady.powerLoss {t : State} (h : s.Steady)
    (ht : execPowerLoss s = .next t) : t.stockFollows := by
  unfold execPowerLoss at ht
  obtain rfl := Host.Outcome.next.inj ht
  exact ⟨nofun, (State.fromMemory_stockHeld_iff _).mpr (s.fromMemory_stockHeld_iff.mp h.memory)⟩

theorem State.Steady.rehomeComplete {t : State} (h : s.Steady) {path : Kind}
    (ht : execRehomeComplete path s = .next t) : t.stockFollows := by
  unfold execRehomeComplete at ht
  refine h.whileRunning (fun hs => ?_) ht
  split
  · exact State.keepsStock_finish (hs.stocked.of_same rfl rfl rfl)
  · exact State.keepsStock_self hs.stocked

theorem State.Steady.managerKeyChange {t : State} (h : s.Steady) {l : Lane} {turned : Bool}
    (ht : execManagerKeyChange l turned s = .next t) : t.stockFollows := by
  unfold execManagerKeyChange at ht
  obtain rfl := Host.Outcome.next.inj ht
  have hpin := h.withPins { s.pins with keyTurned := s.pins.keyTurned.set l turned }
  exact hpin.stockFollows

theorem State.Steady.headStrobe {t : State} (h : s.Steady) {l : Lane} {k : Kind} {code : ClassCode}
    (ht : execHeadStrobe l k code s = .next t) : t.stockFollows := by
  unfold execHeadStrobe at ht
  refine h.whileRunning (fun hs => ?_) ht
  split
  · exact State.keepsStock_of_same hs.stocked ⟨rfl, rfl, rfl⟩ rfl
  · exact State.keepsStock_self hs.stocked

theorem State.Steady.routeDecision {t : State} (h : s.Steady) {l : Lane} {k : Kind}
    (ht : execRouteDecision l k s = .next t) : t.stockFollows := by
  unfold execRouteDecision at ht
  refine h.whileRunning (fun hs => ?_) ht
  split
  · exact State.keepsStock_self hs.stocked
  · exact hs.routeDecision l k _ _

theorem State.Steady.entryPulse {t : State} (h : s.Steady) {k : StoreId}
    (ht : execEntryPulse k s = .next t) : t.stockFollows := by
  unfold execEntryPulse at ht
  refine h.whileRunning (fun hs => ?_) ht
  split
  · exact State.keepsStock_finish (hs.stocked.confirmFill hs.linked _ _)
  · exact State.keepsStock_finish (hs.stocked.strayEntry hs.linked k)

theorem State.Steady.routeWindowExpiry {t : State} (h : s.Steady) {k : StoreId}
    (ht : execRouteWindowExpiry k s = .next t) : t.stockFollows := by
  unfold execRouteWindowExpiry at ht
  refine h.whileRunning (fun hs => ?_) ht
  split
  · exact State.keepsStock_finish (hs.stocked.expireFill hs.linked _ _)
  · exact State.keepsStock_self hs.stocked

theorem State.Steady.cassetteOut {t : State} (h : s.Steady) {k : StoreId}
    (ht : execCassetteOut k s = .next t) : t.stockFollows := by
  unfold execCassetteOut at ht
  refine State.Steady.whileRunning (s := s.setCassettePin k false)
    (h.withPins _) (fun hs => ?_) ht
  split
  · exact State.keepsStock_self hs.stocked
  · exact State.keepsStock_finish (hs.stocked.pullCassette hs.linked k)

theorem State.Steady.cassetteIn {t : State} (h : s.Steady) {k : StoreId}
    (ht : execCassetteIn k s = .next t) : t.stockFollows := by
  unfold execCassetteIn at ht
  refine State.Steady.whileRunning (s := s.setCassettePin k true)
    (h.withPins _) (fun hs => ?_) ht
  split
  · rename_i ha
    exact State.keepsStock_closeEvent (hs.stocked.newCassette ha)
  · exact State.keepsStock_self hs.stocked

theorem State.Steady.emptyLevelReport {t : State} (h : s.Steady) {k : StoreId}
    (ht : execEmptyLevelReport k s = .next t) : t.stockFollows := by
  unfold execEmptyLevelReport at ht
  split at ht
  · obtain rfl := Host.Outcome.next.inj ht
    exact h.stockFollows
  · have hpin : (s.setLevelPin k true).Steady := h.of_same rfl rfl rfl rfl rfl rfl rfl rfl
    refine hpin.whileRunning (fun hs => ?_) ht
    refine State.keepsStock_finish ?_
    unfold State.levelReported
    split
    · exact hs.stocked.markUncertain hs.linked k
    · exact hs.stocked

theorem State.Steady.emptyLevelNotEmpty {t : State} (h : s.Steady) {k : StoreId}
    (ht : execEmptyLevelNotEmpty k s = .next t) : t.stockFollows := by
  unfold execEmptyLevelNotEmpty at ht
  obtain rfl := Host.Outcome.next.inj ht
  have hpin : (s.setLevelPin k false).Steady := h.of_same rfl rfl rfl rfl rfl rfl rfl rfl
  exact hpin.stockFollows

/-- PIECE_PULSE (R16, R120, R122). -/
theorem State.Steady.piecePulse {t : State} (h : s.Steady) {k : StoreId}
    (ht : Machine.execPiecePulse k s = .next t) : t.stockFollows := by
  unfold execPiecePulse at ht
  refine h.whileRunning (fun hs => ?_) ht
  split
  · exact State.keepsStock_finish (hs.stocked.unbidden hs.linked k)
  · rename_i slot ms hc
    split
    · rename_i r d hr
      obtain ⟨hmem, rfl, rfl, -⟩ := hs.channelStroke (by rw [hc]; rfl) hr
      exact State.keepsStock_closeEvent (hs.stocked.drivePiece hs.linked hmem hc d)
    · exact State.keepsStock_self hs.stocked
  · rename_i slot ms hc
    split
    · rename_i r d hr
      obtain ⟨hmem, hslot, hstore, hrun⟩ := hs.channelStroke (by rw [hc]; rfl) hr
      refine State.keepsStock_finish (hs.stocked.overPay hs.linked hc d (fun q hq _ _ hp hqrun => ?_))
      obtain rfl := hs.follow.one_per_path hq hmem hqrun hrun hp
      subst hslot hstore
      exact State.heldBy_afterRun (by rw [hc]; rfl) (by rw [hc]; rfl)
    · exact State.keepsStock_self hs.stocked

theorem State.Steady.afterRunWindowClose {t : State} (h : s.Steady) {k : StoreId}
    (ht : execAfterRunWindowClose k s = .next t) : t.stockFollows := by
  unfold execAfterRunWindowClose at ht
  refine h.whileRunning (fun hs => ?_) ht
  split
  · exact State.keepsStock_self hs.stocked
  · exact State.keepsStock_self hs.stocked
  · rename_i slot ms hc
    exact State.keepsStock_finish (hs.stocked.closeWindow hs.linked hc)

theorem State.Steady.strokeDeadlineExpiry {t : State} (h : s.Steady) {k : StoreId}
    (ht : execStrokeDeadlineExpiry k s = .next t) : t.stockFollows := by
  unfold execStrokeDeadlineExpiry at ht
  refine h.whileRunning (fun hs => ?_) ht
  split
  · exact State.keepsStock_self hs.stocked
  · exact State.keepsStock_self hs.stocked
  · rename_i slot ms hc
    exact State.keepsStock_finish (hs.stocked.jam hs.linked hc)

theorem State.Steady.cashboxOut {t : State} (h : s.Steady) {k : Kind}
    (ht : execCashboxOut k s = .next t) : t.stockFollows := by
  unfold execCashboxOut at ht
  refine State.Steady.whileRunning (s := s.setBoxPin k false) (h.withPins _) (fun hs => ?_) ht
  exact State.keepsStock_finish (hs.stocked.cashboxOut hs.linked k)

theorem State.Steady.cashboxIn {t : State} (h : s.Steady) {k : Kind}
    (ht : execCashboxIn k s = .next t) : t.stockFollows := by
  unfold execCashboxIn at ht
  refine State.Steady.whileRunning (s := s.setBoxPin k true) (h.withPins _) (fun hs => ?_) ht
  exact State.keepsStock_closeEvent (hs.stocked.modBox rfl (hs.stocked.boxes k))

theorem State.Steady.strokeStart {t : State} (h : s.Steady) {path : Kind}
    (ht : execStrokeStart path s = .next t) : t.stockFollows := by
  unfold execStrokeStart at ht
  refine h.whileRunning (fun hs => ?_) ht
  split
  · exact State.keepsStock_self hs.stocked
  · rename_i x hx
    split
    · rename_i hm
      exact State.keepsStock_closeEvent (hs.strokeStart hx hm _)
    · exact State.keepsStock_self hs.stocked

theorem State.Steady.diverterMoveComplete {t : State} (h : s.Steady) {path : Kind}
    (ht : execDiverterMoveComplete path s = .next t) : t.stockFollows := by
  unfold execDiverterMoveComplete at ht
  refine h.whileRunning (fun hs => ?_) ht
  split
  · exact State.keepsStock_self hs.stocked
  · rename_i m _
    have hsame := (s.modPath path (fun a => { a with move := none, position := some m.dest })).startMove_frame path
    obtain ⟨-, -, -, -, -, hst, hbox, -, -, -, -, hpool, -, -, -, -, -, -, -, -, hret⟩ := hsame
    exact State.keepsStock_of_same hs.stocked ⟨hst, hbox, congrArg Pool.records hpool⟩ hret

theorem State.sameStock_chuteCleared (s : State) (l : Lane) (k : Kind) (occupied : Bool) :
    s.sameStock ((s.shutPresenter l k occupied).closeIfClear l) := by
  have hshut : s.sameStock (s.shutPresenter l k occupied) := by
    unfold State.shutPresenter
    split
    · exact ⟨rfl, rfl, rfl⟩
    · exact .refl _
  refine hshut.trans ?_
  unfold State.closeIfClear
  split
  · exact State.sameStock_closeSale _ l _
  · exact .refl _

theorem State.Steady.chuteSensorChange {t : State} (h : s.Steady) {l : Lane} {k : Kind} {occupied : Bool}
    (ht : execChuteSensorChange l k occupied s = .next t) : t.stockFollows := by
  unfold execChuteSensorChange at ht
  have hpin : (s.setChutePin l k occupied).Steady := h.of_same rfl rfl rfl rfl rfl rfl rfl rfl
  refine hpin.whileRunning (fun hs => ?_) ht
  refine State.keepsStock_finish ?_
  exact (State.sameStock_chuteCleared _ l k occupied).stocked hs.stocked

theorem State.Steady.presentTimerExpiry {t : State} (h : s.Steady) {l : Lane}
    (ht : execPresentTimerExpiry l s = .next t) : t.stockFollows := by
  unfold execPresentTimerExpiry at ht
  refine h.whileRunning (fun hs => ?_) ht
  exact State.keepsStock_closeEvent (hs.stocked.of_same rfl rfl rfl)

theorem State.Steady.attemptCompletion {t : State} (h : s.Steady)
    (ht : execAttemptCompletion s = .next t) : t.stockFollows := by
  unfold execAttemptCompletion at ht
  split at ht
  · rename_i w hp hw
    split at ht
    · rename_i u hu
      obtain rfl := Host.Outcome.next.inj ht
      exact (State.keepsStock_finish ((h.sound hp).completeAttempt hu)).stockFollows h.memory
    · exact absurd ht nofun
  all_goals
    obtain rfl := Host.Outcome.next.inj ht
    exact h.stockFollows

end

/-! ### Every step -/

theorem exec_stockFollows {s t : State} (h : s.Steady) (i : Instr) (ht : exec i s = .next t) :
    t.stockFollows := by
  cases i
  case unknownCode => exact h.unknownCode ht
  case frameComplete => exact h.frameComplete ht
  case interByteGapExpiry => exact h.interByteGapExpiry ht
  case replyTransmitEnd => exact h.replyTransmitEnd ht
  case byteReceived => exact h.byteReceived ht
  case startUp => exact h.startUp ht
  case powerLoss => exact h.powerLoss ht
  case rehomeComplete => exact h.rehomeComplete ht
  case managerKeyChange => exact h.managerKeyChange ht
  case headStrobe => exact h.headStrobe ht
  case routeDecision => exact h.routeDecision ht
  case entryPulse => exact h.entryPulse ht
  case routeWindowExpiry => exact h.routeWindowExpiry ht
  case cassetteOut => exact h.cassetteOut ht
  case cassetteIn => exact h.cassetteIn ht
  case emptyLevelReport => exact h.emptyLevelReport ht
  case emptyLevelNotEmpty => exact h.emptyLevelNotEmpty ht
  case piecePulse => exact h.piecePulse ht
  case afterRunWindowClose => exact h.afterRunWindowClose ht
  case strokeDeadlineExpiry => exact h.strokeDeadlineExpiry ht
  case cashboxOut => exact h.cashboxOut ht
  case cashboxIn => exact h.cashboxIn ht
  case strokeStart => exact h.strokeStart ht
  case diverterMoveComplete => exact h.diverterMoveComplete ht
  case chuteSensorChange => exact h.chuteSensorChange ht
  case presentTimerExpiry => exact h.presentTimerExpiry ht
  case attemptCompletion => exact h.attemptCompletion ht
  all_goals exact h.requestArrives ht

end Sys2Proof.Machine

namespace Sys2Proof
open Machine

/-- Settles O11, command by command: each event keeps the stock invariant of the live strokes, and Retained
Memory has the cashboxes either as they were or as the close of the event left them. -/
theorem stockFollowsTheStrokesKept : Obligations.StockFollowsTheStrokesKept := by
  rintro s t ⟨partition, lanes, follow, stock, memory⟩ hstep
  have hs : s.Steady := ⟨fun hp => ⟨partition, lanes, follow, s.stockHeld_iff.mp (stock hp)⟩, memory⟩
  unfold step at hstep
  split at hstep
  · obtain rfl := Host.Outcome.next.inj hstep
    exact hs.stockFollows
  · rename_i c rest _
    have hrest : (s.withPending rest).Steady := hs.of_same rfl rfl rfl rfl rfl rfl rfl rfl
    exact exec_stockFollows hrest c hstep

end Sys2Proof
end

section
/-! PROOF. The office's writes of the denomination and class tables, and the services of one store (O38, O39,
O43). -/

namespace Sys2Proof.Machine

/-! ### What the checks read -/

theorem State.bothClosed_iff (s : State) :
    s.bothClosed = true ↔ s.mode .one = .closed ∧ s.mode .two = .closed := by
  simp [State.bothClosed]

theorem numberOf_two (hi lo : Byte) : numberOf [hi, lo] = hi.toNat * 256 + lo.toNat := by
  simp [numberOf]

theorem State.clashes_iff (s : State) (d : Denom) (value : Nat) (kind : Kind) :
    s.clashes d value kind = true ↔
      ∃ e, e ≠ d ∧ s.value e ≠ 0 ∧ s.value e = value ∧ (s.denom e).kind = kind := by
  simp [State.clashes, State.used, State.value, mem_allDenoms, and_assoc]

theorem State.hasPieces_iff (s : State) (d : Denom) : s.hasPieces d = true ↔
    (∃ k, (s.store k).denom = some d ∧ (s.store k).physical ≠ 0) ∨ ∃ k, (s.box k).countOf d ≠ 0 := by
  have hbox : (∃ k, (s.box k).countOf d ≠ 0) ↔
      (s.box .coin).countOf d ≠ 0 ∨ (s.box .note).countOf d ≠ 0 :=
    ⟨fun ⟨k, hk⟩ => by cases k; exacts [.inl hk, .inr hk], fun h => h.elim (⟨_, ·⟩) (⟨_, ·⟩)⟩
  rw [hbox]
  simp [State.hasPieces, State.holds, mem_allStores, or_assoc]

theorem State.isAssigned_iff (s : State) (d : Denom) :
    s.isAssigned d = true ↔ ∃ k, (s.store k).denom = some d := by
  simp [State.isAssigned, State.holds, mem_allStores]

theorem readIndex_store (k : StoreId) : readIndex (BitVec.ofNat 8 k.val) = some k := by
  revert k; decide

theorem readIndex_none {b : Byte} (h : 11 < b.toNat) : readIndex b = none :=
  dif_neg (by omega)

theorem readClass_some {b : Byte} {c : ClassCode} (h : b.toNat = c.val) (hc : c.val ≤ 62) :
    readClass b = some c := by
  have hb : b.toNat < 63 := by omega
  rw [readClass, dif_pos hb]
  exact congrArg some (Fin.ext h)

theorem readClass_none {b : Byte} (h : 62 < b.toNat) : readClass b = none := dif_neg (by omega)

/-! ### WRITE DENOMINATION (R2) -/

/-- Every class entry that names the denomination becomes REJECT, in both tables. -/
theorem State.rejectClasses_entry (s : State) (d : Denom) (j : Kind) (c : ClassCode) :
    ((s.rejectClasses d).classes.get j)[c] =
      if (s.classes.get j)[c] = some d then none else (s.classes.get j)[c] := by
  cases j <;> exact mapTable_get _ _ c

theorem State.denom_setDenom (s : State) (d e : Denom) (x : Denomination) :
    (s.setDenom d x).denom e = if e = d then x else s.denom e := by
  unfold State.denom State.setDenom
  by_cases h : e = d
  · subst h; simp
  · have hv : d.val ≠ e.val := fun he => h (Fin.ext he.symm)
    simp [h, hv]

/-- The entry is written, its class entries become REJECT where it drops out of them, and nothing else changes. -/
theorem State.writeEntry_spec (s : State) (d : Denom) (value : Nat) (k : Kind) (e : Bool) :
    let u := s.writeEntry d value k e
    u.denom d = { value := value, kind := k, enabled := e } ∧ (∀ d', d' ≠ d → u.denom d' = s.denom d') ∧
    (∀ (j : Kind) (c : ClassCode), (u.classes.get j)[c] =
      if (value = 0 ∨ k ≠ (s.denom d).kind) ∧ (s.classes.get j)[c] = some d then none
      else (s.classes.get j)[c]) ∧
    u = { s with denoms := u.denoms, classes := u.classes } := by
  have hden : ∀ e' : Denom, ((s.setDenom d { value := value, kind := k, enabled := e }).denom e') =
      if e' = d then { value := value, kind := k, enabled := e } else s.denom e' := fun e' => s.denom_setDenom d e' _
  unfold State.writeEntry
  dsimp only
  split
  · rename_i hdrops
    refine ⟨(hden d).trans (if_pos rfl), fun d' h => (hden d').trans (if_neg h), fun j c => ?_, rfl⟩
    rw [State.rejectClasses_entry]
    exact if_congr ⟨fun h => ⟨hdrops, h⟩, fun h => h.2⟩ rfl rfl
  · rename_i hdrops
    refine ⟨(hden d).trans (if_pos rfl), fun d' h => (hden d').trans (if_neg h), fun j c => ?_, rfl⟩
    simp [hdrops]

/-- WRITE DENOMINATION while both lanes are CLOSED and its bytes are in range, check by check. -/
theorem writeDenomination_checks {s : State} {i hi lo kb eb : Byte} {d : Denom} {k : Kind} {e : Bool}
    (hclosed : s.bothClosed = true) (hd : readIndex i = some d) (hk : readKind kb = some k)
    (he : readFlag eb = some e) (hv : hi.toNat * 256 + lo.toNat ≤ 50000) :
    let value := hi.toNat * 256 + lo.toNat
    writeDenomination [i, hi, lo, kb, eb] s =
      if value ≠ 0 ∧ s.clashes d value k = true then (s, refuse .range)
      else if (value ≠ s.value d ∨ k ≠ (s.denom d).kind) ∧ s.hasPieces d = true then (s, refuse .holdsStock)
      else if (value = 0 ∨ k ≠ (s.denom d).kind) ∧ s.isAssigned d = true then (s, refuse .state)
      else ((s.writeEntry d value k e).closeEvent, done) := by
  have hmax : ¬Config.maxValue < hi.toNat * 256 + lo.toNat := Nat.not_lt.mpr hv
  simp only [writeDenomination, numberOf_two, hclosed, hd, hk, he, hmax, Bool.not_true, if_false,
    Bool.false_eq_true, Bool.and_eq_true, decide_eq_true_eq]

theorem writeDenomination_range {s : State} {i hi lo kb eb : Byte} (hclosed : s.bothClosed = true)
    (h : readIndex i = none ∨ 50000 < hi.toNat * 256 + lo.toNat ∨ readKind kb = none ∨ readFlag eb = none) :
    writeDenomination [i, hi, lo, kb, eb] s = (s, refuse .range) := by
  simp only [writeDenomination, numberOf_two, hclosed, Bool.not_true, if_false, Bool.false_eq_true]
  split
  · rename_i d k e hd hk he
    have hmax : 50000 < hi.toNat * 256 + lo.toNat := by simpa [hd, hk, he] using h
    exact if_pos hmax
  · rfl

/-! ### WRITE CLASS ENTRY (R5) -/

theorem State.entryAllowed_iff (s : State) (k : Kind) (e : Option Denom) :
    s.entryAllowed k e = true ↔ ∀ d, e = some d → s.value d ≠ 0 ∧ (s.denom d).kind = k := by
  cases e with
  | none => simp [State.entryAllowed]
  | some d => simp [State.entryAllowed, State.usedOfKind, State.used, State.value]

/-- WRITE CLASS ENTRY while both lanes are CLOSED and its bytes are in range. -/
theorem writeClassEntry_checks {s : State} {table code entry : Byte} {k : Kind} {c : ClassCode}
    {e : Option Denom} (hclosed : s.bothClosed = true) (hk : readKind table = some k)
    (hc : readClass code = some c) (he : readIndexOrNone entry = some e) :
    writeClassEntry [table, code, entry] s =
      if s.entryAllowed k e = true then ((s.setClass k c e).closeEvent, done) else (s, refuse .range) := by
  simp only [writeClassEntry, hclosed, hk, hc, he, Bool.not_true, if_false, Bool.false_eq_true]

theorem writeClassEntry_range {s : State} {table code entry : Byte} (hclosed : s.bothClosed = true)
    (h : readKind table = none ∨ 62 < code.toNat ∨ readIndexOrNone entry = none) :
    writeClassEntry [table, code, entry] s = (s, refuse .range) := by
  simp only [writeClassEntry, hclosed, Bool.not_true, if_false, Bool.false_eq_true]
  split
  · rename_i k c e hk hc he
    have hcode : 62 < code.toNat := by simpa [hk, he] using h
    rw [readClass_none hcode] at hc
    exact absurd hc nofun
  · rfl

/-! ### One store's services (R14, R15, R145) -/

theorem State.putStore_eq (s : State) (k : StoreId) (x : StoreState) :
    s.putStore k x = (s.setStore k { s.store k with state := x }).closeEvent := rfl

theorem disableOne_eq (k : StoreId) (s : State) : disableOne k s =
    if (s.store k).state = .disabled then (s, done)
    else if (s.store k).state ≠ .paying ∧ (s.store k).state ≠ .absent ∧ (s.store k).reserved = 0 then
      (s.putStore k .disabled, done)
    else (s, refuse .state) := by
  unfold disableOne
  cases (s.store k).state <;> simp

theorem enableOne_eq (k : StoreId) (s : State) : enableOne k s =
    if (s.store k).state = .disabled ∧ (s.store k).denom ≠ none then (s.putStore k .uncertain, done)
    else (s, refuse .state) := by
  unfold enableOne
  simp only [Option.isSome_iff_ne_none]

/-- A request that names a store alone, where the byte names one. -/
theorem onStore_index (k : StoreId) (s : State) (f : StoreId → State × Response) :
    onStore [BitVec.ofNat 8 k.val] s f = f k := by
  simp only [onStore, readIndex_store]

theorem onStore_range {b : Byte} (h : 11 < b.toNat) (s : State) (f : StoreId → State × Response) :
    onStore [b] s f = (s, refuse .range) := by
  simp only [onStore, readIndex_none h]

end Sys2Proof.Machine

namespace Sys2Proof
open Machine

/-- Settles O38, by the checks of WRITE DENOMINATION in their order and the fields its write leaves. -/
theorem writeDenominationChecksThenWrites : Obligations.WriteDenominationChecksThenWrites := by
  intro s i hi lo kb eb ht
  have hrun : exec (.writeDenomination .office [i, hi, lo, kb, eb]) s =
      (writeDenomination [i, hi, lo, kb, eb] s).1.answered .office 0x28
        (writeDenomination [i, hi, lo, kb, eb] s).2 :=
    office_performed .writeDenomination _ s ht rfl rfl (by decide)
  dsimp only
  rw [hrun, ← s.bothClosed_iff]
  refine ⟨fun hopen => ?_, fun h1 h2 => ?_⟩
  · simp only [writeDenomination, Bool.not_eq_true] at hopen ⊢
    rw [hopen]; rfl
  · have hclosed := s.bothClosed_iff.mpr ⟨h1, h2⟩
    refine ⟨fun hrange => by rw [writeDenomination_range hclosed hrange], fun d k e hd hv hk he => ?_⟩
    rw [writeDenomination_checks hclosed hd hk he hv, ← s.clashes_iff, ← s.hasPieces_iff,
      ← s.isAssigned_iff]
    refine ⟨fun hv0 hclash => by rw [if_pos ⟨hv0, hclash⟩], fun hclash => ?_⟩
    rw [if_neg hclash]
    refine ⟨fun hdiff hheld => by rw [if_pos ⟨hdiff, hheld⟩], fun hheld => ?_⟩
    rw [if_neg hheld]
    refine ⟨fun hdrops hass => by rw [if_pos ⟨hdrops, hass⟩], fun hass => ?_⟩
    rw [if_neg hass]
    exact ⟨_, rfl, s.writeEntry_spec d _ k e⟩

/-- Settles O39, by the checks of WRITE CLASS ENTRY in their order. -/
theorem writeClassEntryWritesOneEntry : Obligations.WriteClassEntryWritesOneEntry := by
  intro s table code entry ht
  have hrun : exec (.writeClassEntry .office [table, code, entry]) s =
      (writeClassEntry [table, code, entry] s).1.answered .office 0x29
        (writeClassEntry [table, code, entry] s).2 :=
    office_performed .writeClassEntry _ s ht rfl rfl (by decide)
  dsimp only
  rw [hrun, ← s.bothClosed_iff]
  refine ⟨fun hopen => ?_, fun h1 h2 => ?_⟩
  · simp only [writeClassEntry, Bool.not_eq_true] at hopen ⊢
    rw [hopen]; rfl
  · have hclosed := s.bothClosed_iff.mpr ⟨h1, h2⟩
    refine ⟨fun hrange => by rw [writeClassEntry_range hclosed hrange], fun k c e hk hc62 hc he => ?_⟩
    rw [writeClassEntry_checks hclosed hk (readClass_some hc hc62) he]
    refine ⟨fun ⟨d, hd, hbad⟩ => ?_, fun hgood => ?_⟩
    · rw [if_neg (fun hall => ?_)]
      obtain ⟨hused, hkind⟩ := (s.entryAllowed_iff k e).mp hall d hd
      exact hbad.elim hused (fun h => h hkind)
    · rw [if_pos ((s.entryAllowed_iff k e).mpr hgood)]
      rfl

/-- Settles O43, by the store's state in each of the three services. -/
theorem storeServiceFollowsTheStoreState : Obligations.StoreServiceFollowsTheStoreState := by
  intro s ht
  have hdis : ∀ b, exec (.disableStore .office [b]) s = (disableStore [b] s).1.answered .office 0x36
      (disableStore [b] s).2 := fun b => office_performed .disableStore [b] s ht rfl rfl (by decide)
  have hen : ∀ b, exec (.enableStore .office [b]) s = (enableStore [b] s).1.answered .office 0x35
      (enableStore [b] s).2 := fun b => office_performed .enableStore [b] s ht rfl rfl (by decide)
  have hjam : ∀ b, exec (.clearJam .office [b]) s = (clearJam [b] s).1.answered .office 0x34
      (clearJam [b] s).2 := fun b => office_performed .clearJam [b] s ht rfl rfl (by decide)
  refine ⟨fun k => ⟨?_, ?_, ?_⟩, fun b hb => ⟨?_, ?_, ?_⟩⟩
  · rw [hdis, disableStore, onStore_index, disableOne_eq]
    split
    · rfl
    · split <;> rfl
  · rw [hen, enableStore, onStore_index, enableOne_eq]
    split <;> rfl
  · rw [hjam, clearJam, onStore_index, clearJamOne]
    split <;> rfl
  · rw [hdis, disableStore, onStore_range hb]
  · rw [hen, enableStore, onStore_range hb]
  · rw [hjam, clearJam, onStore_range hb]

end Sys2Proof
end

section
/-! SUPPORT. What an event that ends records leaves of the pool (R95, R101, R102, R105). -/

namespace Sys2Proof.Machine

/-! ### The freed slots -/

theorem insertSlot_perm (x : SlotId) (ys : List SlotId) : (insertSlot x ys).Perm (x :: ys) := by
  induction ys with
  | nil => exact .refl _
  | cons y ys ih =>
    unfold insertSlot
    split
    · exact .refl _
    · exact (ih.cons y).trans (.swap x y ys)

theorem sortSlots_perm (xs : List SlotId) : (sortSlots xs).Perm xs := by
  induction xs with
  | nil => exact .refl _
  | cons x xs ih => exact (insertSlot_perm x _).trans (ih.cons x)

theorem insertSlot_descending (x : SlotId) {ys : List SlotId} (h : ys.Pairwise (fun a b => b.val ≤ a.val)) :
    (insertSlot x ys).Pairwise (fun a b => b.val ≤ a.val) := by
  induction ys with
  | nil => exact List.pairwise_singleton ..
  | cons y ys ih =>
    obtain ⟨hy, hys⟩ := List.pairwise_cons.mp h
    unfold insertSlot
    split
    · rename_i hle
      refine List.pairwise_cons.mpr ⟨fun z hz => ?_, h⟩
      rcases List.mem_cons.mp hz with rfl | hz
      · exact hle
      · exact (hy z hz).trans hle
    · rename_i hgt
      refine List.pairwise_cons.mpr ⟨fun z hz => ?_, ih hys⟩
      rcases List.mem_cons.mp ((insertSlot_perm x ys).mem_iff.mp hz) with rfl | hz
      · omega
      · exact hy z hz

theorem sortSlots_descending (xs : List SlotId) : (sortSlots xs).Pairwise (fun a b => b.val ≤ a.val) := by
  induction xs with
  | nil => exact .nil
  | cons x xs ih => exact insertSlot_descending x ih

/-! ### The tallies -/

/-- A tally count that some of the records raise, each by its weight, up to its limit (R105). -/
theorem foldl_tallyAdd (p : Stroke → Bool) (w : Stroke → Nat) (xs : List Stroke) (n : Nat) :
    xs.foldl (fun c r => if p r then tallyAdd c (w r) else c) n =
      tallied n (xs.filter p).length ((xs.filter p).map w).sum := by
  induction xs generalizing n with
  | nil => rfl
  | cons r xs ih =>
    rw [List.foldl_cons, ih]
    by_cases hp : p r = true
    · simp only [hp, if_true, List.filter_cons_of_pos, List.length_cons, List.map_cons, List.sum_cons,
        tallied, tallyAdd, Nat.add_one_ne_zero, if_false, Config.maxTally]
      split
      · rename_i hnil
        rw [List.eq_nil_of_length_eq_zero hnil]
        simp
      · omega
    · simp [hp]

/-- How one record changes the tally of its chain (R105). -/
def Tally.after (how : Stroke → Option (Ending × Nat)) (t : Tally) (r : Stroke) : Tally :=
  match how r with
  | some (e, _) => t.count r e
  | none => t

section
variable {how : Stroke → Option (Ending × Nat)} {isDone drops : Stroke → Bool}
  (hdone : ∀ r, (how r).map (·.1) = some .done ↔ isDone r = true)
  (hdrop : ∀ r, (how r).map (·.1) = some .dropped ↔ drops r = true)
include hdone hdrop

theorem Tally.foldl_after (xs : List Stroke) (t : Tally) : xs.foldl (Tally.after how) t =
    { done := xs.foldl (fun c r => if isDone r then tallyAdd c 1 else c) t.done
      cutShort := xs.foldl (fun c r =>
        if isDone r && decide (r.delivered < r.count) then tallyAdd c 1 else c) t.cutShort
      dropped := xs.foldl (fun c r => if drops r then tallyAdd c 1 else c) t.dropped
      delivered := xs.foldl (fun c r => if isDone r then tallyAdd c r.delivered else c) t.delivered } := by
  induction xs generalizing t with
  | nil => rfl
  | cons r xs ih =>
    simp only [List.foldl_cons]
    rw [ih]
    have h1 := hdone r
    have h2 := hdrop r
    unfold Tally.after
    cases hr : how r with
    | none =>
      simp only [hr, Option.map_none, reduceCtorEq, false_iff, Bool.not_eq_true] at h1 h2
      simp [h1, h2]
    | some x =>
      obtain ⟨e, n⟩ := x
      cases e with
      | done =>
        simp only [hr, Option.map_some, Option.some.injEq, reduceCtorEq, false_iff, true_iff,
          Bool.not_eq_true] at h1 h2
        simp [h1, h2, Tally.count]
      | dropped =>
        simp only [hr, Option.map_some, Option.some.injEq, reduceCtorEq, false_iff, true_iff,
          Bool.not_eq_true] at h1 h2
        simp [h1, h2, Tally.count]

end

theorem Owner.port_injective {o p : Owner} (h : o.port = p.port) : o = p := by
  cases o <;> cases p <;> simp_all [Owner.port]

theorem PerParty.get_set {α : Type} (t : PerParty α) (p q : Port) (x : α) :
    (t.set p x).get q = if q = p then x else t.get q := by
  cases p with
  | office => cases q with
    | office => rfl
    | lane m => cases m <;> rfl
  | lane l => cases q with
    | office => cases l <;> rfl
    | lane m => cases l <;> cases m <;> rfl

theorem State.tally_setTally (s : State) (o p : Owner) (k j : Kind) (t : Tally) :
    (s.setTally o k t).tally p j = if o = p ∧ k = j then t else s.tally p j := by
  unfold State.tally State.setTally
  dsimp only
  rw [PerParty.get_set]
  by_cases ho : o = p
  · subst ho
    rw [if_pos rfl]
    by_cases hk : k = j
    · subst hk; simp
    · rw [PerKind.get_set_ne _ _ _ _ (Ne.symm hk), if_neg (fun h => hk h.2)]
  · rw [if_neg (fun h => ho (Owner.port_injective h.symm)), if_neg (fun h => ho h.1)]

theorem State.tally_endRecord (s : State) (r : Stroke) (e : Ending) (n : Nat) (o : Owner) (k : Kind) :
    (s.endRecord r e n).tally o k =
      if r.owner = o ∧ r.path = k then (s.tally o k).count r e else s.tally o k := by
  have hpool : ∀ t : State, (t.release r n).tally o k = t.tally o k := fun t => by
    simp [State.tally]
  rw [State.endRecord, hpool, State.tally_setTally]
  refine ite_congr rfl (fun h => ?_) (fun _ => rfl)
  obtain ⟨rfl, rfl⟩ := h
  rfl

theorem State.tally_endStrokes (s : State) (how : Stroke → Option (Ending × Nat)) (o : Owner) (k : Kind) :
    (s.endStrokes how).tally o k =
      (s.pool.records.filter (fun r => r.owner == o && r.path == k)).foldl (Tally.after how) (s.tally o k) := by
  have key : ∀ (xs : List Stroke) (t : State), (xs.foldl (fun t r => match how r with
      | some (e, n) => t.endRecord r e n
      | none => t) t).tally o k =
      (xs.filter (fun r => r.owner == o && r.path == k)).foldl (Tally.after how) (t.tally o k) := by
    intro xs
    induction xs with
    | nil => intro t; rfl
    | cons r xs ih =>
      intro t
      rw [List.foldl_cons, ih]
      cases hr : how r with
      | none =>
        by_cases hm : (r.owner == o && r.path == k) = true <;> simp [hm, Tally.after, hr]
      | some x =>
        obtain ⟨e, n⟩ := x
        dsimp only
        rw [State.tally_endRecord]
        by_cases hm : r.owner = o ∧ r.path = k <;> simp [hm, Tally.after, hr]
  exact key s.pool.records s

/-- Ended records leave the pool as R95, R101 and R105 say. -/
theorem State.endsRecords_endStrokes (s : State) {how : Stroke → Option (Ending × Nat)}
    {isDone isDropped : Stroke → Bool}
    (hdone : ∀ r, (how r).map (·.1) = some .done ↔ isDone r = true)
    (hdrop : ∀ r, (how r).map (·.1) = some .dropped ↔ (isDropped r && !isDone r) = true) :
    s.endsRecords (s.endStrokes how) isDone isDropped := by
  have hsome : (fun r => (how r).isSome) = fun r => isDone r || isDropped r := by
    funext r
    have h1 := hdone r
    have h2 := hdrop r
    cases hr : how r with
    | none =>
      simp only [hr, Option.map_none, reduceCtorEq, false_iff, Bool.not_eq_true] at h1 h2
      simp_all
    | some x =>
      obtain ⟨e, n⟩ := x
      cases e <;> simp [hr] at h1 h2 <;> simp [h1, h2]
  obtain ⟨hrec, hfree⟩ := s.endStrokes_pool how
  have htake : (s.endStrokes how).pool.free.take
      (s.pool.records.filter (fun r => isDone r || isDropped r)).length =
      sortSlots ((s.pool.records.filter (fun r => isDone r || isDropped r)).map (·.slot)) := by
    rw [hfree, hsome]
    refine List.take_left' ?_
    rw [(sortSlots_perm _).length_eq, List.length_map]
  unfold State.endsRecords
  dsimp only
  rw [htake]
  refine ⟨?_, ?_, sortSlots_perm _, sortSlots_descending _, fun o k => ?_⟩
  · rw [hrec]; exact congrArg (fun f => s.pool.records.filter (fun r => !f r)) hsome
  · rw [hfree, hsome]
  · rw [State.tally_endStrokes, Tally.foldl_after hdone hdrop]
    have mine : ∀ chosen : Stroke → Bool,
        s.pool.records.filter (fun r => r.owner == o && r.path == k && chosen r) =
          (s.pool.records.filter (fun r => r.owner == o && r.path == k)).filter chosen := fun chosen => by
      rw [List.filter_filter]
      exact List.filter_congr (fun r _ => Bool.and_comm _ _)
    simp only [foldl_tallyAdd, mine, List.map_const', List.sum_replicate, smul_eq_mul, mul_one]

end Sys2Proof.Machine
end

section
/-! PROOF. A cashbox that is exchanged and emptied (O45). -/

namespace Sys2Proof.Machine

/-- The record of counters that a booking leaves (R148, R150). -/
theorem State.book_counters_eq (s : State) (c : Counter) (d e : Denom) (n : Nat) :
    (s.book c d n).counters e = if e = d then
      (s.counters d).set c (min ((s.counters d).get c + n) Config.maxCounter) else s.counters e := by
  by_cases he : e = d
  · subst he
    rw [if_pos rfl]
    refine Counters.ext_get (fun j => ?_) ?_
    · by_cases hj : j = c
      · subst hj; rw [s.book_get, Counters.get_set_self]
      · rw [s.book_get_ne c j e e n (.inr hj), Counters.get_set_ne _ _ _ _ hj]
    · rw [s.book_adjusted]; cases c <;> rfl
  · rw [if_neg he]
    exact Counters.ext_get (fun j => s.book_get_ne c j d e n (.inl he)) (s.book_adjusted c d e n)

theorem State.box_book (s : State) (c : Counter) (d : Denom) (n : Nat) (k : Kind) :
    (s.book c d n).box k = s.box k := State.box_congr (State.book_onlyBooks s c d n).boxes k

/-- Emptying books the count of each denomination, and nothing else (R22, R148). -/
theorem State.bookEmptied_onlyBooks (k : Kind) (ds : List Denom) (s : State) :
    s.onlyBooks (ds.foldl (State.bookEmptied k) s) := by
  induction ds generalizing s with
  | nil => exact ⟨_, _, _, rfl⟩
  | cons d ds ih => exact (s.book_onlyBooks .emptied d _).trans (ih _)

theorem State.bookEmptied_counters (k : Kind) (ds : List Denom) (nodup : ds.Nodup) (s : State) (e : Denom) :
    (ds.foldl (State.bookEmptied k) s).counters e = if e ∈ ds then
      { s.counters e with emptied := min 4294967295 ((s.counters e).emptied + (s.box k).countOf e) }
    else s.counters e := by
  induction ds generalizing s with
  | nil => rfl
  | cons d ds ih =>
    obtain ⟨hd, nodup⟩ := List.nodup_cons.mp nodup
    rw [List.foldl_cons, ih nodup]
    unfold State.bookEmptied
    rw [State.box_book, State.book_counters_eq]
    by_cases he : e = d
    · subst he
      simp [hd, Counters.set, Counters.get, Config.maxCounter, Nat.min_comm]
    · simp [he]

theorem State.bookEmptied_inexact (k : Kind) (ds : List Denom) (nodup : ds.Nodup) (s : State) :
    let u := ds.foldl (State.bookEmptied k) s
    let passes := ∃ d ∈ ds, 4294967295 < (s.counters d).emptied + (s.box k).countOf d
    (u.totals.inexact = true ↔ s.totals.inexact = true ∨ passes) ∧
    (u.officeNotices.flags.shiftInexact = true ↔
      s.officeNotices.flags.shiftInexact = true ∨ passes) := by
  induction ds generalizing s with
  | nil => simp
  | cons d ds ih =>
    obtain ⟨hd, nodup⟩ := List.nodup_cons.mp nodup
    have hrest := ih nodup (s.bookEmptied k d)
    have hone := s.book_inexact .emptied d ((s.box k).countOf d)
    have hlater : (∃ e ∈ ds, 4294967295 < ((s.bookEmptied k d).counters e).emptied +
        ((s.bookEmptied k d).box k).countOf e) ↔
        ∃ e ∈ ds, 4294967295 < (s.counters e).emptied + (s.box k).countOf e := by
      refine exists_congr fun e => and_congr_right fun he => ?_
      unfold State.bookEmptied
      rw [State.box_book, State.book_counters_eq, if_neg (by rintro rfl; exact hd he)]
    rw [hlater] at hrest
    obtain ⟨hr1, hr2⟩ := hrest
    obtain ⟨ho1, ho2⟩ := hone
    dsimp only
    rw [List.foldl_cons, hr1, hr2, List.exists_mem_cons_iff]
    unfold State.bookEmptied
    rw [ho1, ho2, or_assoc, or_assoc]
    exact ⟨Iff.rfl, Iff.rfl⟩

theorem readKind_code (k : Kind) : readKind k.code = some k := by cases k <;> rfl

theorem readKind_none {b : Byte} (h : 1 < b.toNat) : readKind b = none := by
  unfold readKind
  rw [if_neg (by rintro rfl; exact absurd h (by decide)), if_neg (by rintro rfl; exact absurd h (by decide))]

theorem Cashbox.back_eq (b : Cashbox) : b.back =
    { b with present := true, stage := if b.stage = .outSeen then .exchanged else b.stage } := by
  unfold Cashbox.back
  cases b.stage <;> rfl

end Sys2Proof.Machine

namespace Sys2Proof
open Machine

/-- Settles O45: the stage by the sensor's event, and CASHBOX EMPTIED by the bookings of its denominations. -/
theorem cashboxIsEmptiedAfterItsExchange : Obligations.CashboxIsEmptiedAfterItsExchange := by
  intro s
  refine ⟨fun k hp => ?_, fun ht => ?_⟩
  · have hrun : exec (.cashboxIn k) s =
        (s.setBoxPin k true).whileRunning (fun t => (t.modBox k Cashbox.back).closeEvent) := rfl
    have hp : (s.setBoxPin k true).phase = .running := hp
    rw [hrun, State.whileRunning_running _ _ hp, State.modBox, Cashbox.back_eq]
    rfl
  · have hrun : ∀ b, exec (.cashboxEmptied .office [b]) s = (cashboxEmptied [b] s).1.answered .office 0x37
        (cashboxEmptied [b] s).2 := fun b => office_performed .cashboxEmptied [b] s ht rfl rfl (by decide)
    refine ⟨fun b hb => ?_, fun k => ⟨fun hnot => ?_, fun hin hex => ?_⟩⟩
    · rw [hrun]; simp only [cashboxEmptied, readKind_none hb]
    · rw [hrun]
      simp only [cashboxEmptied, readKind_code]
      rw [if_neg (by simpa using hnot)]
    · obtain ⟨hinex, hflag⟩ := State.bookEmptied_inexact k allDenoms allDenoms_nodup s
      have hcount := State.bookEmptied_counters k allDenoms allDenoms_nodup s
      have hbooks := State.bookEmptied_onlyBooks k allDenoms s
      refine ⟨(allDenoms.foldl (State.bookEmptied k) s).modBox k (fun b =>
        { b with counts := Vector.replicate 12 0, stage := .none }), ?_, ?_, ?_, ?_, ⟨?_, ?_, ?_⟩, ?_, ?_, ?_⟩
      · rw [hrun]
        simp only [cashboxEmptied, readKind_code]
        rw [if_pos (by simp [hin, hex])]
        rfl
      all_goals generalize allDenoms.foldl (State.bookEmptied k) s = u at hbooks hcount hinex hflag
      · rw [State.modBox, State.setBox, hbooks.boxes, State.box_congr hbooks.boxes]
      · intro d
        refine (hcount d).trans ?_
        rw [if_pos (mem_allDenoms d)]
      all_goals obtain ⟨c, i, f, rfl⟩ := hbooks
      · rfl
      · simpa [mem_allDenoms] using hinex
      · simpa [mem_allDenoms] using hflag
      all_goals rfl

end Sys2Proof
end

section
/-! PROOF. A store marked, a cassette out and in, a cashbox out: the strokes they end (O50, O51, O52). -/

namespace Sys2Proof.Machine

/-! ### The strokes an event ends -/

theorem dropWhere_some (chosen : Stroke → Bool) (r : Stroke) :
    dropWhere chosen r = if r.state == .waiting && chosen r then some (.dropped, r.count) else none := rfl

/-- Dropped strokes leave the pool, and none ends DONE (R101, R102). -/
theorem State.endsRecords_dropWhere (s : State) (chosen isDropped : Stroke → Bool)
    (h : ∀ r, isDropped r = (r.state == .waiting && chosen r)) :
    s.endsRecords (s.endStrokes (dropWhere chosen)) (fun _ => false) isDropped := by
  refine s.endsRecords_endStrokes (fun r => ?_) (fun r => ?_)
  · unfold dropWhere; split <;> simp
  · unfold dropWhere; rw [h]; split <;> simp_all

/-- A dropped stroke gives back its whole count (R41, R126). -/
theorem dropWhere_pieces (chosen : Stroke → Bool) (r : Stroke) :
    ((dropWhere chosen r).map (·.2)).getD 0 = if r.state == .waiting && chosen r then r.count else 0 := by
  unfold dropWhere; split <;> rfl

/-- What giving back and ending records say rests on the pool they start from. -/
theorem State.endsRecords_congr {s s' t : State} {isDone isDropped : Stroke → Bool} (h : s'.pool = s.pool) :
    s'.endsRecords t isDone isDropped ↔ s.endsRecords t isDone isDropped := by
  unfold State.endsRecords State.tally
  rw [h]

/-- With no running stroke the strokes that end on a store are its WAITING ones. -/
theorem endOnStore_none (k : StoreId) : endOnStore none k true false = dropWhere (fun r => r.store == k) := by
  funext r
  simp [endOnStore]

/-- The strokes of a store whose cassette leaves: the running one ends, the WAITING ones are dropped (R127). -/
theorem State.endsRecords_endOnStore (s : State) (x : Channel) (k : StoreId) (released : Bool) :
    s.endsRecords (s.endStrokes (endOnStore x.slot? k true released)) x.runs (waitingOn k) := by
  refine s.endsRecords_endStrokes (fun r => ?_) (fun r => ?_)
  · unfold endOnStore Channel.runs
    by_cases hs : x.slot? = some r.slot
    · simp [hs]
    · rw [if_neg (fun e => hs e.symm)]
      unfold dropWhere
      split <;> simp [hs]
  · unfold endOnStore Channel.runs waitingOn
    by_cases hs : x.slot? = some r.slot
    · simp [hs]
    · rw [if_neg (fun e => hs e.symm)]
      unfold dropWhere
      split <;> simp_all

theorem endOnStore_pieces (x : Store) (k : StoreId) (r : Stroke) :
    ((endOnStore x.channel.slot? k true x.channel.holdsNothing r).map (·.2)).getD 0 = x.heldBy k r := by
  unfold endOnStore Store.heldBy waitingOn
  by_cases hs : x.channel.slot? = some r.slot
  · simp [hs]
  · rw [if_neg (fun e => hs e.symm), if_neg hs, dropWhere_pieces]
    simp

/-! ### A mark -/

theorem State.markUncertain_ready {s : State} {k : StoreId} (h : (s.store k).state = .ready) :
    s.markUncertain k = (s.setStore k { s.store k with state := .uncertain }).endStrokes
      (dropWhere (fun r => r.store == k)) := by
  rw [State.markUncertain_cases, if_pos h, State.dropWaiting, endOnStore_none]
  rfl

/-! ### A cassette -/

theorem State.onlyBooks.stores {s t : State} (h : s.onlyBooks t) : t.stores = s.stores := by
  obtain ⟨_, _, _, rfl⟩ := h; rfl

theorem State.foldl_bookUnplaced_onlyBooks (fills : List Fill) (s : State) :
    s.onlyBooks (fills.foldl State.bookUnplaced s) := by
  rw [State.foldl_bookUnplaced]; exact State.bookAll_onlyBooks _ s

/-- A cassette out, event by event (R9, R127). -/
theorem State.pullCassette_eq (s : State) (k : StoreId) :
    s.pullCassette k = ((s.store k).fills.foldl State.bookUnplaced
      ((s.bookStore .removed k (s.store k).physical).endStrokes
        (endOnStore (s.store k).channel.slot? k true (s.store k).channel.holdsNothing))).setStore k
      { s.store k with physical := 0, reserved := 0, state := .absent, fills := [], inFlight := false,
                       marked := false, channel := .idle } := by
  obtain ⟨-, -, -, -, -, hst, -⟩ := s.bookStore_frame .removed k (s.store k).physical
  have hbook := State.store_congr hst k
  unfold State.pullCassette
  generalize s.bookStore .removed k (s.store k).physical = b at hbook ⊢
  obtain ⟨hgive, -⟩ := b.endStrokes_givesBack
    (endOnStore (s.store k).channel.slot? k true (s.store k).channel.holdsNothing)
  have hend := hgive k
  generalize b.endStrokes _ = u at hend ⊢
  rw [hbook] at hend
  have hfills : (u.store k).fills = (s.store k).fills := by rw [hend]
  have hu := State.store_congr (State.foldl_bookUnplaced_onlyBooks (s.store k).fills u).stores k
  rw [State.resolveFills, hfills, State.modStore_modStore, State.modStore]
  refine congrArg (State.setStore _ k) ?_
  rw [hu, hend]
  rfl

theorem Store.newCassette_eq (x : Store) : x.newCassette =
    { x with physical := 0, reserved := 0, fills := [],
             state := if x.denom = none then .disabled else .uncertain } := by
  unfold Store.newCassette
  simp only [Option.isNone_iff_eq_none]

/-! ### A cashbox -/

theorem Cashbox.out_eq (b : Cashbox) : b.out =
    { b with present := false, stage := if b.stage = .none then .outSeen else b.stage } := by
  unfold Cashbox.out
  cases b.stage <;> rfl

theorem State.runningSkim_none {s : State} {k : Kind}
    (h : ∀ r ∈ s.pool.records, r.owner = .office → r.path = k → r.state ≠ .running) :
    s.runningSkim k = none := by
  refine List.find?_eq_none.mpr fun r hr => ?_
  simp only [Bool.and_eq_true, beq_iff_eq, not_and]
  exact fun ⟨ho, hp⟩ => h r hr ho hp

/-- The skim strokes into a cashbox that are dropped once the one that ran into it is stopped (R23, R130). -/
theorem State.dropSkims_follows (s t : State) (k : Kind) (hpool : t.pool = s.pool) :
    let dropped (r : Stroke) := waitingOf .office r && r.path == k
    let u := t.dropSkims (fun r => r.path == k)
    t.givesBack u (fun r => if dropped r then r.count else 0) ∧ s.endsRecords u (fun _ => false) dropped := by
  refine ⟨?_, ?_⟩
  · have h := t.endStrokes_givesBack (dropWhere (fun r => r.owner == .office && r.path == k))
    simp only [dropWhere_pieces] at h
    simp only [waitingOf, Bool.and_assoc]
    exact h
  · rw [← State.endsRecords_congr hpool]
    exact t.endsRecords_dropWhere _ _ (fun r => by simp only [waitingOf, Bool.and_assoc])

/-- The tables after a skim's window opens, with the promised count it leaves given by its number. -/
theorem State.stopSkim_tables (t : State) (r : Stroke) (k : Kind) (n : Nat) (channel : Channel)
    {promised : Nat} (h : promised = (t.box k).promised) :
    (t.modStore r.store (fun x => { x with reserved := x.reserved - n, channel := channel })).modBox k
        (fun b => { b with promised := b.promised - n }) =
      (t.setStore r.store { t.store r.store with
        reserved := (t.store r.store).reserved - n, channel := channel }).setBox k
          { t.box k with promised := promised - n } := by
  subst h; rfl

/-- CASHBOX_OUT, once the skim that ran into the cashbox is stopped (R22, R23). -/
theorem State.cashboxOut_follows {s t : State} {k : Kind} (hp : s.phase = .running) (hpool : t.pool = s.pool)
    (ht : ((s.setBoxPin k false).modBox k Cashbox.out).stopRunningSkim k = t) :
    let dropped (r : Stroke) := waitingOf .office r && r.path == k
    ∃ u : State, exec (.cashboxOut k) s = .next u.finish ∧
      t.givesBack u (fun r => if dropped r then r.count else 0) ∧ s.endsRecords u (fun _ => false) dropped := by
  have hrun : exec (.cashboxOut k) s = (s.setBoxPin k false).whileRunning (fun t =>
    (((t.modBox k Cashbox.out).stopRunningSkim k).dropSkims (fun r => r.path == k)).finish) := rfl
  have hpo : (s.setBoxPin k false).phase = .running := hp
  rw [hrun, State.whileRunning_running _ _ hpo, ht]
  obtain ⟨hgive, hends⟩ := State.dropSkims_follows s t k hpool
  exact ⟨_, rfl, hgive, hends⟩

end Sys2Proof.Machine

namespace Sys2Proof
open Machine

/-- Settles O50: a mark by the store's state, its dropped strokes by what ending records leaves; a lowered stroke
by what one released piece leaves. -/
theorem storeIsMarkedAndStrokesLowered : Obligations.StoreIsMarkedAndStrokesLowered := by
  refine ⟨fun s k => ⟨fun hr => ?_, fun hp => ?_, fun hr hp => ?_⟩, fun s r hslot => ⟨?_, ?_⟩⟩
  · rw [State.markUncertain_ready hr]
    refine ⟨?_, ?_⟩
    · have h := (s.setStore k { s.store k with state := .uncertain }).endStrokes_givesBack
        (dropWhere (fun r => r.store == k))
      simp only [dropWhere_pieces] at h
      exact h
    · have hpool : (s.setStore k { s.store k with state := .uncertain }).pool = s.pool := rfl
      rw [← State.endsRecords_congr hpool]
      exact State.endsRecords_dropWhere _ _ _ (fun _ => rfl)
  · rw [State.markUncertain_cases, if_neg (by simp [hp]), if_pos hp]; rfl
  · rw [State.markUncertain_cases, if_neg hr, if_neg hp]
  · exact State.lowerStroke_givesBack hslot
  · rw [State.lowerStroke_pool]; rfl

/-- Settles O51: a cassette's events by what its store's strokes give back and leave in the pool. -/
theorem cassetteLeavesAndReturns : Obligations.CassetteLeavesAndReturns := by
  intro s k hp
  have hout : exec (.cassetteOut k) s = (s.setCassettePin k false).whileRunning (fun t =>
    if (t.store k).state = .absent then t else (t.pullCassette k).finish) := rfl
  have hin : exec (.cassetteIn k) s = (s.setCassettePin k true).whileRunning (fun t =>
    if (t.store k).state = .absent then (t.modStore k Store.newCassette).closeEvent else t) := rfl
  have hpo : (s.setCassettePin k false).phase = .running := hp
  have hpi : (s.setCassettePin k true).phase = .running := hp
  rw [hout, hin, State.whileRunning_running _ _ hpo, State.whileRunning_running _ _ hpi]
  have hso : (s.setCassettePin k false).store k = s.store k := rfl
  have hsi : (s.setCassettePin k true).store k = s.store k := rfl
  refine ⟨fun ha => ?_, fun ha => ?_, fun ha => ?_, fun ha => ?_⟩
  · rw [if_pos (hso ▸ ha)]; rfl
  · rw [if_neg (hso ▸ ha), State.pullCassette_eq, hso]
    refine ⟨_, ?_, ?_, rfl⟩
    · have h := State.endStrokes_givesBack
        ((s.setCassettePin k false).bookStore .removed k (s.store k).physical)
        (endOnStore (s.store k).channel.slot? k true (s.store k).channel.holdsNothing)
      simp only [endOnStore_pieces] at h
      exact h
    · exact State.endsRecords_endOnStore _ (s.store k).channel k _
  · rw [if_neg (hsi ▸ ha)]; rfl
  · have hstate : ((s.setCassettePin k true).store k).state = .absent := ha
    rw [if_pos hstate, State.modStore, Store.newCassette_eq]
    rfl

/-- Settles O52: the skim that runs into the cashbox by its store's channel, then the dropped ones. -/
theorem cashboxOutStopsItsSkim : Obligations.CashboxOutStopsItsSkim := by
  intro s k hp
  have hout : (s.setBoxPin k false).modBox k Cashbox.out = (s.setBoxPin k false).setBox k { s.box k with
      present := false, stage := if (s.box k).stage = .none then .outSeen else (s.box k).stage } :=
    congrArg (State.setBox _ k) (Cashbox.out_eq _)
  have hskim : ((s.setBoxPin k false).modBox k Cashbox.out).runningSkim k = s.runningSkim k := rfl
  refine ⟨fun hnone => ?_, fun r slot ms hr hc => ?_, fun r slot ms hr hc => ?_⟩
  · exact State.cashboxOut_follows hp rfl
      ((State.stopRunningSkim_none (hskim.trans (State.runningSkim_none hnone))).trans hout)
  · refine State.cashboxOut_follows hp rfl ((State.stopRunningSkim_driving (hskim.trans hr) hc).trans ?_)
    have hwindow : Config.afterRunMs k = if k = .coin then 200 else 300 := by cases k <;> rfl
    have hprom : ((s.setBoxPin k false).setBox k { s.box k with present := false, stage :=
        if (s.box k).stage = .none then .outSeen else (s.box k).stage }).box k = { s.box k with
          present := false, stage := if (s.box k).stage = .none then .outSeen else (s.box k).stage } :=
      State.box_setBox_self _ _ _
    rw [hout, hwindow]
    exact State.stopSkim_tables _ r k _ _ (congrArg Cashbox.promised hprom).symm
  · exact State.cashboxOut_follows hp rfl ((State.stopRunningSkim_afterRun (hskim.trans hr) hc).trans hout)

end Sys2Proof
end

section
/-! PROOF. Reservations, and the completion of a settle (O58). -/

namespace Sys2Proof.Machine

theorem storeKind_eq (k : StoreId) : storeKind k = if k.val < 8 then .coin else .note := by
  revert k; decide

theorem Planned.record_eq (o : Owner) (origin : Origin) (slot : SlotId) (x : Planned) :
    let path : Kind := if x.store.val < 8 then .coin else .note
    x.record o origin slot =
      { slot := slot, owner := o, path := path, store := x.store, count := x.count, delivered := 0,
        origin := origin, state := .waiting,
        dest := match o, path with
          | .lane l, .coin => .cup l
          | .lane l, .note => .pres l
          | .office, .coin => .coinBox
          | .office, .note => .noteBox } := by
  dsimp only
  rw [← storeKind_eq]
  unfold Planned.record destOf
  cases o <;> cases storeKind x.store <;> rfl

/-- ATTEMPT_COMPLETION of the request in work (R91). -/
theorem exec_attemptCompletion {s t : State} {w : Work} (hp : s.phase = .running)
    (hw : s.planner.work = some w) (ht : s.completeAttempt w = some t) :
    exec .attemptCompletion s = .next t.finish := by
  have hrun : exec .attemptCompletion s = execAttemptCompletion s := rfl
  rw [hrun]
  simp only [execAttemptCompletion, hp, hw, ht]

section
variable {s : State} {w : Work}

theorem State.completeAttempt_withdrawn (h : s.withdrawn w = true) :
    s.completeAttempt w = some (s.freePlanner.completeWithdrawn w) := by
  simp only [State.completeAttempt, h, if_true]

theorem State.completeAttempt_refused (h : s.withdrawn w = false)
    (hr : w.refuses (w.plan s.limits) = true) :
    s.completeAttempt w = some (s.freePlanner.completeRefused w) := by
  simp only [State.completeAttempt, h, hr, if_true, if_false, Bool.false_eq_true]

variable (h : s.withdrawn w = false) (hr : w.refuses (w.plan s.limits) = false)
include h hr

/-- A plan with no stroke is handed back at once. -/
theorem State.completeAttempt_empty (he : (w.plan s.limits).strokes = []) :
    s.completeAttempt w = some (s.freePlanner.handBack w.job (w.plan s.limits)) := by
  simp [State.completeAttempt, h, hr, he]

/-- A plan whose check fails is computed anew, or handed back STOCK_CHANGED (R92). -/
theorem State.completeAttempt_failed (hne : (w.plan s.limits).strokes ≠ [])
    (hf : (if s.spaceAllows w.job (w.plan s.limits) then s.reserveAll (w.plan s.limits).strokes
      else none) = none) : s.completeAttempt w = some (s.recompute w) := by
  have hemp : (w.plan s.limits).strokes.isEmpty = false := by simpa using hne
  simp only [State.completeAttempt, h, hr, hemp, hf, if_false, Bool.false_eq_true]

/-- A plan whose every reservation is made is laid down and handed back (R91). -/
theorem State.completeAttempt_laid {t : State} (hne : (w.plan s.limits).strokes ≠ [])
    (hs : s.spaceAllows w.job (w.plan s.limits) = true)
    (ht : s.reserveAll (w.plan s.limits).strokes = some t)
    (hroom : (w.plan s.limits).strokes.length ≤ s.pool.free.length) :
    s.completeAttempt w =
      some (((t.layDown w.job (w.plan s.limits)).freePlanner).handBack w.job (w.plan s.limits)) := by
  have hemp : (w.plan s.limits).strokes.isEmpty = false := by simpa using hne
  have hpool : t.pool = s.pool := by rw [(State.reserveAll_some ht).1]
  have hroom' : (w.plan s.limits).strokes.length ≤ t.pool.free.length := hpool ▸ hroom
  simp only [State.completeAttempt, h, hr, hemp, hs, ht, hroom', if_true, if_false, Bool.false_eq_true]

end

theorem State.recompute_anew {s : State} {w : Work} (h : w.attempt < 3) : s.recompute w =
    { s with planner := { s.planner with work := some { w with
      attempt := w.attempt + 1, snap := s.snapshot w.job w.snap.target } } } :=
  if_pos h

theorem State.recompute_last {s : State} {w : Work} (h : 3 ≤ w.attempt) :
    s.recompute w = s.freePlanner.handStockChanged w.job w.snap.target :=
  if_neg (Nat.not_lt.mpr h)

end Sys2Proof.Machine

namespace Sys2Proof
open Machine

/-- Settles O58: the reservation by the free count, the writing of a plan by the slots it takes, and the
completion of a settle by the branches of an attempt's completion. -/
theorem reservationIsMadeAndSettleCompletes : Obligations.ReservationIsMadeAndSettleCompletes := by
  refine ⟨fun s k n => ⟨s.reserve_free k n, s.reserve_some k n, s.reserve_none k n, Store.free_eq _⟩,
    fun s => ⟨rfl, s.reserveAll_cons⟩, fun p o origin plan hlen => ?_, fun s l w hp hw hjob => ?_⟩
  · dsimp only
    rw [Pool.write_eq o origin plan p hlen]
    refine congrArg (fun f => ({ p with free := _, records := p.records ++ (p.free.zip plan).map f } : Pool)) ?_
    funext ⟨slot, x⟩
    exact x.record_eq o origin slot
  · have hplan : w.plan s.limits = w.snap.lanePlan s.limits .settle := by simp only [Work.plan, hjob]
    have hdrawn : s.withdrawn w = (s.sale l).cancelPending := by simp only [State.withdrawn, hjob]
    have hrefuses : w.refuses (w.plan s.limits) =
        (decide (0 < (w.plan s.limits).shortfall) && !w.snap.acceptShort) := by
      simp only [Work.refuses, hjob]
    have hspace : s.spaceAllows w.job (w.plan s.limits) = true := by simp only [State.spaceAllows, hjob]
    have hkeeps : ¬(0 < (w.plan s.limits).shortfall ∧ w.snap.acceptShort = false) →
        w.refuses (w.plan s.limits) = false := fun h => by
      rw [hrefuses]
      simp only [not_and, Bool.not_eq_false] at h
      by_cases hp : 0 < (w.plan s.limits).shortfall
      · simp [h hp]
      · simp [hp]
    dsimp only
    rw [← hplan]
    refine ⟨fun hc => ?_, fun hc => ⟨fun hshort => ?_, fun hshort => ⟨fun he => ?_, fun t hne ht hroom => ?_,
      fun hne hnone => ⟨fun hlt => ?_, fun hle => ?_⟩⟩⟩⟩
    · rw [exec_attemptCompletion hp hw (State.completeAttempt_withdrawn (hdrawn.trans hc))]
      simp only [State.completeWithdrawn, hjob]
      rfl
    · have hr : w.refuses (w.plan s.limits) = true := by rw [hrefuses]; simpa using hshort
      rw [exec_attemptCompletion hp hw (State.completeAttempt_refused (hdrawn.trans hc) hr)]
      simp only [State.completeRefused, hjob]
      rfl
    all_goals replace hshort := hkeeps hshort
    · rw [exec_attemptCompletion hp hw (State.completeAttempt_empty (hdrawn.trans hc) hshort he)]
      simp only [State.handBack, hjob]
      rfl
    · rw [exec_attemptCompletion hp hw
        (State.completeAttempt_laid (hdrawn.trans hc) hshort hne hspace ht hroom)]
      obtain ⟨v, rfl⟩ : ∃ v, t = { s with stores := v } := ⟨_, (State.reserveAll_some ht).1⟩
      simp only [State.handBack, hjob]
      rfl
    all_goals have hfail := State.completeAttempt_failed (hdrawn.trans hc) hshort hne ((if_pos hspace).trans hnone)
    · rw [exec_attemptCompletion hp hw hfail, State.recompute_anew hlt]
    · rw [exec_attemptCompletion hp hw hfail, State.recompute_last hle]
      simp only [State.handStockChanged, hjob]
      rfl

end Sys2Proof
end

section
/-! SUPPORT. The strokes a plan allocates (R86, R87): from the fullest stores, in store order, by value. -/

namespace Sys2Proof.Machine

/-! ### The order of the stores -/

/-- One store comes before another in an allocation: a larger free count, then the lower number (R86). -/
def Snapshot.fuller (n : Snapshot) (j k : StoreId) : Prop :=
  (n.store k).free < (n.store j).free ∨ ((n.store j).free = (n.store k).free ∧ j.val < k.val)

theorem Snapshot.fuller_irrefl (n : Snapshot) (k : StoreId) : ¬n.fuller k k := by
  unfold Snapshot.fuller; omega

theorem Snapshot.fuller_asymm {n : Snapshot} {j k : StoreId} (h : n.fuller j k) : ¬n.fuller k j := by
  unfold Snapshot.fuller at *; omega

theorem Snapshot.fuller_trans {n : Snapshot} {i j k : StoreId} (h : n.fuller i j) (h' : n.fuller j k) :
    n.fuller i k := by
  unfold Snapshot.fuller at *; omega

theorem Snapshot.fuller_of_not {n : Snapshot} {j k : StoreId} (hne : j ≠ k) (h : ¬n.fuller j k) :
    n.fuller k j := by
  have : j.val ≠ k.val := fun e => hne (Fin.ext e)
  unfold Snapshot.fuller at *; omega

theorem Snapshot.insertByFree_perm (n : Snapshot) (x : StoreId) (ys : List StoreId) :
    (n.insertByFree x ys).Perm (x :: ys) := by
  induction ys with
  | nil => exact .refl _
  | cons y ys ih =>
    unfold Snapshot.insertByFree
    split
    · exact .refl _
    · exact (ih.cons y).trans (.swap x y ys)

theorem Snapshot.byFree_perm (n : Snapshot) (ks : List StoreId) : (n.byFree ks).Perm ks := by
  induction ks with
  | nil => exact .refl _
  | cons k ks ih => exact (n.insertByFree_perm k _).trans (ih.cons k)

theorem Snapshot.insertByFree_sorted {n : Snapshot} {x : StoreId} {ys : List StoreId} (hx : x ∉ ys)
    (h : ys.Pairwise n.fuller) : (n.insertByFree x ys).Pairwise n.fuller := by
  induction ys with
  | nil => exact List.pairwise_singleton ..
  | cons y ys ih =>
    obtain ⟨hy, hys⟩ := List.pairwise_cons.mp h
    obtain ⟨hxy, hx⟩ := not_or.mp (fun h => hx (List.mem_cons.mpr h))
    unfold Snapshot.insertByFree
    split
    · rename_i hbefore
      have hbefore : n.fuller x y := hbefore.imp_right (fun h => ⟨h.1.symm, h.2⟩)
      refine List.pairwise_cons.mpr ⟨fun z hz => ?_, h⟩
      rcases List.mem_cons.mp hz with rfl | hz
      · exact hbefore
      · exact Snapshot.fuller_trans hbefore (hy z hz)
    · rename_i hafter
      have hafter : n.fuller y x := Snapshot.fuller_of_not hxy
        (fun h => hafter (h.imp_right (fun h => ⟨h.1.symm, h.2⟩)))
      refine List.pairwise_cons.mpr ⟨fun z hz => ?_, ih hx hys⟩
      rcases List.mem_cons.mp ((n.insertByFree_perm x ys).mem_iff.mp hz) with rfl | hz
      · exact hafter
      · exact hy z hz

theorem Snapshot.byFree_sorted {n : Snapshot} {ks : List StoreId} (nodup : ks.Nodup) :
    (n.byFree ks).Pairwise n.fuller := by
  induction ks with
  | nil => exact .nil
  | cons k ks ih =>
    obtain ⟨hk, nodup⟩ := List.nodup_cons.mp nodup
    exact Snapshot.insertByFree_sorted (fun h => hk ((n.byFree_perm ks).mem_iff.mp h)) (ih nodup)

/-! ### What each store gives -/

theorem Snapshot.takeFrom_zero (n : Snapshot) (ks : List StoreId) : n.takeFrom ks 0 = [] := by
  induction ks with
  | nil => rfl
  | cons k ks ih => simp [Snapshot.takeFrom, ih]

theorem Snapshot.takeFrom_stores (n : Snapshot) (ks : List StoreId) (want : Nat) :
    ((n.takeFrom ks want).map (·.store)).Sublist ks := by
  induction ks generalizing want with
  | nil => exact .slnil
  | cons k ks ih =>
    unfold Snapshot.takeFrom
    dsimp only
    split
    · exact (ih want).cons k
    · exact (ih _).cons_cons k

theorem Snapshot.takeFrom_le (n : Snapshot) (ks : List StoreId) (want : Nat) :
    ∀ x ∈ n.takeFrom ks want, x.count ≤ (n.store x.store).free := by
  induction ks generalizing want with
  | nil => intro x hx; cases hx
  | cons k ks ih =>
    unfold Snapshot.takeFrom
    dsimp only
    split
    · exact ih want
    · intro x hx
      rcases List.mem_cons.mp hx with rfl | hx
      · exact Nat.min_le_left _ _
      · exact ih _ x hx

theorem Snapshot.takeFrom_sum (n : Snapshot) (ks : List StoreId) (want : Nat) :
    ((n.takeFrom ks want).map (·.count)).sum = min want (n.freeOf ks) := by
  induction ks generalizing want with
  | nil => simp [Snapshot.takeFrom, Snapshot.freeOf]
  | cons k ks ih =>
    have hcons : n.freeOf (k :: ks) = (n.store k).free + n.freeOf ks := by
      simp [Snapshot.freeOf]
    unfold Snapshot.takeFrom
    dsimp only
    split
    · rename_i h
      rw [ih, hcons]
      omega
    · rw [List.map_cons, List.sum_cons, ih, hcons]
      change min (n.store k).free want + _ = _
      omega

/-- A store that gives leaves nothing in the fuller ones. -/
theorem Snapshot.takeFrom_fuller {n : Snapshot} {ks : List StoreId} (sorted : ks.Pairwise n.fuller)
    (want : Nat) : ∀ x ∈ n.takeFrom ks want, ∀ k ∈ ks, n.fuller k x.store →
      { store := k, count := (n.store k).free } ∈ n.takeFrom ks want := by
  induction ks generalizing want with
  | nil => intro x hx; cases hx
  | cons a ks ih =>
    obtain ⟨ha, sorted⟩ := List.pairwise_cons.mp sorted
    intro x hx k hk hfull
    have hpos : 0 < (n.store k).free := by
      have hxpos := n.takeFrom_pos _ _ x hx
      have hxle := n.takeFrom_le _ _ x hx
      unfold Snapshot.fuller at hfull
      omega
    unfold Snapshot.takeFrom at hx ⊢
    dsimp only at hx ⊢
    split at hx
    · rename_i hnone
      rw [if_pos hnone]
      rcases List.mem_cons.mp hk with rfl | hk
      · have hwant : want = 0 := by omega
        rw [hwant, n.takeFrom_zero] at hx
        cases hx
      · exact ih sorted want x hx k hk hfull
    · rename_i hsome
      rw [if_neg hsome]
      rcases List.mem_cons.mp hx with rfl | hx
      · rcases List.mem_cons.mp hk with rfl | hk
        · exact absurd hfull (n.fuller_irrefl _)
        · exact absurd hfull (Snapshot.fuller_asymm (ha k hk))
      · rcases List.mem_cons.mp hk with rfl | hk
        · have hall : min (n.store k).free want = (n.store k).free := by
            by_contra hne
            have hwant : want - min (n.store k).free want = 0 := by omega
            rw [hwant, n.takeFrom_zero] at hx
            cases hx
          rw [hall]
          exact List.mem_cons_self
        · exact List.mem_cons_of_mem _ (ih sorted _ x hx k hk hfull)

/-! ### One denomination's strokes -/

theorem insertByStore_sorted {x : Planned} {ys : List Planned} (hx : x.store ∉ ys.map (·.store))
    (h : ys.Pairwise (fun a b => a.store.val < b.store.val)) :
    (insertByStore x ys).Pairwise (fun a b => a.store.val < b.store.val) := by
  induction ys with
  | nil => exact List.pairwise_singleton ..
  | cons y ys ih =>
    obtain ⟨hy, hys⟩ := List.pairwise_cons.mp h
    rw [List.map_cons, List.mem_cons, not_or] at hx
    obtain ⟨hxy, hx⟩ := hx
    have hval : x.store.val ≠ y.store.val := fun e => hxy (Fin.ext e)
    unfold insertByStore
    split
    · refine List.pairwise_cons.mpr ⟨fun z hz => ?_, h⟩
      rcases List.mem_cons.mp hz with rfl | hz
      · omega
      · have := hy z hz; omega
    · refine List.pairwise_cons.mpr ⟨fun z hz => ?_, ih hx hys⟩
      rcases List.mem_cons.mp ((insertByStore_perm x ys).mem_iff.mp hz) with rfl | hz
      · omega
      · exact hy z hz

theorem foldr_insertByStore_sorted {xs : List Planned} (nodup : (xs.map (·.store)).Nodup) :
    (xs.foldr insertByStore []).Pairwise (fun a b => a.store.val < b.store.val) := by
  induction xs with
  | nil => exact .nil
  | cons x xs ih =>
    rw [List.map_cons, List.nodup_cons] at nodup
    refine insertByStore_sorted (fun h => nodup.1 ?_) (ih nodup.2)
    exact ((foldr_insertByStore_perm xs).map _).mem_iff.mp h

section
variable {n : Snapshot} {ks : List StoreId} (nodup : ks.Nodup) (count : Nat)

theorem Snapshot.allocate_perm : (n.allocate ks count).Perm (n.takeFrom (n.byFree ks) count) :=
  foldr_insertByStore_perm _

theorem Snapshot.mem_allocate_store {x : Planned} (hx : x ∈ n.allocate ks count) : x.store ∈ ks := by
  have hmem := (Snapshot.allocate_perm count).mem_iff.mp hx
  exact (n.byFree_perm ks).mem_iff.mp
    ((n.takeFrom_stores _ _).subset (List.mem_map_of_mem (f := Planned.store) hmem))

theorem Snapshot.allocate_le {x : Planned} (hx : x ∈ n.allocate ks count) :
    x.count ≤ (n.store x.store).free :=
  n.takeFrom_le _ _ x ((Snapshot.allocate_perm count).mem_iff.mp hx)

theorem Snapshot.allocate_sum :
    ((n.allocate ks count).map (·.count)).sum = min count (n.freeOf ks) := by
  have hfree : n.freeOf (n.byFree ks) = n.freeOf ks := ((n.byFree_perm ks).map _).sum_eq
  rw [((Snapshot.allocate_perm count).map _).sum_eq, n.takeFrom_sum, hfree]

include nodup

theorem Snapshot.allocate_sorted :
    (n.allocate ks count).Pairwise (fun a b => a.store.val < b.store.val) :=
  foldr_insertByStore_sorted ((n.takeFrom_stores _ _).nodup ((n.byFree_perm ks).nodup_iff.mpr nodup))

theorem Snapshot.allocate_fuller {x : Planned} (hx : x ∈ n.allocate ks count) {k : StoreId} (hk : k ∈ ks)
    (hfull : n.fuller k x.store) : { store := k, count := (n.store k).free } ∈ n.allocate ks count :=
  (Snapshot.allocate_perm count).mem_iff.mpr (Snapshot.takeFrom_fuller (Snapshot.byFree_sorted nodup) count x
    ((Snapshot.allocate_perm count).mem_iff.mp hx) k ((n.byFree_perm ks).mem_iff.mpr hk) hfull)

end

end Sys2Proof.Machine
end

section
/-! SUPPORT. A plan laid out over its positions (R78, R86, R87). -/

namespace Sys2Proof.Machine

/-! ### The positions of a plan -/

/-- The position of a denomination (R78). -/
def Snapshot.position (n : Snapshot) (excluded : List StoreId) (d : Denom) : Position :=
  { denom := d, value := (n.denom d).value, kind := (n.denom d).kind,
    free := n.freeOf (n.usableStores excluded d), low := (n.denom d).low }

theorem insertPosition_perm (x : Position) (ys : List Position) : (insertPosition x ys).Perm (x :: ys) := by
  induction ys with
  | nil => exact .refl _
  | cons y ys ih =>
    unfold insertPosition
    split
    · exact .refl _
    · exact (ih.cons y).trans (.swap x y ys)

theorem insertPosition_sorted {x : Position} {ys : List Position}
    (h : ys.Pairwise (fun a b => b.value ≤ a.value)) :
    (insertPosition x ys).Pairwise (fun a b => b.value ≤ a.value) := by
  induction ys with
  | nil => exact List.pairwise_singleton ..
  | cons y ys ih =>
    obtain ⟨hy, hys⟩ := List.pairwise_cons.mp h
    unfold insertPosition
    split
    · rename_i hbefore
      simp only [Position.before, Bool.or_eq_true, Bool.and_eq_true, decide_eq_true_eq, beq_iff_eq] at hbefore
      refine List.pairwise_cons.mpr ⟨fun z hz => ?_, h⟩
      rcases List.mem_cons.mp hz with rfl | hz
      · omega
      · have := hy z hz; omega
    · rename_i hafter
      simp only [Position.before, Bool.or_eq_true, Bool.and_eq_true, decide_eq_true_eq, beq_iff_eq,
        not_or, not_lt] at hafter
      refine List.pairwise_cons.mpr ⟨fun z hz => ?_, ih hys⟩
      rcases List.mem_cons.mp ((insertPosition_perm x ys).mem_iff.mp hz) with rfl | hz
      · exact hafter.1
      · exact hy z hz

section
variable (n : Snapshot) (excluded : List StoreId)

theorem Snapshot.positions_eq : n.positions excluded =
    ((allDenoms.filter (fun d => !(n.usableStores excluded d).isEmpty)).map (n.position excluded)).foldr
      insertPosition [] := by
  rw [List.foldr_map]; rfl

theorem foldr_insertPosition_perm (xs : List Position) : (xs.foldr insertPosition []).Perm xs := by
  induction xs with
  | nil => exact .refl _
  | cons x xs ih => exact (insertPosition_perm x _).trans (ih.cons x)

theorem foldr_insertPosition_sorted (xs : List Position) :
    (xs.foldr insertPosition []).Pairwise (fun a b => b.value ≤ a.value) := by
  induction xs with
  | nil => exact .nil
  | cons x xs ih => exact insertPosition_sorted ih

theorem Snapshot.positions_perm : (n.positions excluded).Perm
    ((allDenoms.filter (fun d => !(n.usableStores excluded d).isEmpty)).map (n.position excluded)) := by
  rw [Snapshot.positions_eq]; exact foldr_insertPosition_perm _

theorem Snapshot.positions_sorted : (n.positions excluded).Pairwise (fun a b => b.value ≤ a.value) := by
  rw [Snapshot.positions_eq]; exact foldr_insertPosition_sorted _

/-- Each denomination has one position. -/
theorem Snapshot.positions_nodup : ((n.positions excluded).map (·.denom)).Nodup := by
  rw [((n.positions_perm excluded).map _).nodup_iff, List.map_map]
  exact (List.map_id _).symm ▸ allDenoms_nodup.filter _

theorem Snapshot.mem_positions {p : Position} : p ∈ n.positions excluded ↔
    p = n.position excluded p.denom ∧ n.usableStores excluded p.denom ≠ [] := by
  rw [(n.positions_perm excluded).mem_iff, List.mem_map]
  constructor
  · rintro ⟨d, hd, rfl⟩
    exact ⟨rfl, show n.usableStores excluded d ≠ [] by simpa using (List.mem_filter.mp hd).2⟩
  · rintro ⟨hp, hne⟩
    exact ⟨p.denom, List.mem_filter.mpr ⟨mem_allDenoms _, by simpa using hne⟩, hp.symm⟩

/-! ### The stores of a position -/

theorem Snapshot.mem_usableStores {d : Denom} {k : StoreId} :
    k ∈ n.usableStores excluded d ↔ n.plannedFrom excluded d k := by
  unfold Snapshot.usableStores Snapshot.plannedFrom
  by_cases he : (n.denom d).enabled = true
  · simp [he, mem_allStores, and_assoc]
  · simp [he]

theorem Snapshot.usableStores_nodup (d : Denom) : (n.usableStores excluded d).Nodup := by
  unfold Snapshot.usableStores
  split
  · exact allStores_nodup.filter _
  · exact .nil

theorem Snapshot.freeOf_usableStores (d : Denom) :
    n.freeOf (n.usableStores excluded d) = n.freeStock excluded d := by
  unfold Snapshot.freeOf Snapshot.usableStores Snapshot.freeStock
  by_cases he : (n.denom d).enabled = true
  · simp [he]
  · simp [he]

end

/-! ### The strokes of the positions of a kind -/

/-- Positions with a count each, distinct and by value, largest first. -/
def Snapshot.counted (n : Snapshot) (excluded : List StoreId) (ys : List (Position × Nat)) : Prop :=
  (∀ y ∈ ys, y.1 ∈ n.positions excluded) ∧
    ys.Pairwise (fun a b => a.1.denom ≠ b.1.denom ∧ b.1.value ≤ a.1.value)

section
variable {n : Snapshot} {excluded : List StoreId} {k : Kind}

theorem Snapshot.mem_strokesOf {ys : List (Position × Nat)} {x : Planned} :
    x ∈ n.strokesOf excluded k ys ↔
      ∃ y ∈ ys, y.1.kind = k ∧ x ∈ n.allocate (n.usableStores excluded y.1.denom) y.2 := by
  induction ys with
  | nil => simp [Snapshot.strokesOf]
  | cons y ys ih =>
    obtain ⟨p, count⟩ := y
    unfold Snapshot.strokesOf
    rw [List.mem_append, ih, List.exists_mem_cons_iff]
    refine or_congr ?_ Iff.rfl
    by_cases hk : p.kind = k <;> simp [hk]

/-- A stroke of a position is on a store of its denomination. -/
theorem Snapshot.allocate_plannedFrom {d : Denom} {count : Nat} {x : Planned}
    (hx : x ∈ n.allocate (n.usableStores excluded d) count) : n.plannedFrom excluded d x.store :=
  (n.mem_usableStores excluded).mp (Snapshot.mem_allocate_store count hx)

theorem Snapshot.plannedFrom.denom {d : Denom} {j : StoreId} (h : n.plannedFrom excluded d j) :
    (n.store j).denom = some d := h.2.2.2.1

/-- The pieces that the strokes of some positions take of a denomination. -/
theorem Snapshot.planned_strokesOf (ys : List (Position × Nat)) (d : Denom) :
    n.planned (n.strokesOf excluded k ys) d = (ys.map (fun y =>
      if y.1.kind = k ∧ y.1.denom = d then min y.2 (n.freeStock excluded d) else 0)).sum := by
  induction ys with
  | nil => rfl
  | cons y ys ih =>
    obtain ⟨p, count⟩ := y
    have happ : ∀ xs xs', n.planned (xs ++ xs') d = n.planned xs d + n.planned xs' d := fun xs xs' => by
      simp [Snapshot.planned]
    have hone : n.planned (n.allocate (n.usableStores excluded p.denom) count) d =
        if p.denom = d then min count (n.freeStock excluded d) else 0 := by
      unfold Snapshot.planned
      split
      · rename_i hd
        subst hd
        rw [List.filter_eq_self.mpr (fun x hx => by
          simp [(Snapshot.allocate_plannedFrom hx).denom]), Snapshot.allocate_sum, n.freeOf_usableStores]
      · rename_i hd
        rw [List.filter_eq_nil_iff.mpr (fun x hx => by
          simp [(Snapshot.allocate_plannedFrom hx).denom, hd])]
        rfl
    unfold Snapshot.strokesOf
    rw [happ, ih, List.map_cons, List.sum_cons]
    by_cases hk : p.kind = k
    · simp [hk, hone]
    · simp [hk, Snapshot.planned]

/-- The pieces that the strokes of some positions take. -/
theorem Snapshot.count_strokesOf (ys : List (Position × Nat)) :
    ((n.strokesOf excluded k ys).map (·.count)).sum = (ys.map (fun y =>
      if y.1.kind = k then min y.2 (n.freeStock excluded y.1.denom) else 0)).sum := by
  induction ys with
  | nil => rfl
  | cons y ys ih =>
    obtain ⟨p, count⟩ := y
    unfold Snapshot.strokesOf
    rw [List.map_append, List.sum_append, ih, List.map_cons, List.sum_cons]
    by_cases hk : p.kind = k
    · simp [hk, Snapshot.allocate_sum, n.freeOf_usableStores]
    · simp [hk]

/-- The value of a planned stroke's pieces. -/
def Snapshot.strokeValue (n : Snapshot) (x : Planned) : Nat :=
  match (n.store x.store).denom with
  | some d => (n.denom d).value
  | none => 0

theorem Snapshot.strokeValue_eq {x : Planned} {d : Denom} (h : n.plannedFrom excluded d x.store) :
    n.strokeValue x = (n.denom d).value := by
  simp [Snapshot.strokeValue, h.denom]

/-- The strokes of a kind go by value, and within a denomination by store number (R87). -/
theorem Snapshot.strokesOf_sorted {ys : List (Position × Nat)} (h : n.counted excluded ys) :
    (n.strokesOf excluded k ys).Pairwise (fun x y => n.strokeValue y ≤ n.strokeValue x ∧
      x.store ≠ y.store ∧ ((n.store x.store).denom = (n.store y.store).denom → x.store.val < y.store.val)) := by
  induction ys with
  | nil => exact .nil
  | cons y ys ih =>
    obtain ⟨p, count⟩ := y
    obtain ⟨hmem, hsorted⟩ := h
    obtain ⟨hfirst, hsorted⟩ := List.pairwise_cons.mp hsorted
    have hpos : ∀ {z : Position × Nat}, z ∈ (p, count) :: ys → z.1.value = (n.denom z.1.denom).value :=
      fun hz => congrArg Position.value ((n.mem_positions excluded).mp (hmem _ hz)).1
    unfold Snapshot.strokesOf
    refine List.pairwise_append.mpr ⟨?_, ih ⟨fun z hz => hmem z (List.mem_cons_of_mem _ hz), hsorted⟩, ?_⟩
    · split
      · refine (Snapshot.allocate_sorted (n.usableStores_nodup excluded p.denom) count).imp_of_mem
          (fun hx hy hlt => ?_)
        have hx := Snapshot.allocate_plannedFrom hx
        have hy := Snapshot.allocate_plannedFrom hy
        refine ⟨by rw [Snapshot.strokeValue_eq hx, Snapshot.strokeValue_eq hy], fun he => ?_, fun _ => hlt⟩
        rw [he] at hlt
        exact absurd hlt (Nat.lt_irrefl _)
      · exact .nil
    · intro x hx y hy
      split at hx
      · obtain ⟨z, hz, -, hyz⟩ := Snapshot.mem_strokesOf.mp hy
        obtain ⟨hne, hle⟩ := hfirst z hz
        have hx := Snapshot.allocate_plannedFrom hx
        have hy := Snapshot.allocate_plannedFrom hyz
        have hden : (n.store x.store).denom ≠ (n.store y.store).denom := by
          rw [hx.denom, hy.denom]; exact fun he => hne (Option.some.inj he)
        refine ⟨?_, fun he => hden (by rw [he]), fun he => absurd he hden⟩
        rw [Snapshot.strokeValue_eq hx, Snapshot.strokeValue_eq hy,
          ← hpos (List.mem_cons_of_mem _ hz), ← hpos List.mem_cons_self]
        exact hle
      · cases hx

/-- The coin strokes, then the note strokes, of two counts of the positions are laid out as R86 and R87 ask. -/
theorem Snapshot.laidOut_strokesOf (kinds : ∀ k d, (n.store k).denom = some d → (n.denom d).kind = storeKind k)
    {ys zs : List (Position × Nat)} (hy : n.counted excluded ys) (hz : n.counted excluded zs) :
    n.laidOut excluded (n.strokesOf excluded .coin ys ++ n.strokesOf excluded .note zs) := by
  have hkind : ∀ {k : Kind} {ws : List (Position × Nat)}, n.counted excluded ws →
      ∀ x ∈ n.strokesOf excluded k ws, storeKind x.store = k := fun hw x hx => by
    obtain ⟨w, hmem, rfl, hx'⟩ := Snapshot.mem_strokesOf.mp hx
    have hp := ((n.mem_positions excluded).mp (hw.1 w hmem)).1
    rw [← kinds _ _ (Snapshot.allocate_plannedFrom hx').denom]
    exact (congrArg Position.kind hp).symm
  have hstroke : ∀ {k : Kind} {ws : List (Position × Nat)}, n.counted excluded ws →
      ∀ x ∈ n.strokesOf excluded k ws, 0 < x.count ∧ x.count ≤ (n.store x.store).free ∧
      ∃ d, n.plannedFrom excluded d x.store ∧ ∀ j, n.plannedFrom excluded d j → n.fuller j x.store →
        { store := j, count := (n.store j).free } ∈ n.strokesOf excluded k ws := fun hw x hx => by
    obtain ⟨w, hmem, hk, hx'⟩ := Snapshot.mem_strokesOf.mp hx
    refine ⟨n.strokesOf_pos _ _ _ x hx, Snapshot.allocate_le w.2 hx', w.1.denom,
      Snapshot.allocate_plannedFrom hx', fun j hj hfull => Snapshot.mem_strokesOf.mpr ⟨w, hmem, hk, ?_⟩⟩
    exact Snapshot.allocate_fuller (n.usableStores_nodup excluded w.1.denom) w.2 hx'
      ((n.mem_usableStores excluded).mpr hj) hfull
  have hdiffer : ∀ x ∈ n.strokesOf excluded .coin ys, ∀ y ∈ n.strokesOf excluded .note zs,
      storeKind x.store = .coin ∧ storeKind y.store = .note := fun x hx y hy' =>
    ⟨hkind hy x hx, hkind hz y hy'⟩
  refine ⟨?_, fun x hx => ?_, ?_⟩
  · refine List.Pairwise.map _ (fun _ _ h => h) (List.pairwise_append.mpr
      ⟨(Snapshot.strokesOf_sorted hy).imp (fun h => h.2.1), (Snapshot.strokesOf_sorted hz).imp (fun h => h.2.1),
        fun x hx y hy' he => ?_⟩)
    obtain ⟨h1, h2⟩ := hdiffer x hx y hy'
    rw [he, h2] at h1
    exact absurd h1 (by decide)
  · rcases List.mem_append.mp hx with hx | hx
    · obtain ⟨hpos, hle, d, hd, hfull⟩ := hstroke hy x hx
      exact ⟨hpos, hle, d, hd, fun j hj hf => List.mem_append_left _ (hfull j hj hf)⟩
    · obtain ⟨hpos, hle, d, hd, hfull⟩ := hstroke hz x hx
      exact ⟨hpos, hle, d, hd, fun j hj hf => List.mem_append_right _ (hfull j hj hf)⟩
  · refine List.pairwise_append.mpr ⟨?_, ?_, fun x hx y hy' => .inl (hdiffer x hx y hy')⟩
    · exact (Snapshot.strokesOf_sorted hy).imp_of_mem (fun hx hy' h =>
        .inr ⟨(hkind hy _ hx).trans (hkind hy _ hy').symm, h.1, h.2.2⟩)
    · exact (Snapshot.strokesOf_sorted hz).imp_of_mem (fun hx hy' h =>
        .inr ⟨(hkind hz _ hx).trans (hkind hz _ hy').symm, h.1, h.2.2⟩)

end

end Sys2Proof.Machine
end

section
/-! PROOF. The space of a cashbox, and a skim by its plan (O60). -/

namespace Sys2Proof.Machine

theorem State.space_eq (s : State) (k : Kind) : s.space k =
    if (s.box k).present = true then
      (s.box k).capacity - ((allDenoms.map (s.box k).countOf).sum + (s.box k).promised +
        if k = .note then 30 else 0)
    else 0 := by
  have hhead : Config.headroom k = if k = .note then 30 else 0 := by cases k <;> rfl
  unfold State.space
  rw [hhead, Nat.sub_sub, Nat.sub_sub, Nat.add_assoc]
  rfl

/-! ### What a skim to target allots (R89) -/

section
variable {n : Snapshot} {k : Kind}

/-- The pieces some positions are allotted. -/
def allotted (ys : List (Position × Nat)) : Nat := (ys.map Prod.snd).sum

theorem Snapshot.allot_positions (ps : List Position) (space : Nat) :
    (n.allot k ps space).map Prod.fst = ps.filter (fun p => p.kind = k) := by
  induction ps generalizing space with
  | nil => rfl
  | cons p ps ih =>
    unfold Snapshot.allot
    split
    · rename_i hk
      simp [hk, ih]
    · rename_i hk
      simp [hk, ih]

theorem Snapshot.allot_le_space (ps : List Position) (space : Nat) :
    allotted (n.allot k ps space) ≤ space := by
  induction ps generalizing space with
  | nil => exact Nat.zero_le _
  | cons p ps ih =>
    unfold Snapshot.allot
    dsimp only
    split
    · have h := ih (space - min (p.free - (n.denom p.denom).target) space)
      simp only [allotted, List.map_cons, List.sum_cons] at h ⊢
      omega
    · exact ih space

theorem Snapshot.allot_le_free (ps : List Position) (space : Nat) :
    ∀ y ∈ n.allot k ps space, y.2 ≤ y.1.free := by
  induction ps generalizing space with
  | nil => intro y hy; cases hy
  | cons p ps ih =>
    unfold Snapshot.allot
    dsimp only
    split
    · intro y hy
      rcases List.mem_cons.mp hy with rfl | hy
      · exact (Nat.min_le_left _ _).trans (Nat.sub_le _ _)
      · exact ih _ y hy
    · exact ih space

/-- Each position of the kind is allotted its excess within the space the ones before it leave. -/
theorem Snapshot.allot_append (before after : List Position) (p : Position) (space : Nat) (hk : p.kind = k) :
    ∃ rest, n.allot k (before ++ p :: after) space = n.allot k before space ++
      (p, min (p.free - (n.denom p.denom).target) (space - allotted (n.allot k before space))) :: rest := by
  induction before generalizing space with
  | nil =>
    refine ⟨n.allot k after (space - min (p.free - (n.denom p.denom).target) space), ?_⟩
    rw [List.nil_append, Snapshot.allot]
    exact if_pos hk
  | cons q before ih =>
    rw [List.cons_append]
    unfold Snapshot.allot
    dsimp only
    split
    · obtain ⟨rest, h⟩ := ih (space - min (q.free - (n.denom q.denom).target) space)
      refine ⟨rest, ?_⟩
      rw [h]
      simp only [allotted, List.map_cons, List.sum_cons, List.cons_append, Nat.sub_sub]
    · exact ih space

/-- The counted positions of a skim to target. -/
def Snapshot.skimCounts (n : Snapshot) (k : Kind) : List (Position × Nat) :=
  n.allot k (n.positions []) (n.space.get k)

theorem Snapshot.mem_skimCounts {y : Position × Nat} (hy : y ∈ n.skimCounts k) :
    y.1 ∈ n.positions [] ∧ y.1.kind = k ∧ y.2 ≤ n.freeStock [] y.1.denom := by
  have hp : y.1 ∈ (n.positions []).filter (fun p => p.kind = k) := by
    rw [← Snapshot.allot_positions (n := n) _ (n.space.get k)]
    exact List.mem_map_of_mem hy
  obtain ⟨hmem, hk⟩ := List.mem_filter.mp hp
  have hfree : y.1.free = n.freeStock [] y.1.denom := by
    rw [← n.freeOf_usableStores]
    exact congrArg Position.free ((n.mem_positions []).mp hmem).1
  exact ⟨hmem, of_decide_eq_true hk, hfree ▸ Snapshot.allot_le_free _ _ y hy⟩

theorem Snapshot.skimCounts_counted (n : Snapshot) (k : Kind) : n.counted [] (n.skimCounts k) := by
  refine ⟨fun y hy => (Snapshot.mem_skimCounts hy).1, ?_⟩
  have hsorted : ((n.skimCounts k).map Prod.fst).Pairwise
      (fun a b => a.denom ≠ b.denom ∧ b.value ≤ a.value) := by
    rw [Snapshot.skimCounts, Snapshot.allot_positions]
    exact (List.pairwise_and_iff.mpr
      ⟨List.pairwise_map.mp (n.positions_nodup []), n.positions_sorted []⟩).filter _
  exact List.pairwise_map.mp hsorted

/-- A skim takes of each denomination what its position is allotted. -/
theorem Snapshot.planned_skimStrokes (n : Snapshot) (k : Kind) (d : Denom) :
    n.planned (n.skimStrokes k) d =
      ((n.skimCounts k).map (fun y => if y.1.denom = d then y.2 else 0)).sum := by
  refine (Snapshot.planned_strokesOf (n.skimCounts k) d).trans (congrArg List.sum (List.map_congr_left ?_))
  intro y hy
  obtain ⟨-, hk, hle⟩ := Snapshot.mem_skimCounts hy
  by_cases hd : y.1.denom = d
  · subst hd
    rw [if_pos ⟨hk, rfl⟩, if_pos rfl, Nat.min_eq_left hle]
  · rw [if_neg (fun h => hd h.2), if_neg hd]

theorem Snapshot.count_skimStrokes (n : Snapshot) (k : Kind) :
    ((n.skimStrokes k).map (·.count)).sum = allotted (n.skimCounts k) := by
  refine (Snapshot.count_strokesOf (n.skimCounts k)).trans (congrArg List.sum (List.map_congr_left ?_))
  intro y hy
  obtain ⟨-, hk, hle⟩ := Snapshot.mem_skimCounts hy
  rw [if_pos hk, Nat.min_eq_left hle]

end

/-! ### The plan of a skim to target (R87, R89) -/

section
variable {n : Snapshot} (kinds : ∀ k d, (n.store k).denom = some d → (n.denom d).kind = storeKind k)
include kinds

theorem Snapshot.skimStrokes_kind {k : Kind} {x : Planned} (hx : x ∈ n.skimStrokes k) :
    storeKind x.store = k := by
  obtain ⟨y, hy, rfl, hx'⟩ := Snapshot.mem_strokesOf.mp hx
  obtain ⟨hmem, -, -⟩ := Snapshot.mem_skimCounts hy
  rw [← kinds _ _ (Snapshot.allocate_plannedFrom hx').denom]
  exact (congrArg Position.kind ((n.mem_positions []).mp hmem).1).symm

theorem Snapshot.piecesOf_skimStrokes (j k : Kind) :
    piecesOf j (n.skimStrokes k) = if j = k then allotted (n.skimCounts k) else 0 := by
  unfold piecesOf
  split
  · rename_i h
    subst h
    rw [List.filter_eq_self.mpr (fun x hx => by simp [Snapshot.skimStrokes_kind kinds hx]),
      n.count_skimStrokes]
  · rename_i h
    rw [List.filter_eq_nil_iff.mpr (fun x hx => by
      simp [Snapshot.skimStrokes_kind kinds hx, Ne.symm h])]
    rfl

end

/-- The pieces a skim to target takes of a denomination are those of its kind's positions. -/
theorem Snapshot.planned_skim (n : Snapshot) (d : Denom) :
    n.planned (n.skimStrokes .coin ++ n.skimStrokes .note) d =
      n.planned (n.skimStrokes (n.denom d).kind) d := by
  have hnone : ∀ k, k ≠ (n.denom d).kind → n.planned (n.skimStrokes k) d = 0 := fun k hk => by
    rw [n.planned_skimStrokes, List.map_congr_left (g := fun _ => 0) (fun y hy => if_neg (fun hd => hk ?_))]
    · simp
    · obtain ⟨hmem, hkind, -⟩ := Snapshot.mem_skimCounts hy
      rw [← hkind, ← hd]
      exact congrArg Position.kind ((n.mem_positions []).mp hmem).1
  have happ : n.planned (n.skimStrokes .coin ++ n.skimStrokes .note) d =
      n.planned (n.skimStrokes .coin) d + n.planned (n.skimStrokes .note) d := by
    simp [Snapshot.planned]
  rw [happ]
  cases hk : (n.denom d).kind with
  | coin => rw [hnone .note (by rw [hk]; decide), Nat.add_zero]
  | note => rw [hnone .coin (by rw [hk]; decide), Nat.zero_add]

/-! ### What is left for a denomination (R89) -/

theorem sum_ite_eq_of_nodup {α : Type} [DecidableEq α] {xs : List α} (nodup : xs.Nodup) (a : α) (c : Nat) :
    (xs.map (fun e => if a = e then c else 0)).sum = if a ∈ xs then c else 0 := by
  induction xs with
  | nil => rfl
  | cons x xs ih =>
    obtain ⟨hx, nodup⟩ := List.nodup_cons.mp nodup
    rw [List.map_cons, List.sum_cons, ih nodup]
    by_cases h : a = x
    · subst h; simp [hx]
    · simp [h]

/-- The pieces of the positions of some denominations together. -/
theorem sum_of_denoms {ds : List Denom} (nodup : ds.Nodup) (ys : List (Position × Nat)) :
    (ds.map (fun e => (ys.map (fun y => if y.1.denom = e then y.2 else 0)).sum)).sum =
      (ys.map (fun y => if y.1.denom ∈ ds then y.2 else 0)).sum := by
  induction ys with
  | nil => simp
  | cons y ys ih =>
    simp only [List.map_cons, List.sum_cons, List.sum_map_add]
    rw [ih, sum_ite_eq_of_nodup nodup]

theorem sum_map_eq_zero {α : Type} {xs : List α} {f : α → Nat} (h : ∀ x ∈ xs, f x = 0) :
    (xs.map f).sum = 0 := by
  rw [List.map_congr_left (g := fun _ => 0) h]; simp

/-- The denominations of the same kind with a larger value. -/
def Snapshot.larger (n : Snapshot) (d : Denom) : List Denom :=
  allDenoms.filter (fun e => (n.denom e).kind == (n.denom d).kind &&
    decide ((n.denom d).value < (n.denom e).value))

/-- A denomination's share of a skim: its excess, within the space that the larger values of its kind leave. -/
theorem Snapshot.skim_share {n : Snapshot}
    (distinct : ∀ d e, (n.denom d).enabled = true → (n.denom e).enabled = true →
      (n.denom d).kind = (n.denom e).kind → (n.denom d).value = (n.denom e).value → d = e) (d : Denom) :
    n.planned (n.skimStrokes (n.denom d).kind) d = min (n.freeStock [] d - (n.denom d).target)
      (n.space.get (n.denom d).kind -
        ((n.larger d).map (n.planned (n.skimStrokes (n.denom d).kind))).sum) := by
  have hplanned := n.planned_skimStrokes (n.denom d).kind
  rw [List.map_congr_left (fun e _ => hplanned e), hplanned,
    sum_of_denoms (ds := n.larger d) (allDenoms_nodup.filter _)]
  have hcounted := n.skimCounts_counted (n.denom d).kind
  by_cases hd : n.usableStores [] d = []
  · have hfree : n.freeStock [] d = 0 := by rw [← n.freeOf_usableStores, hd]; rfl
    rw [hfree, Nat.zero_sub, Nat.zero_min]
    refine sum_map_eq_zero (fun y hy => if_neg ?_)
    rintro rfl
    exact ((n.mem_positions []).mp (hcounted.1 y hy)).2 hd
  · have hmem : n.position [] d ∈ n.positions [] := (n.mem_positions []).mpr ⟨rfl, hd⟩
    obtain ⟨before, after, hsplit⟩ := List.append_of_mem hmem
    obtain ⟨rest, hallot⟩ := Snapshot.allot_append (n := n) (k := (n.denom d).kind) before after
      (n.position [] d) (n.space.get (n.denom d).kind) rfl
    rw [← hsplit] at hallot
    change n.skimCounts _ = _ at hallot
    have hfacts : ∀ y ∈ n.skimCounts (n.denom d).kind, y.1.value = (n.denom y.1.denom).value ∧
        (n.denom y.1.denom).enabled = true ∧ (n.denom y.1.denom).kind = (n.denom d).kind := fun y hy => by
      obtain ⟨hin, hk, -⟩ := Snapshot.mem_skimCounts hy
      obtain ⟨hp, hne⟩ := (n.mem_positions []).mp hin
      obtain ⟨j, hj⟩ := List.exists_mem_of_ne_nil _ hne
      exact ⟨congrArg Position.value hp, ((n.mem_usableStores []).mp hj).1,
        (congrArg Position.kind hp).symm.trans hk⟩
    have hlarger : ∀ e, e ∈ n.larger d ↔
        (n.denom e).kind = (n.denom d).kind ∧ (n.denom d).value < (n.denom e).value := fun e => by
      simp [Snapshot.larger, mem_allDenoms]
    have hself : d ∉ n.larger d := fun h => absurd ((hlarger d).mp h).2 (Nat.lt_irrefl _)
    obtain ⟨-, hsorted⟩ := hcounted
    rw [hallot] at hsorted hfacts ⊢
    obtain ⟨-, hafter, hbefore⟩ := List.pairwise_append.mp hsorted
    obtain ⟨hafter, -⟩ := List.pairwise_cons.mp hafter
    have henabled : (n.denom d).enabled = true :=
      (hfacts _ (List.mem_append_right _ List.mem_cons_self)).2.1
    generalize n.allot (n.denom d).kind before (n.space.get (n.denom d).kind) = earlier at *
    have hearlier : ∀ y ∈ earlier, y.1.denom ≠ d ∧ y.1.denom ∈ n.larger d := fun y hy => by
      obtain ⟨hne, hle⟩ := hbefore y hy _ List.mem_cons_self
      obtain ⟨hv, he, hk⟩ := hfacts y (List.mem_append_left _ hy)
      rw [hv] at hle
      exact ⟨hne, (hlarger _).mpr ⟨hk, Nat.lt_of_le_of_ne hle
        (fun hv => hne (distinct _ _ henabled he hk.symm hv).symm)⟩⟩
    have hlater : ∀ y ∈ rest, y.1.denom ≠ d ∧ y.1.denom ∉ n.larger d := fun y hy => by
      obtain ⟨hne, hle⟩ := hafter y hy
      obtain ⟨hv, -, -⟩ := hfacts y (List.mem_append_right _ (List.mem_cons_of_mem _ hy))
      rw [hv] at hle
      exact ⟨hne.symm, fun h => absurd ((hlarger _).mp h).2 (Nat.not_lt.mpr hle)⟩
    have hown : ∀ got, ((earlier ++ (n.position [] d, got) :: rest).map
        (fun y => if y.1.denom = d then y.2 else 0)).sum = got := fun got => by
      rw [List.map_append, List.sum_append, List.map_cons, List.sum_cons,
        sum_map_eq_zero (fun y hy => if_neg (hearlier y hy).1),
        sum_map_eq_zero (fun y hy => if_neg (hlater y hy).1), Nat.zero_add, Nat.add_zero]
      exact if_pos rfl
    have hothers : ∀ got, ((earlier ++ (n.position [] d, got) :: rest).map
        (fun y => if y.1.denom ∈ n.larger d then y.2 else 0)).sum = allotted earlier := fun got => by
      rw [List.map_append, List.sum_append, List.map_cons, List.sum_cons,
        sum_map_eq_zero (xs := rest) (fun y hy => if_neg (hlater y hy).2),
        List.map_congr_left (fun y hy => if_pos (hearlier y hy).2)]
      exact congrArg (allotted earlier + ·) ((Nat.add_zero _).trans (if_neg hself))
    rw [hown, hothers, ← n.freeOf_usableStores]
    rfl

/-- A denomination that is not enabled is in no skim. -/
theorem Snapshot.planned_disabled {n : Snapshot} {d : Denom} (h : (n.denom d).enabled = false) (k : Kind) :
    n.planned (n.skimStrokes k) d = 0 := by
  rw [n.planned_skimStrokes]
  refine sum_map_eq_zero (fun y hy => if_neg ?_)
  rintro rfl
  obtain ⟨-, hne⟩ := (n.mem_positions []).mp (Snapshot.mem_skimCounts hy).1
  exact hne (by simp [Snapshot.usableStores, h])

theorem piecesOf_coin (xs : List Planned) :
    piecesOf .coin xs = ((xs.filter (fun x => x.store.val < 8)).map (·.count)).sum := by
  refine congrArg (fun ys : List Planned => (ys.map (·.count)).sum) (List.filter_congr fun x _ => ?_)
  rw [storeKind_eq]
  by_cases h : x.store.val < 8 <;> simp [h]

theorem piecesOf_note (xs : List Planned) :
    piecesOf .note xs = ((xs.filter (fun x => 8 ≤ x.store.val)).map (·.count)).sum := by
  refine congrArg (fun ys : List Planned => (ys.map (·.count)).sum) (List.filter_congr fun x _ => ?_)
  rw [storeKind_eq]
  by_cases h : x.store.val < 8
  · rw [if_pos h, decide_eq_false (Nat.not_le.mpr h)]; rfl
  · rw [if_neg h, decide_eq_true (Nat.not_lt.mp h)]; rfl

theorem Snapshot.skimPlan_pieces (n : Snapshot) (q : SkimRequest) :
    (n.skimPlan q).coins = piecesOf .coin (n.skimPlan q).strokes ∧
    (n.skimPlan q).notes = piecesOf .note (n.skimPlan q).strokes ∧ (n.skimPlan q).shortfall = 0 := by
  cases q <;> exact ⟨rfl, rfl, rfl⟩

/-- A skim stays within the space of each cashbox (R89, R90). -/
theorem Snapshot.skimPlan_space {n : Snapshot}
    (kinds : ∀ k d, (n.store k).denom = some d → (n.denom d).kind = storeKind k) (q : SkimRequest) (k : Kind) :
    piecesOf k (n.skimPlan q).strokes ≤ n.space.get k := by
  cases q with
  | toTarget =>
    have happ : ∀ xs ys, piecesOf k (xs ++ ys) = piecesOf k xs + piecesOf k ys := fun xs ys => by
      simp [piecesOf]
    have hle : allotted (n.skimCounts k) ≤ n.space.get k := Snapshot.allot_le_space _ _
    refine (happ (n.skimStrokes .coin) (n.skimStrokes .note)).trans_le ?_
    rw [Snapshot.piecesOf_skimStrokes kinds, Snapshot.piecesOf_skimStrokes kinds]
    cases k
    · simpa using hle
    · simpa using hle
  | emptyStore j =>
    simp only [Snapshot.skimPlan, planWith, Snapshot.emptyStrokes, piecesOf_eq]
    split
    · exact Nat.zero_le _
    · by_cases hk : storeKind j = k
      · subst hk; simp
      · simp [hk]

end Sys2Proof.Machine

namespace Sys2Proof
open Machine

/-- Settles O60: the space by its terms, the plan by what its positions are allotted and how their strokes are
laid out, the completion by the branches of an attempt's completion. -/
theorem skimCompletesByItsPlan : Obligations.SkimCompletesByItsPlan := by
  refine ⟨fun s k => s.space_eq k, fun n q kinds => ?_, fun s w q hp hw hjob => ?_⟩
  · obtain ⟨hcoins, hnotes, hshort⟩ := n.skimPlan_pieces q
    have hspace := Snapshot.skimPlan_space kinds q
    refine ⟨hcoins ▸ hspace .coin, hnotes ▸ hspace .note, hshort, hcoins.trans (piecesOf_coin _),
      hnotes.trans (piecesOf_note _), ?_, ?_⟩
    · rintro k rfl; rfl
    · rintro rfl
      have hplanned := Snapshot.planned_skim n
      refine ⟨Snapshot.laidOut_strokesOf kinds (n.skimCounts_counted .coin) (n.skimCounts_counted .note),
        fun distinct d _ => ?_, fun d hd => ?_⟩
      · refine (hplanned d).trans ((Snapshot.skim_share distinct d).trans ?_)
        refine congrArg (fun m => min (n.freeStock [] d - (n.denom d).target) (n.space.get (n.denom d).kind - m))
          (congrArg List.sum (List.map_congr_left fun e he => ?_))
        have hkind : (n.denom e).kind = (n.denom d).kind := by
          have hlarger := (List.mem_filter.mp he).2
          simp only [Bool.and_eq_true, beq_iff_eq] at hlarger
          exact hlarger.1
        rw [← hkind]
        exact (hplanned e).symm
      · exact (hplanned d).trans (Snapshot.planned_disabled hd _)
  · have hplan : w.plan s.limits = w.snap.skimPlan q := by simp only [Work.plan, hjob]
    have hdrawn : s.withdrawn w = w.stopped := by simp only [State.withdrawn, hjob]
    have hkeeps : w.refuses (w.plan s.limits) = false := by simp only [Work.refuses, hjob]
    have hspace : s.spaceAllows w.job (w.plan s.limits) = true ↔
        (w.plan s.limits).coins ≤ s.space .coin ∧ (w.plan s.limits).notes ≤ s.space .note := by
      simp only [State.spaceAllows, hjob, Bool.and_eq_true, decide_eq_true_eq]
    dsimp only
    rw [← hplan, ← hspace]
    have hback : ∀ t : State, t.handBack w.job (w.plan s.limits) = t := fun t => by
      simp only [State.handBack, hjob]
    refine ⟨fun hover => ?_, fun hgo hne => ⟨fun t hfits ht hroom => ?_, fun hfail => ?_⟩⟩
    · by_cases hstop : w.stopped = true
      · rw [exec_attemptCompletion hp hw (State.completeAttempt_withdrawn (hdrawn.trans hstop))]
        simp only [State.completeWithdrawn, hjob]
        rfl
      · rw [exec_attemptCompletion hp hw (State.completeAttempt_empty
          (hdrawn.trans (Bool.not_eq_true _ ▸ hstop)) hkeeps (hover.resolve_left hstop)), hback]
        rfl
    · rw [exec_attemptCompletion hp hw
        (State.completeAttempt_laid (hdrawn.trans hgo) hkeeps hne hfits ht hroom), hback]
      obtain ⟨v, rfl⟩ : ∃ v, t = { s with stores := v } := ⟨_, (State.reserveAll_some ht).1⟩
      simp only [State.layDown, hjob]
      rfl
    · have hnone : (if s.spaceAllows w.job (w.plan s.limits) then s.reserveAll (w.plan s.limits).strokes
          else none) = none := by
        split
        · exact hfail.resolve_left (not_not.mpr ‹_›)
        · rfl
      have hrun := State.completeAttempt_failed (hdrawn.trans hgo) hkeeps hne hnone
      refine ⟨fun hlt => ?_, fun hle => ?_⟩
      · rw [exec_attemptCompletion hp hw hrun, State.recompute_anew hlt]
      · rw [exec_attemptCompletion hp hw hrun, State.recompute_last hle]
        simp only [State.handStockChanged, hjob]
        rfl

end Sys2Proof
end

section
/-! SUPPORT. Byte layouts: a payload laid out as fields of given widths and numbers holds each number at the
offset the widths before it give (R176). -/

namespace Sys2Proof.Machine

/-! ### The number of some bytes -/

theorem numberOf_foldl (bs : List Byte) (n : Nat) :
    bs.foldl (fun n b => n * 256 + b.toNat) n = n * 256 ^ bs.length + numberOf bs := by
  unfold numberOf
  induction bs generalizing n with
  | nil => simp
  | cons b bs ih =>
    rw [List.foldl_cons, List.foldl_cons, ih, ih (0 * 256 + b.toNat), List.length_cons]
    ring

theorem numberOf_cons (b : Byte) (bs : List Byte) :
    numberOf (b :: bs) = b.toNat * 256 ^ bs.length + numberOf bs := by
  conv_lhs => unfold numberOf
  rw [List.foldl_cons, numberOf_foldl, Nat.zero_mul, Nat.zero_add]

theorem numberOf_lt (bs : List Byte) : numberOf bs < 256 ^ bs.length := by
  induction bs with
  | nil => exact Nat.one_pos
  | cons b bs ih =>
    have hb : (b.toNat + 1) * 256 ^ bs.length ≤ 256 * 256 ^ bs.length :=
      Nat.mul_le_mul_right _ (Nat.succ_le_of_lt b.isLt)
    rw [numberOf_cons, List.length_cons, pow_succ]
    linarith

theorem bigEndian_length (w n : Nat) : (bigEndian w n).length = w := by
  induction w with
  | zero => rfl
  | succ w ih => rw [bigEndian, List.length_cons, ih]

theorem numberOf_bigEndian_mod (w n : Nat) : numberOf (bigEndian w n) = n % 256 ^ w := by
  induction w with
  | zero => rw [pow_zero, Nat.mod_one]; rfl
  | succ w ih =>
    rw [bigEndian, numberOf_cons, ih, bigEndian_length, BitVec.toNat_ofNat, pow_succ 256 w, Nat.mod_mul]
    norm_num [mul_comm, add_comm]

theorem field_length (w n : Nat) : (field w n).length = w := by
  unfold field
  split
  · exact bigEndian_length w n
  · rw [List.length_map, List.length_range]

theorem numberOf_field {w n : Nat} (h : n < 256 ^ w) : numberOf (field w n) = n := by
  rw [field, if_pos h, numberOf_bigEndian_mod, Nat.mod_eq_of_lt h]

theorem signedField_length (w : Nat) (n : Int) : (signedField w n).length = w := by
  unfold signedField
  by_cases hn : 0 ≤ n
  · rw [if_pos hn, apply_ite List.length, bigEndian_length, List.length_map, List.length_range, ite_self]
  · rw [if_neg hn, apply_ite List.length, bigEndian_length, List.length_map, List.length_range, ite_self]

/-! ### Layouts -/

/-- Some bytes are fields one behind the other: each is given by its width and its number, which it holds where
the number fits. -/
inductive LaidOut : List Byte → List (Nat × Nat) → Prop
  | nil : LaidOut [] []
  | cons {seg rest : List Byte} {w n : Nat} {fs : List (Nat × Nat)} (hlen : seg.length = w)
      (hnum : n < 256 ^ w → numberOf seg = n) (hrest : LaidOut rest fs) :
      LaidOut (seg ++ rest) ((w, n) :: fs)

/-- The fields of a layout with their offsets, the first at `first` from the base. -/
def placed (base : Nat) : Nat → List (Nat × Nat) → List (Nat × Nat × Nat)
  | _, [] => []
  | first, (w, n) :: fs => (first + base, w, n) :: placed base (first + w) fs

namespace LaidOut

theorem single {seg : List Byte} {w n : Nat} (hlen : seg.length = w)
    (hnum : n < 256 ^ w → numberOf seg = n) : LaidOut seg [(w, n)] := by
  simpa using cons hlen hnum nil

theorem field (w n : Nat) : LaidOut (field w n) [(w, n)] := single (field_length w n) numberOf_field

theorem word (x : Word16) : LaidOut (bigEndian 2 x.toNat) [(2, x.toNat)] :=
  single (bigEndian_length 2 _) fun h => by rw [numberOf_bigEndian_mod, Nat.mod_eq_of_lt h]

/-- Any bytes are one field of the number they make. -/
theorem whole {seg : List Byte} {w : Nat} (hlen : seg.length = w) : LaidOut seg [(w, numberOf seg)] :=
  single hlen fun _ => rfl

theorem byte_cons {b : Byte} {n : Nat} {rest : List Byte} {fs : List (Nat × Nat)} (hb : b.toNat = n)
    (h : LaidOut rest fs) : LaidOut (b :: rest) ((1, n) :: fs) :=
  cons (seg := [b]) rfl (fun _ => by rw [← hb]; exact Nat.zero_add _) h

theorem byte {b : Byte} {n : Nat} (hb : b.toNat = n) : LaidOut [b] [(1, n)] := byte_cons hb nil

theorem append {bs cs : List Byte} {fs gs : List (Nat × Nat)} (h : LaidOut bs fs)
    (h' : LaidOut cs gs) : LaidOut (bs ++ cs) (fs ++ gs) := by
  induction h with
  | nil => exact h'
  | cons hlen hnum _ ih =>
    rw [List.append_assoc]
    exact cons hlen hnum ih

theorem length {bs : List Byte} {fs : List (Nat × Nat)} (h : LaidOut bs fs) :
    bs.length = (fs.map Prod.fst).sum := by
  induction h with
  | nil => rfl
  | cons hlen _ _ ih => rw [List.length_append, ih, hlen, List.map_cons, List.sum_cons]

/-- A layout inside a payload holds each of its fields at its offset. -/
theorem holdsAt_inside {bs post : List Byte} {fs : List (Nat × Nat)} (h : LaidOut bs fs)
    (pre : List Byte) (first base : Nat) (hpre : pre.length = first + base) :
    holdsAt (pre ++ bs ++ post) (placed base first fs) := by
  induction h generalizing pre first with
  | nil => exact fun f hf => absurd hf List.not_mem_nil
  | @cons seg rest w n fs hlen hnum _ ih =>
    intro f hf hfit
    rcases List.mem_cons.mp hf with rfl | hf
    · rw [numberAt, ← hpre, List.append_assoc, List.append_assoc, List.drop_left, ← hlen,
        List.take_left]
      exact hnum hfit
    · have hinner := ih (pre ++ seg) (first + w) (by rw [List.length_append]; omega)
      rw [List.append_assoc pre seg rest] at hinner
      exact hinner f hf hfit

/-- A layout at the front of a payload. -/
theorem holdsAt_front {bs : List Byte} {fs : List (Nat × Nat)} (h : LaidOut bs fs) (post : List Byte) :
    holdsAt (bs ++ post) (placed 0 0 fs) :=
  h.holdsAt_inside [] 0 0 rfl

/-- A whole payload. -/
theorem holdsAt {bs : List Byte} {fs : List (Nat × Nat)} (h : LaidOut bs fs) :
    holdsAt bs (placed 0 0 fs) := by
  simpa using h.holdsAt_front []

end LaidOut

theorem holdsAt_append {bs : List Byte} {fs gs : List (Nat × Nat × Nat)} (hf : holdsAt bs fs)
    (hg : holdsAt bs gs) : holdsAt bs (fs ++ gs) :=
  fun f h => (List.mem_append.mp h).elim (hf f) (hg f)

/-! ### Entries of one length -/

theorem flatten_length_of_entries {len : Nat} {entries : List (List Byte)}
    (h : ∀ e ∈ entries, e.length = len) : entries.flatten.length = len * entries.length := by
  rw [List.length_flatten, List.eq_replicate_of_mem (l := entries.map List.length) (a := len)
    (by simpa using h), List.sum_replicate, List.length_map, smul_eq_mul, mul_comm]

/-- The entry at an index stands behind as many lengths. -/
theorem flatten_split_of_entries {len i : Nat} {e : List Byte} {entries : List (List Byte)}
    (h : ∀ e ∈ entries, e.length = len) (hi : entries[i]? = some e) :
    ∃ before behind, entries.flatten = before ++ e ++ behind ∧ before.length = len * i := by
  obtain ⟨hlt, rfl⟩ := List.getElem?_eq_some_iff.mp hi
  refine ⟨(entries.take i).flatten, (entries.drop (i + 1)).flatten, ?_, ?_⟩
  · conv_lhs => rw [← List.take_append_drop i entries, List.drop_eq_getElem_cons hlt]
    rw [List.flatten_append, List.flatten_cons, List.append_assoc]
  · rw [flatten_length_of_entries fun e he => h e (List.mem_of_mem_take he), List.length_take,
      min_eq_left hlt.le]

/-- Entries of one layout between a head and a tail: each holds its fields at its offset. -/
theorem holdsAt_entry {α : Type} {xs : List α} {entry : α → List Byte} {fields : α → List (Nat × Nat)}
    {len first i : Nat} {x : α} {head tail : List Byte} (hentry : ∀ x, LaidOut (entry x) (fields x))
    (hlen : ∀ x, (entry x).length = len) (hhead : head.length = first) (hi : xs[i]? = some x) :
    holdsAt (head ++ (xs.map entry).flatten ++ tail) (placed (len * i) first (fields x)) := by
  obtain ⟨before, behind, hsplit, hbefore⟩ :=
    flatten_split_of_entries (entries := xs.map entry) (i := i) (e := entry x)
      (by simpa using fun x _ => hlen x) (by rw [List.getElem?_map, hi]; rfl)
  rw [hsplit, ← List.append_assoc, ← List.append_assoc, List.append_assoc _ behind]
  exact (hentry x).holdsAt_inside (head ++ before) first (len * i)
    (by rw [List.length_append, hhead, hbefore])

/-- Entries of one layout behind a head, nothing behind them. -/
theorem holdsAt_last_entry {α : Type} {xs : List α} {entry : α → List Byte}
    {fields : α → List (Nat × Nat)} {len first i : Nat} {x : α} {head : List Byte}
    (hentry : ∀ x, LaidOut (entry x) (fields x)) (hlen : ∀ x, (entry x).length = len)
    (hhead : head.length = first) (hi : xs[i]? = some x) :
    holdsAt (head ++ (xs.map entry).flatten) (placed (len * i) first (fields x)) := by
  simpa using holdsAt_entry (tail := []) hentry hlen hhead hi

theorem length_entries {α : Type} {entry : α → List Byte} {len : Nat}
    (hlen : ∀ x, (entry x).length = len) (xs : List α) :
    (xs.map entry).flatten.length = len * xs.length := by
  rw [flatten_length_of_entries (len := len) (by simpa using fun x _ => hlen x), List.length_map]

/-! ### Signed fields -/

theorem numberOf_signedField_nonneg {w : Nat} {n : Int} (hn : 0 ≤ n) (hfit : n.toNat < 256 ^ w / 2) :
    numberOf (signedField w n) = n.toNat := by
  rw [signedField, if_pos hn, if_pos hfit, numberOf_bigEndian_mod, Nat.mod_eq_of_lt (by omega)]

theorem numberOf_signedField_neg {w : Nat} {n : Int} (hn : n < 0) (hfit : (-n).toNat ≤ 256 ^ w / 2) :
    numberOf (signedField w n) = 256 ^ w - (-n).toNat := by
  rw [signedField, if_neg (by omega), if_pos hfit, numberOf_bigEndian_mod,
    Nat.mod_eq_of_lt (by omega)]

/-- A signed field behind some bytes reads as its number where it fits. -/
theorem signedAt_signedField (pre post : List Byte) {offset w : Nat} {n : Int}
    (hpre : pre.length = offset)
    (hfit : n.natAbs < 256 ^ w / 2) :
    signedAt (pre ++ signedField w n ++ post) offset w = n := by
  have hat : numberAt (pre ++ signedField w n ++ post) offset w = numberOf (signedField w n) := by
    rw [numberAt, ← hpre, List.append_assoc, List.drop_left, List.take_left' (signedField_length w n)]
  unfold signedAt
  dsimp only
  rw [hat]
  by_cases hn : 0 ≤ n
  · rw [numberOf_signedField_nonneg hn (by omega), if_pos (by omega), Int.toNat_of_nonneg hn]
  · rw [numberOf_signedField_neg (by omega) (by omega), if_neg (by omega)]
    omega

end Sys2Proof.Machine
end

section
/-! PROOF. The records the link returns hold each field at its offset (O35, R178–R182). -/

namespace Sys2Proof.Machine

/-! ### The number of one byte -/

theorem flagByte_toNat (b : Bool) : (flagByte b).toNat = b.toNat := by cases b <;> rfl

theorem twoFlags_toNat (a b : Bool) : (twoFlags a b).toNat = a.toNat + 2 * b.toNat := by
  cases a <;> cases b <;> rfl

theorem ofNat_toNat_of_lt {n : Nat} (h : n < 256) : (BitVec.ofNat 8 n).toNat = n := by
  rw [BitVec.toNat_ofNat, Nat.mod_eq_of_lt h]

theorem indexByte_toNat (d : Fin 12) : (indexByte d).toNat = d.val := ofNat_toNat_of_lt (by omega)

theorem slot_toNat (k : SlotId) : (BitVec.ofNat 8 k.val).toNat = k.val := ofNat_toNat_of_lt (by omega)

theorem denomByte_toNat (x : Option Denom) :
    (denomByte x).toNat = match x with | some d => d.val | none => 0xFF := by
  cases x with
  | none => rfl
  | some d => exact indexByte_toNat d

theorem boxIndex_toNat (k : Kind) : (boxIndex k).toNat = 12 + k.code.toNat := by cases k <;> rfl

theorem headroom_eq (k : Kind) : Config.headroom k = if k = .coin then 0 else 30 := by cases k <;> rfl

/-! ### The sale -/

theorem Sale.laidOut_tenderBytes (x : Sale) : LaidOut x.tenderBytes
    [(1, x.state.code.toNat), (2, x.sequence.toNat), (2, x.due), (3, x.tendered),
      (1, x.autoSettle.toNat + 2 * x.acceptShort.toNat), (1, x.targetKind.code.toNat),
      (3, x.target), (3, x.paid), (3, x.overpay), (3, x.shortfall), (3, x.owed),
      (1, x.coinsCommitted), (1, x.notesCommitted), (1, x.lastResult.code.toNat)] :=
  (LaidOut.byte rfl).append (.word _) |>.append (.field 2 _) |>.append (.field 3 _)
    |>.append (.byte_cons (twoFlags_toNat _ _) (.byte rfl)) |>.append (.field 3 _)
    |>.append (.field 3 _) |>.append (.field 3 _) |>.append (.field 3 _) |>.append (.field 3 _)
    |>.append (.field 1 _) |>.append (.field 1 _) |>.append (.byte rfl)

/-- The head of a completion record. -/
def Completion.headBytes (c : Completion) (l : Lane) : List Byte :=
  [l.code] ++ bigEndian 2 c.sequence.toNat ++ [c.outcome.code] ++ field 2 c.due ++
    field 3 c.tendered ++ field 3 c.target ++ field 3 c.paid ++ field 3 c.overpay ++
    field 3 c.shortfall ++ field 1 c.pieces.length

/-- The fields of a denomination and a number of pieces of it. -/
def piecesFields (d : Denom) (n : Nat) : List (Nat × Nat) := [(1, d.val), (2, n)]

theorem laidOut_pieces (d : Denom) (n : Nat) :
    LaidOut (indexByte d :: field 2 n) (piecesFields d n) :=
  .byte_cons (indexByte_toNat d) (.field 2 n)

theorem pieces_length (d : Denom) (n : Nat) : (indexByte d :: field 2 n).length = 3 :=
  (laidOut_pieces d n).length

theorem Completion.laidOut_headBytes (x : Completion) (l : Lane) : LaidOut (x.headBytes l)
    [(1, l.code.toNat), (2, x.sequence.toNat), (1, x.outcome.code.toNat), (2, x.due),
      (3, x.tendered), (3, x.target), (3, x.paid), (3, x.overpay), (3, x.shortfall),
      (1, x.pieces.length)] :=
  (LaidOut.byte rfl).append (.word _) |>.append (.byte rfl) |>.append (.field 2 _)
    |>.append (.field 3 _) |>.append (.field 3 _) |>.append (.field 3 _) |>.append (.field 3 _)
    |>.append (.field 3 _) |>.append (.field 1 _)

theorem Completion.bytes_eq (x : Completion) (l : Lane) : x.bytes l = x.headBytes l ++
    (x.pieces.map (fun e => indexByte e.1 :: field 2 e.2)).flatten := rfl

theorem Completion.bytes_length (x : Completion) (l : Lane) :
    (x.bytes l).length = 22 + 3 * x.pieces.length := by
  rw [x.bytes_eq, List.length_append, (x.laidOut_headBytes l).length,
    length_entries fun e : Denom × Nat => pieces_length e.1 e.2]
  rfl

theorem Completion.holdsAt_piece (x : Completion) (l : Lane) {i : Nat} {e : Denom × Nat}
    (hi : x.pieces[i]? = some e) :
    holdsAt (x.bytes l) (placed (3 * i) 22 (piecesFields e.1 e.2)) :=
  holdsAt_last_entry (fun e : Denom × Nat => laidOut_pieces e.1 e.2) (fun e => pieces_length e.1 e.2)
    (x.laidOut_headBytes l).length hi

/-! ### Stock -/

/-- The store is usable for a denomination: it is its, enabled, and READY with its PAY role on (R7). -/
def State.usableFor (s : State) (d : Denom) (k : StoreId) : Bool :=
  (s.store k).denom == some d && (s.denom d).enabled && (s.store k).state == .ready && (s.store k).pay

theorem State.usableFor_eq (s : State) {d : Denom} (hd : s.used d = true) (k : StoreId) :
    (s.holds k d && s.usable k) = s.usableFor d k := by
  unfold State.holds State.usable State.usableFor
  by_cases hk : (s.store k).denom = some d
  · simp only [hk, State.enabled, hd, beq_self_eq_true, Bool.true_and]
    rw [Bool.and_comm, Bool.and_assoc]
  · simp only [beq_false_of_ne hk, Bool.false_and]

theorem State.freeStock_eq (s : State) {d : Denom} (hd : s.used d = true) :
    s.freeStock d = ((allStores.filter (s.usableFor d)).map (fun k => (s.store k).free)).sum := by
  unfold State.freeStock
  rw [List.filter_congr fun k _ => s.usableFor_eq hd k]

/-- The fields of one used denomination in READ STOCK. -/
def State.stockFields (s : State) (d : Denom) : List (Nat × Nat) :=
  [(1, d.val), (2, s.value d), (1, (s.denom d).kind.code.toNat), (1, (s.denom d).enabled.toNat),
    (2, s.freeStock d), (1, (s.atLow d).toNat)]

theorem State.laidOut_stockEntry (s : State) (d : Denom) :
    LaidOut (s.stockEntry d) (s.stockFields d) :=
  (LaidOut.byte (indexByte_toNat d)).append (.field 2 _)
    |>.append (.byte_cons rfl (.byte (flagByte_toNat _))) |>.append (.field 2 _)
    |>.append (.byte (flagByte_toNat _))

theorem State.stockEntry_length (s : State) (d : Denom) : (s.stockEntry d).length = 8 :=
  (s.laidOut_stockEntry d).length

theorem State.stockBytes_length (s : State) :
    s.stockBytes.length = 1 + 8 * (allDenoms.filter s.used).length := by
  unfold State.stockBytes
  rw [List.length_append, field_length, length_entries s.stockEntry_length]

theorem State.holdsAt_stockEntry (s : State) {i : Nat} {d : Denom}
    (hi : (allDenoms.filter s.used)[i]? = some d) :
    holdsAt s.stockBytes (placed (8 * i) 1 (s.stockFields d)) :=
  holdsAt_last_entry s.laidOut_stockEntry s.stockEntry_length (field_length 1 _) hi

/-! ### Plans -/

/-- The slot of the record behind a record, or END. -/
def nextSlot : Option Stroke → Nat
  | some r => r.slot.val
  | none => 0xFF

theorem nextByte_toNat (rs : List Stroke) : (nextByte rs).toNat = nextSlot rs[0]? := by
  cases rs with
  | nil => rfl
  | cons r rs => exact slot_toNat r.slot

/-- The fields of a stroke record. -/
def Stroke.fields (r : Stroke) (next : Nat) : List (Nat × Nat) :=
  [(1, r.slot.val), (1, r.owner.code.toNat), (1, r.path.code.toNat), (1, r.store.val),
    (2, r.count), (2, r.delivered), (1, r.dest.code.toNat), (1, r.origin.code.toNat),
    (1, r.state.code.toNat), (1, next)]

theorem Stroke.laidOut_bytes (r : Stroke) (behind : List Stroke) :
    LaidOut (r.bytes behind) (r.fields (nextSlot behind[0]?)) :=
  (LaidOut.byte_cons (slot_toNat _) (.byte_cons rfl (.byte_cons rfl (.byte (indexByte_toNat _)))))
    |>.append (.field 2 _) |>.append (.field 2 _)
    |>.append (.byte_cons rfl (.byte_cons rfl (.byte_cons rfl (.byte (nextByte_toNat _)))))

theorem chainBytes_length (rs : List Stroke) : (chainBytes rs).length = 12 * rs.length := by
  induction rs with
  | nil => rfl
  | cons r rs ih =>
    rw [chainBytes, List.length_append, (r.laidOut_bytes rs).length, ih, List.length_cons]
    change 12 + _ = _
    ring

theorem chainBytes_split {rs : List Stroke} {i : Nat} {r : Stroke} (hi : rs[i]? = some r) :
    ∃ before behind, chainBytes rs = before ++ r.bytes (rs.drop (i + 1)) ++ behind ∧
      before.length = 12 * i := by
  induction rs generalizing i with
  | nil => exact absurd hi (by simp)
  | cons a rs ih =>
    cases i with
    | zero =>
      obtain rfl : a = r := by simpa using hi
      exact ⟨[], chainBytes rs, rfl, rfl⟩
    | succ i =>
      obtain ⟨before, behind, hsplit, hbefore⟩ := ih (i := i) (by simpa using hi)
      refine ⟨a.bytes rs ++ before, behind, ?_, ?_⟩
      · rw [chainBytes, hsplit, List.append_assoc, List.append_assoc, List.append_assoc]
        rfl
      · rw [List.length_append, (a.laidOut_bytes rs).length, hbefore]
        change 12 + _ = _
        ring

/-- The head of a chain section. -/
def State.sectionHead (s : State) (o : Owner) (k : Kind) : List Byte :=
  field 2 (s.tally o k).done ++ field 2 (s.tally o k).cutShort ++ field 2 (s.tally o k).dropped ++
    field 2 (s.tally o k).delivered ++ field 1 (s.pool.chain o k).length

theorem State.laidOut_sectionHead (s : State) (o : Owner) (k : Kind) : LaidOut (s.sectionHead o k)
    [(2, (s.tally o k).done), (2, (s.tally o k).cutShort), (2, (s.tally o k).dropped),
      (2, (s.tally o k).delivered), (1, (s.pool.chain o k).length)] :=
  (LaidOut.field 2 _).append (.field 2 _) |>.append (.field 2 _) |>.append (.field 2 _)
    |>.append (.field 1 _)

theorem State.sectionBytes_eq (s : State) (o : Owner) (k : Kind) :
    s.sectionBytes o k = s.sectionHead o k ++ chainBytes (s.pool.chain o k) := rfl

theorem State.sectionBytes_length (s : State) (o : Owner) (k : Kind) :
    (s.sectionBytes o k).length = 9 + 12 * (s.pool.chain o k).length := by
  rw [s.sectionBytes_eq, List.length_append, (s.laidOut_sectionHead o k).length, chainBytes_length]
  rfl

theorem State.holdsAt_stroke (s : State) (o : Owner) (k : Kind) {i : Nat} {r : Stroke}
    (hi : (s.pool.chain o k)[i]? = some r) :
    holdsAt (s.sectionBytes o k)
      (placed (12 * i) 9 (r.fields (nextSlot (s.pool.chain o k)[i + 1]?))) := by
  obtain ⟨before, behind, hsplit, hbefore⟩ := chainBytes_split hi
  have hnext : ((s.pool.chain o k).drop (i + 1))[0]? = (s.pool.chain o k)[i + 1]? := by
    rw [List.getElem?_drop, Nat.add_zero]
  rw [s.sectionBytes_eq, hsplit, ← List.append_assoc, ← List.append_assoc, ← hnext]
  exact (r.laidOut_bytes _).holdsAt_inside (s.sectionHead o k ++ before) 9 (12 * i)
    (by rw [List.length_append, (s.laidOut_sectionHead o k).length, hbefore]; rfl)

/-! ### Stores and cashboxes -/

theorem State.laidOut_storeBytes (s : State) (k : StoreId) : LaidOut (s.storeBytes k)
    [(1, k.val), (1, match (s.store k).denom with | some d => d.val | none => 0xFF),
      (2, (s.store k).capacity), (2, (s.store k).physical), (2, (s.store k).reserved),
      (2, (s.store k).free), (1, (s.store k).state.code.toNat),
      (1, (s.store k).pay.toNat + 2 * (s.store k).fill.toNat), (1, (s.store k).fills.length),
      (1, (s.store k).inFlight.toNat)] :=
  (LaidOut.byte_cons (indexByte_toNat k) (.byte (denomByte_toNat _))).append (.field 2 _)
    |>.append (.field 2 _) |>.append (.field 2 _) |>.append (.field 2 _)
    |>.append (.byte_cons rfl (.byte (twoFlags_toNat _ _))) |>.append (.field 1 _)
    |>.append (.byte (flagByte_toNat _))

/-- The denominations a cashbox record lists. -/
def State.listedIn (s : State) (k : Kind) : List Denom :=
  allDenoms.filter (fun d => s.used d && (s.denom d).kind == k)

/-- The head of a cashbox record. -/
def State.boxHead (s : State) (k : Kind) : List Byte :=
  [boxIndex k, flagByte (s.box k).present] ++ field 2 (s.box k).capacity ++
    field 2 (s.box k).count ++ field 2 (s.box k).promised ++ field 2 (s.space k) ++
    [(s.box k).stage.code] ++ field 1 (Config.headroom k) ++ field 1 (s.listedIn k).length

theorem State.laidOut_boxHead (s : State) (k : Kind) : LaidOut (s.boxHead k)
    [(1, 12 + k.code.toNat), (1, (s.box k).present.toNat), (2, (s.box k).capacity),
      (2, (s.box k).count), (2, (s.box k).promised), (2, s.space k),
      (1, (s.box k).stage.code.toNat), (1, if k = .coin then 0 else 30),
      (1, (s.listedIn k).length)] := by
  rw [← headroom_eq]
  exact (LaidOut.byte_cons (boxIndex_toNat k) (.byte (flagByte_toNat _))).append (.field 2 _)
    |>.append (.field 2 _) |>.append (.field 2 _) |>.append (.field 2 _) |>.append (.byte rfl)
    |>.append (.field 1 _) |>.append (.field 1 _)

theorem State.boxBytes_eq (s : State) (k : Kind) : s.boxBytes k = s.boxHead k ++
    ((s.listedIn k).map (fun d => indexByte d :: field 2 ((s.box k).countOf d))).flatten := rfl

theorem State.boxBytes_length (s : State) (k : Kind) :
    (s.boxBytes k).length = 13 + 3 * (s.listedIn k).length := by
  rw [s.boxBytes_eq, List.length_append, (s.laidOut_boxHead k).length,
    length_entries fun d => pieces_length d _]
  rfl

theorem State.holdsAt_boxCount (s : State) (k : Kind) {i : Nat} {d : Denom}
    (hi : (s.listedIn k)[i]? = some d) :
    holdsAt (s.boxBytes k) (placed (3 * i) 13 (piecesFields d ((s.box k).countOf d))) :=
  holdsAt_last_entry (fun d => laidOut_pieces d ((s.box k).countOf d))
    (fun d => pieces_length d _) (s.laidOut_boxHead k).length hi

/-! ### Profiles and limits -/

/-- The fields of three marks. -/
def Marks.fields (m : Marks) : List (Nat × Nat) := [(2, m.low), (2, m.target), (2, m.high)]

theorem Marks.laidOut_bytes (m : Marks) : LaidOut m.bytes m.fields :=
  (LaidOut.field 2 _).append (.field 2 _) |>.append (.field 2 _)

theorem Marks.bytes_length (m : Marks) : m.bytes.length = 6 := m.laidOut_bytes.length

theorem profileBytes_eq (armed : Bool) (m : Vector Marks 12) :
    profileBytes armed m = [flagByte armed] ++ (allDenoms.map (fun d => m[d].bytes)).flatten := rfl

theorem profileBytes_length (armed : Bool) (m : Vector Marks 12) :
    (profileBytes armed m).length = 73 := by
  rw [profileBytes_eq, List.length_append, length_entries fun d => m[d].bytes_length]
  rfl

theorem allDenoms_getElem? (d : Denom) : allDenoms[d.val]? = some d := by revert d; decide

theorem holdsAt_profileBytes (armed : Bool) (m : Vector Marks 12) (d : Denom) :
    holdsAt (profileBytes armed m) (placed (6 * d.val) 1 m[d].fields) := by
  rw [profileBytes_eq]
  exact holdsAt_last_entry (fun d : Denom => m[d].laidOut_bytes) (fun d => m[d].bytes_length) rfl
    (allDenoms_getElem? d)

theorem State.laidOut_limitBytes (s : State) : LaidOut s.limitBytes
    [(1, s.limits.coinLimit), (1, s.limits.noteLimit), (1, s.limits.roundingUnit),
      (2, s.limits.presentTimeout), (2, (s.box .coin).capacity), (2, (s.box .note).capacity)] :=
  (LaidOut.field 1 _).append (.field 1 _) |>.append (.field 1 _) |>.append (.field 2 _)
    |>.append (.field 2 _) |>.append (.field 2 _)

end Sys2Proof.Machine
end

section
/-! PROOF. The shift line and the notices on the link hold each field at its offset (O35, R151, R152, R163,
R182). -/

namespace Sys2Proof.Machine

/-! ### Shift totals -/

/-- The eight unsigned counters in the order of the record. -/
def Counters.unsigned (c : Counters) : List Nat :=
  [c.accepted, c.loaded, c.paid, c.retracted, c.skimmed, c.emptied, c.removed, c.unplaced]

/-- The head of a shift line. -/
def ShiftLine.headBytes (x : ShiftLine) (record : Byte) (d : Denom) (inexact : Bool)
    (shift : Word16) : List Byte :=
  [record, indexByte d, flagByte inexact] ++ bigEndian 2 shift.toNat ++ field 2 x.value ++
    field 3 x.opening ++ field 3 x.holdings

/-- The eight counters of a shift line. -/
def Counters.countBytes (c : Counters) : List Byte := (c.unsigned.map (field 4)).flatten

/-- The values of the eight counters of a shift line. -/
def Counters.moneyBytes (c : Counters) (v : Nat) : List Byte :=
  (c.unsigned.map fun n => field 6 (n * v)).flatten

theorem Counters.countBytes_length (c : Counters) : c.countBytes.length = 32 :=
  length_entries (field_length 4) c.unsigned

theorem Counters.moneyBytes_length (c : Counters) (v : Nat) : (c.moneyBytes v).length = 48 :=
  length_entries (fun n => field_length 6 (n * v)) c.unsigned

section
variable (x : ShiftLine) (r : Byte) (d : Denom) (inexact : Bool) (shift : Word16)

theorem ShiftLine.bytes_eq : x.bytes r d inexact shift =
    x.headBytes r d inexact shift ++ (x.counters.countBytes ++ (signedField 4 x.counters.adjusted ++
      (x.counters.moneyBytes x.value ++ (signedField 6 (x.counters.adjusted * x.value) ++
        (field 6 (x.holdings * x.value) ++ signedField 6 x.imbalance))))) := by
  simp only [ShiftLine.bytes, ShiftLine.headBytes, Counters.bytes, Counters.valueBytes,
    Counters.countBytes, Counters.moneyBytes, Counters.unsigned, List.map_cons, List.map_nil,
    List.flatten_cons, List.flatten_nil, List.append_assoc, List.append_nil]

theorem ShiftLine.laidOut_headBytes : LaidOut (x.headBytes r d inexact shift)
    [(1, r.toNat), (1, d.val), (1, inexact.toNat), (2, shift.toNat), (2, x.value), (3, x.opening),
      (3, x.holdings)] :=
  (LaidOut.byte_cons rfl (.byte_cons (indexByte_toNat d) (.byte (flagByte_toNat _))))
    |>.append (.word _) |>.append (.field 2 _) |>.append (.field 3 _) |>.append (.field 3 _)

theorem ShiftLine.headBytes_length : (x.headBytes r d inexact shift).length = 13 :=
  (x.laidOut_headBytes r d inexact shift).length

theorem ShiftLine.bytes_length : (x.bytes r d inexact shift).length = 115 := by
  simp only [x.bytes_eq, List.length_append, x.headBytes_length, Counters.countBytes_length,
    Counters.moneyBytes_length, signedField_length, field_length]

theorem ShiftLine.holdsAt_bytes : holdsAt (x.bytes r d inexact shift)
    [(0, 1, r.toNat), (1, 1, d.val), (2, 1, inexact.toNat), (3, 2, shift.toNat), (5, 2, x.value),
      (7, 3, x.opening), (10, 3, x.holdings), (103, 6, x.holdings * x.value)] := by
  have hhead := (x.laidOut_headBytes r d inexact shift).holdsAt_front
    (x.counters.countBytes ++ (signedField 4 x.counters.adjusted ++
      (x.counters.moneyBytes x.value ++ (signedField 6 (x.counters.adjusted * x.value) ++
        (field 6 (x.holdings * x.value) ++ signedField 6 x.imbalance)))))
  have hvalue := (LaidOut.field 6 (x.holdings * x.value)).holdsAt_inside
    (post := signedField 6 x.imbalance)
    (x.headBytes r d inexact shift ++ (x.counters.countBytes ++ (signedField 4 x.counters.adjusted ++
      (x.counters.moneyBytes x.value ++ signedField 6 (x.counters.adjusted * x.value))))) 103 0
    (by simp only [List.length_append, x.headBytes_length, Counters.countBytes_length,
      Counters.moneyBytes_length, signedField_length])
  simp only [List.append_assoc] at hvalue
  rw [x.bytes_eq]
  exact holdsAt_append hhead hvalue

theorem ShiftLine.holdsAt_counter {i n : Nat} (hi : x.counters.unsigned[i]? = some n) :
    holdsAt (x.bytes r d inexact shift) [(13 + 4 * i, 4, n), (49 + 6 * i, 6, n * x.value)] := by
  have hcount := holdsAt_entry (tail := signedField 4 x.counters.adjusted ++
      (x.counters.moneyBytes x.value ++ (signedField 6 (x.counters.adjusted * x.value) ++
        (field 6 (x.holdings * x.value) ++ signedField 6 x.imbalance))))
    (LaidOut.field 4) (field_length 4) (x.headBytes_length r d inexact shift) hi
  have hvalue := holdsAt_entry (tail := signedField 6 (x.counters.adjusted * x.value) ++
        (field 6 (x.holdings * x.value) ++ signedField 6 x.imbalance))
    (head := x.headBytes r d inexact shift ++ (x.counters.countBytes ++
      signedField 4 x.counters.adjusted)) (first := 49)
    (fun n => LaidOut.field 6 (n * x.value)) (fun n => field_length 6 (n * x.value))
    (by simp only [List.length_append, x.headBytes_length, Counters.countBytes_length,
      signedField_length]) hi
  simp only [List.append_assoc] at hcount hvalue
  rw [x.bytes_eq]
  exact holdsAt_append hcount hvalue

theorem ShiftLine.signedAt_adjusted (h : x.counters.adjusted.natAbs < 2 ^ 31) :
    signedAt (x.bytes r d inexact shift) 45 4 = x.counters.adjusted := by
  have hat := signedAt_signedField (x.headBytes r d inexact shift ++ x.counters.countBytes)
    (x.counters.moneyBytes x.value ++ (signedField 6 (x.counters.adjusted * x.value) ++
      (field 6 (x.holdings * x.value) ++ signedField 6 x.imbalance))) (offset := 45) (w := 4)
    (by rw [List.length_append, x.headBytes_length, Counters.countBytes_length]) h
  simp only [List.append_assoc] at hat
  rw [x.bytes_eq]
  exact hat

theorem ShiftLine.signedAt_adjustedValue (h : (x.counters.adjusted * x.value).natAbs < 2 ^ 47) :
    signedAt (x.bytes r d inexact shift) 97 6 = x.counters.adjusted * x.value := by
  have hat := signedAt_signedField (x.headBytes r d inexact shift ++ (x.counters.countBytes ++
      (signedField 4 x.counters.adjusted ++ x.counters.moneyBytes x.value)))
    (field 6 (x.holdings * x.value) ++ signedField 6 x.imbalance) (offset := 97) (w := 6)
    (by simp only [List.length_append, x.headBytes_length, Counters.countBytes_length,
      Counters.moneyBytes_length, signedField_length]) h
  simp only [List.append_assoc] at hat
  rw [x.bytes_eq]
  exact hat

theorem ShiftLine.signedAt_imbalance (h : x.imbalance.natAbs < 2 ^ 47) :
    signedAt (x.bytes r d inexact shift) 109 6 = x.imbalance := by
  have hat := signedAt_signedField (x.headBytes r d inexact shift ++ (x.counters.countBytes ++
      (signedField 4 x.counters.adjusted ++ (x.counters.moneyBytes x.value ++
        (signedField 6 (x.counters.adjusted * x.value) ++ field 6 (x.holdings * x.value))))))
    [] (offset := 109) (w := 6)
    (by simp only [List.length_append, x.headBytes_length, Counters.countBytes_length,
      Counters.moneyBytes_length, signedField_length, field_length]) h
  simp only [List.append_assoc, List.append_nil] at hat
  rw [x.bytes_eq]
  exact hat

end

/-! ### Notices -/

theorem bitsOf_lt (bs : List Bool) : bitsOf bs < 2 ^ bs.length := by
  induction bs with
  | nil => exact Nat.one_pos
  | cons b bs ih =>
    rw [bitsOf, List.length_cons, pow_succ]
    split <;> omega

theorem bitsOf_testBit {bs : List Bool} {i : Nat} {b : Bool} (h : bs[i]? = some b) :
    (bitsOf bs).testBit i = b := by
  induction bs generalizing i with
  | nil => exact absurd h (by simp)
  | cons a bs ih =>
    cases i with
    | zero =>
      obtain rfl : a = b := by simpa using h
      cases a <;> simp [bitsOf, Nat.testBit_zero]
    | succ i =>
      have hhalf : bitsOf (a :: bs) / 2 = bitsOf bs := by
        rw [bitsOf]
        split <;> omega
      rw [Nat.testBit_succ, hhalf]
      exact ih (by simpa using h)

/-- The notices of a port on the link: those set in the order of the port, the enables, the line (R163). -/
def noticeBytes {α : Type} (order : List α) (code : α → Byte) (flags enables : α → Bool)
    (line : Bool) : List Byte :=
  field 1 (order.filter flags).length ++ (order.filter flags).map code ++
    field 1 (bitsOf (order.map enables)) ++ [flagByte line]

section
variable {α : Type} (order : List α) (code : α → Byte) (flags enables : α → Bool) (line : Bool)

theorem noticeBytes_length :
    (noticeBytes order code flags enables line).length = (order.filter flags).length + 3 := by
  simp only [noticeBytes, List.length_append, field_length, List.length_map, List.length_cons,
    List.length_nil]
  omega

theorem noticeBytes_codes :
    ((noticeBytes order code flags enables line).drop 1).take (order.filter flags).length =
      (order.filter flags).map code := by
  rw [noticeBytes, List.append_assoc, List.append_assoc,
    List.drop_left' (field_length 1 (order.filter flags).length), List.take_left' (List.length_map code)]

/-- The enables and the line stand behind the codes. -/
theorem noticeBytes_tail : holdsAt (noticeBytes order code flags enables line)
    [(1 + (order.filter flags).length, 1, bitsOf (order.map enables)),
      (2 + (order.filter flags).length, 1, line.toNat)] := by
  have htail := ((LaidOut.field 1 (bitsOf (order.map enables))).append
    (.byte (flagByte_toNat line))).holdsAt_inside (post := [])
    (field 1 (order.filter flags).length ++ (order.filter flags).map code) 1
    (order.filter flags).length (by rw [List.length_append, field_length, List.length_map])
  rw [List.append_nil, ← List.append_assoc] at htail
  exact htail

theorem noticeBytes_holdsAt : holdsAt (noticeBytes order code flags enables line)
    [(0, 1, (order.filter flags).length), (2 + (order.filter flags).length, 1, line.toNat)] := by
  have hcount := (LaidOut.field 1 (order.filter flags).length).holdsAt_front
    ((order.filter flags).map code ++ (field 1 (bitsOf (order.map enables)) ++ [flagByte line]))
  rw [← List.append_assoc, ← List.append_assoc] at hcount
  intro f hf
  rcases List.mem_cons.mp hf with rfl | hf
  · exact hcount _ (List.mem_singleton.mpr rfl)
  · exact noticeBytes_tail order code flags enables line f (List.mem_cons_of_mem _ hf)

/-- A port of at most eight notices sends one enable in each bit. -/
theorem noticeBytes_testBit (hlen : order.length ≤ 8) {i : Nat} {f : α} (hi : order[i]? = some f) :
    (numberAt (noticeBytes order code flags enables line) (1 + (order.filter flags).length) 1).testBit i =
      enables f := by
  have hfit : bitsOf (order.map enables) < 256 := by
    have hlt := bitsOf_lt (order.map enables)
    rw [List.length_map] at hlt
    exact hlt.trans_le (Nat.pow_le_pow_right (by omega) hlen)
  have hnumber := noticeBytes_tail order code flags enables line _ List.mem_cons_self hfit
  rw [hnumber]
  exact bitsOf_testBit (by rw [List.getElem?_map, hi]; rfl)

end

theorem OfficeNotices.bytes_eq (n : OfficeNotices) :
    n.bytes = noticeBytes officeOrder OfficeNotice.code n.flags.get n.enables.get n.line := rfl

theorem LaneNotices.bytes_eq (n : LaneNotices) :
    n.bytes = noticeBytes laneOrder LaneNotice.code n.flags.get n.enables.get n.line := rfl

end Sys2Proof.Machine
end

section
/-! PROOF. The requests that read answer what they read and change nothing else (O35). -/

namespace Sys2Proof.Machine

/-! ### What each request answers -/

theorem readOwner_code (o : Owner) : readOwner o.code = some o := by
  cases o with
  | lane l => cases l <;> rfl
  | office => rfl

theorem readOwner_none {b : Byte} (h : b = 0 ∨ 3 < b.toNat) : readOwner b = none := by
  have hne : ∀ c : Byte, 0 < c.toNat → c.toNat ≤ 3 → b ≠ c := by
    rintro c hpos hle rfl
    rcases h with rfl | h
    · exact absurd hpos (by decide)
    · omega
  unfold readOwner
  rw [if_neg (hne 1 (by decide) (by decide)), if_neg (hne 2 (by decide) (by decide)),
    if_neg (hne 3 (by decide) (by decide))]

theorem readPlan_owner (s : State) (o : Owner) :
    readPlan .office [o.code] s = (s, answer (s.planBytes o)) := by
  simp only [readPlan, readOwner_code]

theorem readPlan_range (s : State) {b : Byte} (h : b = 0 ∨ 3 < b.toNat) :
    readPlan .office [b] s = (s, refuse .range) := by
  simp only [readPlan, readOwner_none h]

theorem readStore_store (s : State) (k : StoreId) :
    readStore [BitVec.ofNat 8 k.val] s = (s, answer (s.storeBytes k)) := by
  simp only [readStore, readIndex_store]

theorem readStore_range (s : State) {b : Byte} (h : 13 < b.toNat) :
    readStore [b] s = (s, refuse .range) := by
  have hcoin : b ≠ 12 := by rintro rfl; exact absurd h (by decide)
  have hnote : b ≠ 13 := by rintro rfl; exact absurd h (by decide)
  simp only [readStore, readIndex_none (show 11 < b.toNat by omega), if_neg hcoin, if_neg hnote]

theorem readTotals_open (s : State) (d : Denom) : readTotals [0, BitVec.ofNat 8 d.val] s =
    (s, answer ((s.shiftLine d).bytes 0 d s.totals.inexact s.totals.shift)) := by
  simp only [readTotals, readIndex_store]
  rfl

theorem readTotals_closed (s : State) (d : Denom) : readTotals [1, BitVec.ofNat 8 d.val] s =
    (s, answer (s.totals.previous.lines[d].bytes 1 d s.totals.previous.inexact
      s.totals.previous.shift)) := by
  simp only [readTotals, readIndex_store]
  rfl

theorem readTotals_range (s : State) {r b : Byte} (h : 1 < r.toNat ∨ 11 < b.toNat) :
    readTotals [r, b] s = (s, refuse .range) := by
  unfold readTotals
  dsimp only
  split
  next => rfl
  next d hd =>
    have hb : b.toNat < 12 := by
      by_contra hb
      rw [readIndex_none (by omega)] at hd
      exact absurd hd (by simp)
    have hopen : r ≠ 0 := by rintro rfl; exact absurd h (by simp; omega)
    have hclosed : r ≠ 1 := by rintro rfl; exact absurd h (by simp; omega)
    rw [if_neg hopen, if_neg hclosed]

theorem readProfile_range (s : State) {b : Byte} (h : 1 < b.toNat) :
    readProfile [b] s = (s, refuse .range) := by
  have hactive : b ≠ 0 := by rintro rfl; exact absurd h (by decide)
  have hpending : b ≠ 1 := by rintro rfl; exact absurd h (by decide)
  simp only [readProfile, if_neg hactive, if_neg hpending]

/-! ### The requests on their ports -/

/-- A read whose work is known answers it on the office port. -/
theorem office_answers {r : Request} {payload : List Byte} {s : State} {response : Response}
    (ht : s.takes .office) (hf : servedOn r .office = true)
    (hn : payload.length = r.payloadLength .office) (hr : r ≠ .restart)
    (hwork : performRequest r .office payload s = (s, response)) :
    requestArrives r .office payload s = s.answered .office r.code response := by
  rw [office_performed r payload s ht hf hn hr, hwork]

theorem lane_reads (s : State) (l : Lane) (ht : s.takes (.lane l)) :
    exec (.readTender (.lane l) []) s =
      s.answered (.lane l) 0x02 (answer (s.sale l).tenderBytes) ∧
    exec (.readStock (.lane l) []) s = s.answered (.lane l) 0x09 (answer s.stockBytes) ∧
    exec (.readPlan (.lane l) []) s =
      s.answered (.lane l) 0x10 (answer (s.planBytes (.lane l))) ∧
    exec (.readNotices (.lane l) []) s =
      s.answered (.lane l) 0x12 (answer (s.laneNotices.get l).bytes) :=
  ⟨lane_performed .readTender l [] s ht rfl rfl rfl, lane_performed .readStock l [] s ht rfl rfl rfl,
    lane_performed .readPlan l [] s ht rfl rfl rfl, lane_performed .readNotices l [] s ht rfl rfl rfl⟩

theorem office_readPlan (s : State) (ht : s.takes .office) :
    (∀ o : Owner, exec (.readPlan .office [o.code]) s =
      s.answered .office 0x10 (answer (s.planBytes o))) ∧
    (∀ b : Byte, b = 0 ∨ 3 < b.toNat →
      exec (.readPlan .office [b]) s = s.answered .office 0x10 (refuse .range)) :=
  ⟨fun o => office_answers (r := .readPlan) ht rfl rfl (by decide) (readPlan_owner s o),
    fun _ hb => office_answers (r := .readPlan) ht rfl rfl (by decide) (readPlan_range s hb)⟩

theorem office_readStore (s : State) (ht : s.takes .office) :
    (∀ k : StoreId, exec (.readStore .office [BitVec.ofNat 8 k.val]) s =
      s.answered .office 0x20 (answer (s.storeBytes k))) ∧
    exec (.readStore .office [12]) s = s.answered .office 0x20 (answer (s.boxBytes .coin)) ∧
    exec (.readStore .office [13]) s = s.answered .office 0x20 (answer (s.boxBytes .note)) ∧
    (∀ b : Byte, 13 < b.toNat →
      exec (.readStore .office [b]) s = s.answered .office 0x20 (refuse .range)) :=
  ⟨fun k => office_answers (r := .readStore) ht rfl rfl (by decide) (readStore_store s k),
    office_answers (r := .readStore) ht rfl rfl (by decide) rfl,
    office_answers (r := .readStore) ht rfl rfl (by decide) rfl,
    fun _ hb => office_answers (r := .readStore) ht rfl rfl (by decide) (readStore_range s hb)⟩

theorem office_readTotals (s : State) (ht : s.takes .office) :
    (∀ d : Denom,
      exec (.readTotals .office [0, BitVec.ofNat 8 d.val]) s =
        s.answered .office 0x21 (answer ((s.shiftLine d).bytes 0 d s.totals.inexact
          s.totals.shift)) ∧
      exec (.readTotals .office [1, BitVec.ofNat 8 d.val]) s =
        s.answered .office 0x21 (answer (s.totals.previous.lines[d].bytes 1 d
          s.totals.previous.inexact s.totals.previous.shift))) ∧
    (∀ r b : Byte, 1 < r.toNat ∨ 11 < b.toNat →
      exec (.readTotals .office [r, b]) s = s.answered .office 0x21 (refuse .range)) :=
  ⟨fun d => ⟨office_answers (r := .readTotals) ht rfl rfl (by decide) (readTotals_open s d),
      office_answers (r := .readTotals) ht rfl rfl (by decide) (readTotals_closed s d)⟩,
    fun _ _ h => office_answers (r := .readTotals) ht rfl rfl (by decide) (readTotals_range s h)⟩

theorem office_readProfile (s : State) (ht : s.takes .office) :
    exec (.readProfile .office [0]) s =
      s.answered .office 0x22 (answer (profileBytes s.armed s.active)) ∧
    exec (.readProfile .office [1]) s =
      s.answered .office 0x22 (answer (profileBytes s.armed s.pendingMarks)) ∧
    (∀ b : Byte, 1 < b.toNat →
      exec (.readProfile .office [b]) s = s.answered .office 0x22 (refuse .range)) :=
  ⟨office_answers (r := .readProfile) ht rfl rfl (by decide) rfl,
    office_answers (r := .readProfile) ht rfl rfl (by decide) rfl,
    fun _ hb => office_answers (r := .readProfile) ht rfl rfl (by decide) (readProfile_range s hb)⟩

theorem office_readNotices (s : State) (ht : s.takes .office) :
    exec (.readNotices .office []) s = s.answered .office 0x12 (answer s.officeNotices.bytes) :=
  office_answers (r := .readNotices) ht rfl rfl (by decide) rfl

end Sys2Proof.Machine

namespace Sys2Proof
open Machine

/-- Settles O35: each request by what its work answers, each record as its layout, whose fields stand one behind the
other and whose entries have one length. -/
theorem readsAnswerInTheirLayout : Obligations.ReadsAnswerInTheirLayout := by
  unfold Obligations.ReadsAnswerInTheirLayout
  refine ⟨fun s => ⟨lane_reads s, fun ht => ?_⟩, ?codes, ?tender, ?stock, ?completion, ?plan, ?store,
    ?box, ?totals, ?notices, ?profile, ?limits⟩
  · obtain ⟨hplan, hplanRange⟩ := office_readPlan s ht
    obtain ⟨hstore, hcoin, hnote, hstoreRange⟩ := office_readStore s ht
    obtain ⟨htotals, htotalsRange⟩ := office_readTotals s ht
    exact ⟨hplan, hplanRange, office_readNotices s ht, hstore, hcoin, hnote, hstoreRange, htotals,
      htotalsRange, office_readProfile s ht⟩
  case codes => exact ⟨rfl, rfl, rfl, rfl, rfl, rfl, rfl, rfl, rfl, rfl, rfl, rfl, rfl⟩
  case tender => exact fun x => ⟨x.laidOut_tenderBytes.length, x.laidOut_tenderBytes.holdsAt⟩
  case stock =>
    intro s
    refine ⟨s.stockBytes_length, ?_, fun i d hi => ?_⟩
    · exact (LaidOut.field 1 _).holdsAt_front _
    · have hd : s.used d = true := (List.mem_filter.mp (List.mem_of_getElem? hi)).2
      have hentry := s.holdsAt_stockEntry hi
      unfold State.stockFields State.atLow at hentry
      rw [s.freeStock_eq hd] at hentry
      exact hentry
  case completion =>
    exact fun x l => ⟨x.bytes_length l, (x.laidOut_headBytes l).holdsAt_front _,
      fun i e hi => x.holdsAt_piece l hi, rfl⟩
  case plan =>
    intro s o
    refine ⟨s.sectionBytes o, rfl, fun k => ⟨s.sectionBytes_length o k, ?_, fun i r hi => ?_⟩⟩
    · exact (s.laidOut_sectionHead o k).holdsAt_front _
    · exact s.holdsAt_stroke o k hi
  case store => exact fun s k => ⟨(s.laidOut_storeBytes k).length, (s.laidOut_storeBytes k).holdsAt⟩
  case box =>
    exact fun s k => ⟨s.boxBytes_length k, (s.laidOut_boxHead k).holdsAt_front _,
      fun i d hi => s.holdsAt_boxCount k hi⟩
  case totals =>
    intro x r d inexact shift
    refine ⟨x.bytes_length r d inexact shift, x.holdsAt_bytes r d inexact shift,
      fun i n hi => x.holdsAt_counter r d inexact shift hi, x.signedAt_adjusted r d inexact shift,
      x.signedAt_adjustedValue r d inexact shift, x.signedAt_imbalance r d inexact shift⟩
  case notices =>
    refine ⟨fun n => ?_, fun n => ?_⟩
    · rw [n.bytes_eq]
      exact ⟨noticeBytes_length .., noticeBytes_codes .., noticeBytes_holdsAt _ _ _ _ _,
        fun i f hi => noticeBytes_testBit _ _ _ _ _ (by decide) hi⟩
    · rw [n.bytes_eq]
      exact ⟨noticeBytes_length .., noticeBytes_codes .., noticeBytes_holdsAt _ _ _ _ _,
        fun i f hi => noticeBytes_testBit _ _ _ _ _ (by decide) hi⟩
  case profile =>
    exact fun armed m => ⟨profileBytes_length armed m,
      (LaidOut.byte (flagByte_toNat armed)).holdsAt_front _, holdsAt_profileBytes armed m⟩
  case limits => exact fun s => ⟨s.laidOut_limitBytes.length, s.laidOut_limitBytes.holdsAt⟩

end Sys2Proof
end

section
/-! SUPPORT. A lane's place at the planner and its strokes, in step with its sale (R26, R72, R100): the clauses
of `State.laneWorkFollows` by name, and what an event may do to a lane without touching its sale's state. -/

namespace Sys2Proof.Machine

/-- The clauses of `State.laneWorkFollows` for one lane. -/
structure State.LaneWork (s : State) (l : Lane) : Prop where
  serves : (s.sale l).state ≠ .idle → s.mode l = .serve
  plans : s.laneAsked l .settle ∨ s.laneAsked l .refund → (s.sale l).state = .planning
  makesUp : s.laneAsked l .makeup → (s.sale l).state = .paying
  alone : (s.planner.waitingLane.get l).isSome → ∀ r, s.jobInWork ≠ some (.lane l r)
  pays : ∀ r ∈ s.pool.records, r.owner = .lane l → (s.sale l).state = .paying

theorem State.laneWorkFollows_iff (s : State) : s.laneWorkFollows ↔ ∀ l, s.LaneWork l := by
  refine forall_congr' fun l => ⟨?_, fun h => ⟨h.serves, h.plans, h.makesUp, h.alone, h.pays⟩⟩
  rintro ⟨serves, plans, makesUp, alone, pays⟩
  exact ⟨serves, plans, makesUp, alone, pays⟩

namespace State.LaneWork

variable {s : State} {l : Lane}

/-- A lane outside PLANNING and PAYING has asked the planner for nothing. -/
theorem unasked (h : s.LaneWork l) (hplan : (s.sale l).state ≠ .planning)
    (hpay : (s.sale l).state ≠ .paying) (q : LaneRequest) : ¬s.laneAsked l q := by
  intro hq
  cases q with
  | settle => exact hplan (h.plans (.inl hq))
  | refund => exact hplan (h.plans (.inr hq))
  | makeup => exact hpay (h.makesUp hq)

/-- While a request of the lane is in work none of its waits. -/
theorem none_waits (h : s.LaneWork l) {q : LaneRequest} (hq : s.jobInWork = some (.lane l q)) :
    s.planner.waitingLane.get l = none := by
  by_contra hw
  exact h.alone (Option.isSome_iff_ne_none.mpr hw) q hq

/-- While a request of the lane waits none of its is in work. -/
theorem none_works (h : s.LaneWork l) {q : LaneRequest} (hq : s.planner.waitingLane.get l = some q)
    (r : LaneRequest) : s.jobInWork ≠ some (.lane l r) := h.alone (by rw [hq]; rfl) r

/-- A lane with no request and no stroke is in step with any sale that its mode allows. -/
theorem of_unasked (serves : (s.sale l).state ≠ .idle → s.mode l = .serve) (none : ∀ q, ¬s.laneAsked l q)
    (hrec : ∀ r ∈ s.pool.records, r.owner ≠ .lane l) : s.LaneWork l where
  serves := serves
  plans hq := absurd hq (not_or.mpr ⟨none _, none _⟩)
  makesUp hq := absurd hq (none _)
  alone _ r hr := none r (.inr hr)
  pays r hr ho := absurd ho (hrec r hr)

/-- A lane whose request waits, with none in work and no stroke. -/
theorem of_waiting {q : LaneRequest} (serves : s.mode l = .serve) (hw : s.planner.waitingLane.get l = some q)
    (hq : q ≠ .makeup) (hj : ∀ r, s.jobInWork ≠ some (.lane l r))
    (hstate : (s.sale l).state = .planning) (hrec : ∀ r ∈ s.pool.records, r.owner ≠ .lane l) :
    s.LaneWork l where
  serves _ := serves
  plans _ := hstate
  makesUp hm := hm.elim (fun h => absurd (Option.some.inj (hw.symm.trans h)) hq) (fun h => absurd h (hj _))
  alone _ := hj
  pays r hr ho := absurd ho (hrec r hr)

/-- A lane in PAYING, which has at most a make-up at the planner. -/
theorem of_paying (serves : s.mode l = .serve) (hstate : (s.sale l).state = .paying)
    (hasked : ∀ q, s.laneAsked l q → q = .makeup)
    (alone : (s.planner.waitingLane.get l).isSome → ∀ r, s.jobInWork ≠ some (.lane l r)) : s.LaneWork l where
  serves _ := serves
  plans hq := hq.elim (fun h => absurd (hasked _ h) nofun) (fun h => absurd (hasked _ h) nofun)
  makesUp _ := hstate
  alone := alone
  pays _ _ _ := hstate

end State.LaneWork

/-! ### What leaves a lane's sale in its state -/

/-- The lane has strokes. -/
def State.hasStrokes (s : State) (l : Lane) : Prop := ∃ r ∈ s.pool.records, r.owner = .lane l

/-- The lane's sale stays in its state and its mode, its strokes are of those it had, the planner works for it on
what it did; its waiting request stays, goes, or is a make-up of its strokes (R41, R44). -/
structure State.keepsLane (s t : State) (l : Lane) : Prop where
  state : (t.sale l).state = (s.sale l).state
  mode : t.mode l = s.mode l
  waits : t.planner.waitingLane.get l = s.planner.waitingLane.get l ∨ t.planner.waitingLane.get l = none ∨
    (t.planner.waitingLane.get l = some .makeup ∧ s.hasStrokes l ∧ s.jobInWork ≠ some (.lane l .makeup))
  works : ∀ q, t.jobInWork = some (.lane l q) ↔ s.jobInWork = some (.lane l q)
  strokes : t.hasStrokes l → s.hasStrokes l

theorem State.LaneWork.keeps {s t : State} {l : Lane} (h : s.LaneWork l) (hk : s.keepsLane t l) :
    t.LaneWork l := by
  have asked : ∀ q, t.laneAsked l q → s.laneAsked l q ∨ (q = .makeup ∧ s.hasStrokes l) := by
    rintro q (hq | hq)
    · rcases hk.waits with hw | hw | ⟨hw, hs, -⟩
      · exact .inl (.inl (hw.symm.trans hq))
      · exact absurd (hw.symm.trans hq) nofun
      · exact .inr ⟨(Option.some.inj (hw.symm.trans hq)).symm, hs⟩
    · exact .inl (.inr ((hk.works q).mp hq))
  have paying : s.hasStrokes l → (s.sale l).state = .paying := fun ⟨r, hr, ho⟩ => h.pays r hr ho
  refine ⟨fun hs => ?_, fun hq => ?_, fun hq => ?_, fun hw r hr => ?_, fun r hr ho => ?_⟩
  · rw [hk.mode]; exact h.serves (hk.state ▸ hs)
  · rw [hk.state]
    refine h.plans (hq.imp (fun hq => ?_) (fun hq => ?_)) <;>
      exact (asked _ hq).resolve_right (fun h => absurd h.1 nofun)
  · rw [hk.state]; exact (asked _ hq).elim h.makesUp (fun hs => paying hs.2)
  · have hr' := (hk.works r).mp hr
    rcases hk.waits with hw' | hw' | ⟨-, hs, hm⟩
    · exact h.alone (hw' ▸ hw) r hr'
    · simp [hw'] at hw
    · cases r with
      | makeup => exact hm hr'
      | settle => exact absurd ((paying hs).symm.trans (h.plans (.inl (.inr hr')))) nofun
      | refund => exact absurd ((paying hs).symm.trans (h.plans (.inr (.inr hr')))) nofun
  · rw [hk.state]; exact paying (hk.strokes ⟨r, hr, ho⟩)

def State.keepsLanes (s t : State) : Prop := ∀ l, s.keepsLane t l

theorem State.keepsLanes.follows {s t : State} (h : s.keepsLanes t) (hs : s.laneWorkFollows) :
    t.laneWorkFollows :=
  t.laneWorkFollows_iff.mpr fun l => (s.laneWorkFollows_iff.mp hs l).keeps (h l)

theorem State.keepsLane.trans {s t u : State} {l : Lane} (h : s.keepsLane t l) (h' : t.keepsLane u l) :
    s.keepsLane u l where
  state := h'.state.trans h.state
  mode := h'.mode.trans h.mode
  waits := by
    rcases h'.waits with hw | hw | ⟨hw, hs, hj⟩
    · rw [hw]; exact h.waits
    · exact .inr (.inl hw)
    · exact .inr (.inr ⟨hw, h.strokes hs, fun hj' => hj ((h.works _).mpr hj')⟩)
  works q := (h'.works q).trans (h.works q)
  strokes hs := h.strokes (h'.strokes hs)

theorem State.keepsLanes.trans {s t u : State} (h : s.keepsLanes t) (h' : t.keepsLanes u) : s.keepsLanes u :=
  fun l => (h l).trans (h' l)

/-- Every record's owner had a record before. -/
def State.keepsOwners (s t : State) : Prop := ∀ r ∈ t.pool.records, ∃ q ∈ s.pool.records, q.owner = r.owner

theorem State.keepsOwners.of_same {s t : State} (h : t.pool.records = s.pool.records) : s.keepsOwners t :=
  fun r hr => ⟨r, h ▸ hr, rfl⟩

theorem State.keepsOwners.of_pool {s t : State} (h : t.pool = s.pool) : s.keepsOwners t :=
  .of_same (congrArg Pool.records h)

theorem State.keepsOwners.hasStrokes {s t : State} (h : s.keepsOwners t) {l : Lane} (ht : t.hasStrokes l) :
    s.hasStrokes l := by
  obtain ⟨r, hr, ho⟩ := ht
  obtain ⟨q, hq, he⟩ := h r hr
  exact ⟨q, hq, he.trans ho⟩

theorem State.keepsOwners.endStrokes (s : State) (how : Stroke → Option (Ending × Nat)) :
    s.keepsOwners (s.endStrokes how) := fun r hr => ⟨r, (State.mem_endStrokes.mp hr).1, rfl⟩

theorem State.keepsOwners.modRecord (s : State) (slot : SlotId) {f : Stroke → Stroke}
    (hf : ∀ r, (f r).owner = r.owner) : s.keepsOwners (s.modRecord slot f) := by
  intro r hr
  rw [State.modRecord_records] at hr
  obtain ⟨q, hq, rfl⟩ := List.mem_map.mp hr
  refine ⟨q, hq, ?_⟩
  unfold rewriteSlot
  split
  · exact (hf q).symm
  · rfl

theorem State.jobInWork_congr {s t : State} (h : t.planner.work = s.planner.work) :
    t.jobInWork = s.jobInWork := congrArg (Option.map Work.job) h

/-- Where the lanes and the planner's requests stand, the lanes are kept. -/
theorem State.keepsLanes.of_frame {s t : State} (hlanes : t.lanes = s.lanes)
    (hwait : t.planner.waitingLane = s.planner.waitingLane) (hwork : t.jobInWork = s.jobInWork)
    (hrec : s.keepsOwners t) : s.keepsLanes t := fun l =>
  have hlane : t.lane l = s.lane l := congrArg (fun v : PerLane LaneControl => v.get l) hlanes
  { state := congrArg (fun x : LaneControl => x.sale.state) hlane
    mode := congrArg LaneControl.mode hlane
    waits := .inl (congrArg (fun v : PerLane (Option LaneRequest) => v.get l) hwait)
    works := fun q => by rw [hwork]
    strokes := hrec.hasStrokes }

theorem State.keepsLanes.of_same {s t : State} (hlanes : t.lanes = s.lanes) (hplan : t.planner = s.planner)
    (hpool : t.pool = s.pool) : s.keepsLanes t :=
  .of_frame hlanes (congrArg Planner.waitingLane hplan)
    (State.jobInWork_congr (congrArg Planner.work hplan)) (.of_pool hpool)

theorem State.keepsLanes.refl (s : State) : s.keepsLanes s := .of_same rfl rfl rfl

theorem State.onlyBooks.keepsLanes {s t : State} (h : s.onlyBooks t) : s.keepsLanes t := by
  obtain ⟨_, _, _, rfl⟩ := h
  exact .of_same rfl rfl rfl

/-- Records that give back leave their lanes' sales in their state, and may ask for a make-up (R41). -/
theorem State.keepsLanes.of_givesBack {xs : List Stroke} {s t : State} {pieces : Stroke → Nat}
    (h : State.givesBackOf xs s t pieces) (hxs : ∀ r ∈ xs, ∃ q ∈ s.pool.records, q.owner = r.owner)
    (hrec : s.keepsOwners t) : s.keepsLanes t := by
  obtain ⟨-, -, hlane, hwait, hrest⟩ := h
  have hjob : t.jobInWork = s.jobInWork := State.jobInWork_congr (by rw [hrest])
  intro l
  refine ⟨?_, ?_, ?_, fun q => by rw [hjob], hrec.hasStrokes⟩
  · have hstate := congrArg (fun x : LaneControl => x.sale.state) (hlane l)
    exact hstate
  · have hmode := congrArg LaneControl.mode (hlane l)
    exact hmode
  · rw [hwait l]
    split
    · rename_i hask
      obtain ⟨hpos, -, hnone⟩ := hask
      refine .inr (.inr ⟨rfl, ?_, hnone⟩)
      by_contra hno
      refine hpos.ne' (sumOver_eq_zero fun r hr ho => absurd ?_ hno)
      obtain ⟨q, hq, he⟩ := hxs r hr
      exact ⟨q, hq, he.trans (eq_of_beq ho)⟩
    · exact .inl rfl

theorem State.keepsLanes_endStrokes (s : State) (how : Stroke → Option (Ending × Nat)) :
    s.keepsLanes (s.endStrokes how) :=
  .of_givesBack ((s.givesBack_iff _ _).mp (s.endStrokes_givesBack how)) (fun r hr => ⟨r, hr, rfl⟩)
    (.endStrokes s how)

theorem State.keepsLanes_release {s : State} {r : Stroke} (hr : ∃ q ∈ s.pool.records, q.owner = r.owner)
    (n : Nat) : s.keepsLanes (s.release r n) :=
  .of_givesBack (s.release_givesBackOf r (fun _ => n)) (fun q hq => List.mem_singleton.mp hq ▸ hr)
    (.of_pool (by simp))

theorem State.keepsLanes_modRecord (s : State) (slot : SlotId) {f : Stroke → Stroke}
    (hf : ∀ r, (f r).owner = r.owner) : s.keepsLanes (s.modRecord slot f) :=
  .of_frame rfl rfl rfl (.modRecord s slot hf)

/-- A record of the part still has its owner among the records after one is rewritten. -/
theorem State.owner_modRecord {s : State} (slot : SlotId) {f : Stroke → Stroke}
    (hf : ∀ r, (f r).owner = r.owner) {r : Stroke} (hr : r ∈ s.pool.records) :
    ∃ q ∈ (s.modRecord slot f).pool.records, q.owner = r.owner := by
  refine ⟨rewriteSlot slot f r, State.modRecord_records s slot f ▸ List.mem_map_of_mem hr, ?_⟩
  unfold rewriteSlot
  split
  · exact hf r
  · rfl

theorem State.keepsLanes_lowerStroke {s : State} {r : Stroke} (hr : r ∈ s.pool.records) :
    s.keepsLanes (s.lowerStroke r) :=
  have hf : ∀ x : Stroke, ({ x with count := x.count - 1 } : Stroke).owner = x.owner := fun _ => rfl
  (s.keepsLanes_modRecord r.slot hf).trans (State.keepsLanes_release (State.owner_modRecord r.slot hf hr) 1)

end Sys2Proof.Machine
end

section
/-! SUPPORT. Lane work through the changes of a sale's state, the planner's next request and the close of an
event. -/

namespace Sys2Proof.Machine

/-! ### One lane changes -/

/-- A lane whose controller and whose place at the planner stand. -/
theorem State.keepsLane.of_lane {s t : State} {l : Lane} (hlane : t.lane l = s.lane l)
    (hwait : t.planner.waitingLane.get l = s.planner.waitingLane.get l)
    (hwork : ∀ q, t.jobInWork = some (.lane l q) ↔ s.jobInWork = some (.lane l q)) (hrec : s.keepsOwners t) :
    s.keepsLane t l where
  state := congrArg (fun x : LaneControl => x.sale.state) hlane
  mode := congrArg LaneControl.mode hlane
  waits := .inl hwait
  works := hwork
  strokes := hrec.hasStrokes

theorem State.laneWorkFollows.change_lane {s t : State} (h : s.laneWorkFollows) {l : Lane}
    (own : t.LaneWork l) (others : ∀ m, m ≠ l → s.keepsLane t m) : t.laneWorkFollows := by
  refine t.laneWorkFollows_iff.mpr fun m => ?_
  by_cases hm : m = l
  · exact hm ▸ own
  · exact (s.laneWorkFollows_iff.mp h m).keeps (others m hm)

theorem State.laneWorkFollows.lane {s : State} (h : s.laneWorkFollows) (l : Lane) : s.LaneWork l :=
  s.laneWorkFollows_iff.mp h l

/-- The close of a sale writes its lane's controller alone (R48). -/
theorem State.lane_closeSale (s : State) (l m : Lane) (o : SaleOutcome) :
    (s.closeSale l o).lane m = if m = l then
      { s.lane l with sale := Sale.idle (s.sale l).sequence, slot := some (s.completion l o) }
    else s.lane m := by
  have hframe : (s.closeSale l o).lane m = ((s.setSlot l (some (s.completion l o))).setSale l
      (Sale.idle (s.sale l).sequence)).lane m := by
    simp only [State.closeSale, State.lane, State.reopenRuns_frame, State.clearTallies_lanes,
      State.laneFlag_lanes]
  rw [hframe]
  split
  · rename_i hm
    subst hm
    rw [State.setSale, State.lane_setLane_self, State.setSlot, State.lane_setLane_self]
  · rename_i hm
    rw [State.setSale, State.lane_setLane_ne _ _ _ _ hm, State.setSlot, State.lane_setLane_ne _ _ _ _ hm]

theorem State.closeSale_records (s : State) (l : Lane) (o : SaleOutcome) :
    (s.closeSale l o).pool.records = s.pool.records := by simp [State.closeSale]

theorem State.closeSale_planner (s : State) (l : Lane) (o : SaleOutcome) :
    (s.closeSale l o).planner = s.planner := by simp

section
variable {s : State} (h : s.laneWorkFollows) {l : Lane}
include h

/-- A sale that has nothing at the planner and no stroke closes. -/
theorem State.laneWorkFollows.closeSale (hplan : (s.sale l).state ≠ .planning)
    (hpay : (s.sale l).state ≠ .paying) (o : SaleOutcome) : (s.closeSale l o).laneWorkFollows := by
  have hidle : (((s.closeSale l o).sale l).state) = .idle := by
    rw [State.sale, State.lane_closeSale, if_pos rfl]; rfl
  have hplanner := s.closeSale_planner l o
  refine h.change_lane (l := l) (.of_unasked (fun hne => absurd hidle hne) (fun q hq => ?_) ?_) fun m hm => ?_
  · refine (h.lane l).unasked hplan hpay q ?_
    unfold State.laneAsked State.jobInWork at hq ⊢
    rw [← hplanner]; exact hq
  · rw [State.closeSale_records]
    exact fun r hr ho => hpay ((h.lane l).pays r hr ho)
  · refine .of_lane ?_ (by rw [hplanner]) (fun q => ?_) (.of_same (s.closeSale_records l o))
    · rw [State.lane_closeSale, if_neg hm]
    · rw [State.jobInWork_congr (congrArg Planner.work hplanner)]

theorem State.laneWorkFollows.closeIfClear : (s.closeIfClear l).laneWorkFollows := by
  unfold State.closeIfClear
  split
  · rename_i hc
    have hstate : (s.sale l).state = .presented := by
      simp only [Bool.and_eq_true, beq_iff_eq] at hc; exact hc.1
    exact h.closeSale (by rw [hstate]; nofun) (by rw [hstate]; nofun) _
  · exact h

end

/-- A sale's context that is written without a change of its state. -/
theorem State.keepsLanes_modSale {s : State} {l : Lane} {f : Sale → Sale}
    (hf : (f (s.sale l)).state = (s.sale l).state) : s.keepsLanes (s.modSale l f) := fun m => by
  by_cases hm : m = l
  · subst hm
    exact ⟨by rw [State.sale_modSale_self]; exact hf, State.mode_modSale .., .inl rfl, fun _ => Iff.rfl, id⟩
  · exact .of_lane (State.lane_setLane_ne _ _ _ _ hm) rfl (fun _ => Iff.rfl) (.of_same rfl)

/-- A payout that is over has left the lane nothing at the planner and no stroke (R43, R132). -/
theorem State.payoutOver_iff (s : State) (l : Lane) : s.payoutOver l = true ↔
    (s.sale l).state = .paying ∧ (∀ k, s.pool.chain (.lane l) k = [] ∧ (s.path k).grant ≠ .laneRun l) ∧
      (s.sale l).owed = 0 ∧ ¬s.laneAsked l .makeup := by
  simp only [State.payoutOver, State.chainEnded, State.chainEmpty, State.makeupLive, State.laneAsked,
    Bool.and_eq_true, beq_iff_eq, bne_iff_ne, List.isEmpty_iff, Bool.not_eq_true', Bool.or_eq_false_iff,
    beq_eq_false_iff_ne, ne_eq, not_or]
  constructor
  · rintro ⟨⟨⟨⟨hstate, hcoin⟩, hnote⟩, howed⟩, hmake⟩
    exact ⟨hstate, by rintro (_ | _) <;> assumption, howed, hmake⟩
  · rintro ⟨hstate, hchain, howed, hmake⟩
    exact ⟨⟨⟨⟨hstate, hchain _⟩, hchain _⟩, howed⟩, hmake⟩

theorem State.mem_chain {s : State} {o : Owner} {k : Kind} {r : Stroke} :
    r ∈ s.pool.chain o k ↔ r ∈ s.pool.records ∧ r.owner = o ∧ r.path = k := by
  simp [Pool.chain]

theorem State.not_hasStrokes_of_chains {s : State} {l : Lane} (h : ∀ k, s.pool.chain (.lane l) k = []) :
    ¬s.hasStrokes l := by
  rintro ⟨r, hr, ho⟩
  exact List.not_mem_nil (h r.path ▸ State.mem_chain.mpr ⟨hr, ho, rfl⟩)

theorem State.enterPresented_sale (s : State) (l : Lane) : (s.enterPresented l).sale l =
    { s.sale l with state := .presented, timer := .running s.limits.presentTimeout } := by
  have hframe : (s.enterPresented l).sale l = (s.modSale l (fun x =>
      { x with state := .presented, timer := .running s.limits.presentTimeout })).sale l := rfl
  rw [hframe, State.sale_modSale_self]

theorem State.enterPresented_mode (s : State) (l m : Lane) : (s.enterPresented l).mode m = s.mode m :=
  s.mode_modSale l m (fun x => { x with state := .presented, timer := .running s.limits.presentTimeout })

theorem State.enterPresented_lane_ne (s : State) {l m : Lane} (hm : m ≠ l) :
    (s.enterPresented l).lane m = s.lane m := s.lane_setLane_ne l m _ hm

section
variable {s : State} (h : s.laneWorkFollows) {l : Lane}
include h

theorem State.laneWorkFollows.enterPresented (hover : s.payoutOver l = true) :
    (s.enterPresented l).laneWorkFollows := by
  obtain ⟨hpaying, hchain, -, hmake⟩ := (s.payoutOver_iff l).mp hover
  have hpresented : ((s.enterPresented l).sale l).state = .presented := by rw [s.enterPresented_sale]
  refine h.change_lane (l := l) (.of_unasked (fun _ => ?_) (fun q hq => ?_) fun r hr ho => ?_) fun m hm => ?_
  · rw [s.enterPresented_mode]; exact (h.lane l).serves (by rw [hpaying]; nofun)
  · cases q with
    | makeup => exact hmake hq
    | settle => exact absurd (hpaying.symm.trans ((h.lane l).plans (.inl hq))) nofun
    | refund => exact absurd (hpaying.symm.trans ((h.lane l).plans (.inr hq))) nofun
  · exact State.not_hasStrokes_of_chains (fun k => (hchain k).1) ⟨r, hr, ho⟩
  · exact .of_lane (s.enterPresented_lane_ne hm) rfl (fun _ => Iff.rfl) (.of_same rfl)

theorem State.laneWorkFollows.settleSale : (s.settleSale l).laneWorkFollows := by
  unfold State.settleSale
  split
  · rename_i hover
    exact (h.enterPresented hover).closeIfClear
  · exact h

/-- A lane's settle or refund is placed for a sale that goes to PLANNING (R34, R37, R38). -/
theorem State.laneWorkFollows.place {t : State} {f : Sale → Sale} {q : LaneRequest} (hq : q ≠ .makeup)
    (hserve : s.mode l = .serve) (hpay : (s.sale l).state ≠ .paying)
    (hwork : ∀ r, s.jobInWork ≠ some (.lane l r)) (hlanes : t.lanes = (s.modSale l f).lanes)
    (hstate : (f (s.sale l)).state = .planning)
    (hplan : t.planner = { s.planner with waitingLane := s.planner.waitingLane.set l (some q) })
    (hpool : t.pool = s.pool) : t.laneWorkFollows := by
  have hlane : ∀ m, t.lane m = (s.modSale l f).lane m :=
    fun m => congrArg (fun v : PerLane LaneControl => v.get m) hlanes
  have hjob : t.jobInWork = s.jobInWork := State.jobInWork_congr (by rw [hplan])
  refine h.change_lane (l := l) (.of_waiting (q := q) ?_ ?_ hq (hjob ▸ hwork) ?_ ?_)
    fun m hm => .of_lane ((hlane m).trans (s.lane_setLane_ne l m _ hm)) ?_ (fun r => by rw [hjob]) (.of_pool hpool)
  · exact ((congrArg LaneControl.mode (hlane l)).trans (s.mode_modSale l l f)).trans hserve
  · rw [hplan]; exact PerLane.get_set_self ..
  · have hsale := (congrArg LaneControl.sale (hlane l)).trans (s.sale_modSale_self l f)
    exact (congrArg Sale.state hsale).trans hstate
  · rw [hpool]; exact fun r hr ho => hpay ((h.lane l).pays r hr ho)
  · rw [hplan]; exact PerLane.get_set_ne _ _ _ _ hm

theorem State.laneWorkFollows.beginRefund (hserve : s.mode l = .serve) (hpay : (s.sale l).state ≠ .paying)
    (hwork : ∀ r, s.jobInWork ≠ some (.lane l r)) : (s.beginRefund l).laneWorkFollows :=
  h.place (f := fun x => { x with
      targetKind := .refund, target := x.tendered, state := .planning, cancelPending := false })
    (q := .refund) nofun hserve hpay hwork rfl rfl rfl rfl

theorem State.laneWorkFollows.beginSettle (hstate : (s.sale l).state = .tendering) :
    (s.beginSettle l).laneWorkFollows := by
  have hplan : (s.sale l).state ≠ .planning := by rw [hstate]; nofun
  have hpay : (s.sale l).state ≠ .paying := by rw [hstate]; nofun
  unfold State.beginSettle
  dsimp only
  generalize roundChange s.limits.roundingUnit ((s.sale l).tendered - (s.sale l).due) = target
  split
  · have hsale (f : Sale → Sale) : (s.modSale l f).sale l = f (s.sale l) := s.sale_modSale_self l f
    exact ((State.keepsLanes_modSale rfl).follows h).closeSale (by rw [hsale]; exact hplan) (by rw [hsale]; exact hpay) _
  · exact h.place (f := fun x => { x with targetKind := .change, target := target, state := .planning })
      (q := .settle) nofun ((h.lane l).serves (by rw [hstate]; nofun)) hpay
      (fun r hr => (h.lane l).unasked hplan hpay r (.inr hr)) rfl rfl rfl rfl

end

/-! ### The planner's next request -/

theorem State.laneWaiting_some {s : State} {isClass : LaneRequest → Bool} {l : Lane}
    (h : s.laneWaiting isClass = some l) : ∃ r, s.planner.waitingLane.get l = some r ∧ isClass r = true := by
  unfold State.laneWaiting at h
  extract_lets waits other at h
  have hwaits : ∀ m, waits m = true → ∃ r, s.planner.waitingLane.get m = some r ∧ isClass r = true := by
    intro m hm
    cases hw : s.planner.waitingLane.get m with
    | none => simp only [waits, hw] at hm; exact absurd hm nofun
    | some r => simp only [waits, hw] at hm; exact ⟨r, rfl, hm⟩
  split at h
  · rename_i hw; obtain rfl := Option.some.inj h; exact hwaits _ hw
  · split at h
    · rename_i hw; obtain rfl := Option.some.inj h; exact hwaits _ hw
    · exact absurd h nofun

/-- The lane request the planner takes next waits in its lane's slot (R73). -/
theorem State.nextJob_lane {s : State} {l : Lane} {r : LaneRequest} (h : s.nextJob = some (.lane l r)) :
    s.planner.waitingLane.get l = some r := by
  unfold State.nextJob at h
  split at h
  · rename_i m hm
    obtain ⟨q, hq, hc⟩ := State.laneWaiting_some hm
    obtain ⟨rfl, rfl⟩ := Job.lane.inj (Option.some.inj h)
    rw [hq, eq_of_beq hc]
  · split at h
    · rename_i m hm
      obtain ⟨q, hq, -⟩ := State.laneWaiting_some hm
      rw [hq] at h
      obtain ⟨rfl, rfl⟩ := Job.lane.inj (Option.some.inj h)
      exact hq
    · cases hs : s.planner.waitingSkim <;> rw [hs] at h <;> exact absurd h nofun

/-- The lane's sale when its request is taken: a make-up takes what is owed with it (R42). -/
theorem State.takeJob_lane (s : State) (l m : Lane) (r : LaneRequest) : (s.takeJob (.lane l r)).lane m =
    if m = l ∧ r = .makeup then { s.lane l with sale := { s.sale l with owed := 0 } } else s.lane m := by
  cases r with
  | makeup =>
    by_cases hm : m = l
    · subst hm; rw [if_pos ⟨rfl, rfl⟩]; exact s.lane_setLane_self m _
    · rw [if_neg (fun h => hm h.1)]; exact s.lane_setLane_ne l m _ hm
  | settle => exact (if_neg (fun h => absurd h.2 nofun)).symm
  | refund => exact (if_neg (fun h => absurd h.2 nofun)).symm

theorem State.takeJob_planner (s : State) (l : Lane) (r : LaneRequest) :
    (s.takeJob (.lane l r)).planner.waitingLane = s.planner.waitingLane.set l none ∧
    (s.takeJob (.lane l r)).jobInWork = some (.lane l r) := by cases r <;> exact ⟨rfl, rfl⟩

section
variable {s : State} (h : s.laneWorkFollows)
include h

theorem State.laneWorkFollows.takeNext : s.takeNext.laneWorkFollows := by
  unfold State.takeNext
  split
  · exact h
  rename_i hfree
  have hidle : s.jobInWork = none := by rw [State.jobInWork, hfree]; rfl
  split
  · rename_i job hjob
    cases job with
    | skim q =>
      refine State.keepsLanes.follows (s := s) (fun m => .of_lane rfl rfl (fun r => ?_) (.of_same rfl)) h
      rw [hidle]
      exact ⟨fun hr => absurd (Option.some.inj hr) nofun, nofun⟩
    | lane l r =>
      have hwait := State.nextJob_lane hjob
      obtain ⟨hwaits, hwork⟩ := s.takeJob_planner l r
      obtain ⟨-, -, -, -, -, -, -, -, -, hpool, -⟩ := s.takeJob_frame (.lane l r)
      have hmode : (s.takeJob (.lane l r)).mode l = s.mode l ∧
          ((s.takeJob (.lane l r)).sale l).state = (s.sale l).state := by
        rw [State.mode, State.sale, s.takeJob_lane]
        split <;> exact ⟨rfl, rfl⟩
      have asked : ∀ q, (s.takeJob (.lane l r)).laneAsked l q → s.laneAsked l q := by
        rintro q (hq | hq)
        · rw [hwaits, PerLane.get_set_self] at hq; exact absurd hq nofun
        · rw [hwork] at hq
          obtain ⟨-, rfl⟩ := Job.lane.inj (Option.some.inj hq)
          exact .inl hwait
      refine h.change_lane (l := l) ⟨fun hs => ?_, fun hq => ?_, fun hq => ?_, fun hs => ?_, fun q hq ho => ?_⟩
        fun m hm => .of_lane ?_ ?_ (fun q => ?_) (.of_pool hpool)
      · rw [hmode.1]; exact (h.lane l).serves (hmode.2 ▸ hs)
      · rw [hmode.2]; exact (h.lane l).plans (hq.imp (asked _) (asked _))
      · rw [hmode.2]; exact (h.lane l).makesUp (asked _ hq)
      · rw [hwaits, PerLane.get_set_self] at hs; exact absurd hs nofun
      · rw [hmode.2]; exact (h.lane l).pays q (hpool ▸ hq) ho
      · rw [s.takeJob_lane, if_neg (fun hx => hm hx.1)]
      · rw [hwaits, PerLane.get_set_ne _ _ _ _ hm]
      · rw [hwork, hidle]
        exact ⟨fun hr => absurd (Job.lane.inj (Option.some.inj hr)).1.symm hm, nofun⟩
  · exact h

/-! ### The close of an event -/

theorem State.laneWorkFollows.closeEvent : s.closeEvent.laneWorkFollows :=
  State.keepsLanes.follows (.of_same rfl rfl rfl) h

theorem State.laneWorkFollows.settleWork : s.settleWork.laneWorkFollows := by
  have hpaths : s.settlePaths.laneWorkFollows :=
    State.keepsLanes.follows (.of_same (by simp) (by simp) (by simp)) h
  have hnext := (hpaths.settleSale (l := .one)).settleSale (l := .two) |>.takeNext
  unfold State.settleWork
  exact State.keepsLanes.follows (.of_same (by simp) (by simp) (by simp)) hnext

theorem State.laneWorkFollows.finish : s.finish.laneWorkFollows := h.settleWork.closeEvent

end

end Sys2Proof.Machine
end

section
/-! SUPPORT. Lane work through the events of the stores, the intake, the channels and the chutes. -/

namespace Sys2Proof.Machine

namespace State.keepsLanes

variable {s t : State} (h : s.keepsLanes t)
include h

/-- A further change that leaves the lanes, the planner and the pool. -/
theorem same {u : State} (hlanes : u.lanes = t.lanes) (hplan : u.planner = t.planner)
    (hpool : u.pool = t.pool) : s.keepsLanes u := h.trans (.of_same hlanes hplan hpool)

/-! ### Bookings, marks and cassettes -/

theorem book (c : Counter) (d : Denom) (n : Nat) : s.keepsLanes (t.book c d n) :=
  h.trans (t.book_onlyBooks c d n).keepsLanes

theorem bookAdjusted (d : Denom) (n : Int) : s.keepsLanes (t.bookAdjusted d n) :=
  h.same (by simp) (by simp) (by simp)

theorem bookAdjustedStore (k : StoreId) (n : Int) : s.keepsLanes (t.bookAdjustedStore k n) :=
  h.same (by simp) (by simp) (by simp)

theorem bookStore (c : Counter) (k : StoreId) (n : Nat) : s.keepsLanes (t.bookStore c k n) :=
  h.same (by simp) (by simp) (by simp)

theorem bookUnplaced (f : Fill) : s.keepsLanes (t.bookUnplaced f) := h.same (by simp) (by simp) (by simp)

theorem modStore (k : StoreId) (f : Store → Store) : s.keepsLanes (t.modStore k f) := h.same rfl rfl rfl

theorem modBox (k : Kind) (f : Cashbox → Cashbox) : s.keepsLanes (t.modBox k f) := h.same rfl rfl rfl

theorem modRecord (slot : SlotId) {f : Stroke → Stroke} (hf : ∀ r, (f r).owner = r.owner) :
    s.keepsLanes (t.modRecord slot f) := h.trans (t.keepsLanes_modRecord slot hf)

theorem modSale (l : Lane) {f : Sale → Sale} (hf : (f (t.sale l)).state = (t.sale l).state) :
    s.keepsLanes (t.modSale l f) := h.trans (State.keepsLanes_modSale hf)

theorem endStrokes (how : Stroke → Option (Ending × Nat)) : s.keepsLanes (t.endStrokes how) :=
  h.trans (t.keepsLanes_endStrokes how)

theorem release {r : Stroke} (hr : ∃ q ∈ t.pool.records, q.owner = r.owner) (n : Nat) :
    s.keepsLanes (t.release r n) := h.trans (State.keepsLanes_release hr n)

theorem lowerStroke {r : Stroke} (hr : r ∈ t.pool.records) : s.keepsLanes (t.lowerStroke r) :=
  h.trans (State.keepsLanes_lowerStroke hr)

theorem markUncertain (k : StoreId) : s.keepsLanes (t.markUncertain k) := by
  rw [t.markUncertain_cases]
  split
  · exact (h.modStore k _).endStrokes _
  split
  · exact h.modStore k _
  · exact h

theorem pullCassette (k : StoreId) : s.keepsLanes (t.pullCassette k) := by
  rw [t.pullCassette_eq]
  have hended := (h.bookStore .removed k (t.store k).physical).endStrokes
    (endOnStore (t.store k).channel.slot? k true (t.store k).channel.holdsNothing)
  exact (hended.trans (State.foldl_bookUnplaced_onlyBooks _ _).keepsLanes).same rfl rfl rfl

theorem levelReported (k : StoreId) : s.keepsLanes (t.levelReported k) := by
  unfold State.levelReported
  split
  · exact h.markUncertain k
  · exact h

/-! ### Cashboxes -/

theorem stopRunningSkim (k : Kind) : s.keepsLanes (t.stopRunningSkim k) := by
  unfold State.stopRunningSkim
  split
  · exact h
  · rename_i r hr
    split
    · refine (h.modStore _ _).release ?_ _
      exact ⟨r, (State.runningSkim_some hr).1, rfl⟩
    · exact h
    · exact h

/-! ### Fills -/

theorem confirmFill (k : StoreId) (f : Fill) (rest : List Fill) : s.keepsLanes (t.confirmFill k f rest) := by
  unfold State.confirmFill
  dsimp only
  split
  · exact h.modStore k _
  split
  · exact ((h.modStore k _).modStore k _).book _ _ _
  · exact (h.modStore k _).markUncertain k

theorem strayEntry (k : StoreId) : s.keepsLanes (t.strayEntry k) := by
  unfold State.strayEntry
  split
  · exact h
  split
  · exact h
  split
  · exact ((h.modStore k _).bookAdjusted _ 1).markUncertain k
  · exact h.markUncertain k

/-! ### Pieces -/

theorem countedPiece (r : Stroke) (d : Denom) : s.keepsLanes (t.countedPiece r d) := by
  unfold State.countedPiece
  split
  · refine (h.modSale _ ?_).book _ _ _; rfl
  · exact (h.modBox _ _).book _ _ _

theorem drivePiece (k : StoreId) (r : Stroke) (d : Denom) : s.keepsLanes (t.drivePiece k r d) := by
  unfold State.drivePiece
  dsimp only
  split
  · refine ((h.modRecord r.slot ?_).modStore k _).countedPiece r d
    exact fun _ => rfl
  · refine (((h.modRecord r.slot ?_).modStore k _).countedPiece r d).modStore k _
    exact fun _ => rfl

theorem boxOverPay (k : Kind) (d : Denom) : s.keepsLanes (t.boxOverPay k d) := by
  unfold State.boxOverPay
  dsimp only
  split
  · exact h.modBox k _
  split
  · split
    · rename_i r hr
      exact (h.modBox k _).lowerStroke (Pool.latest?_some hr).1
    · exact (h.modBox k _).modBox k _
  split
  · exact (h.modBox k _).modBox k _
  · exact h.bookAdjusted d (-1)

theorem overPaidPiece (r : Stroke) (d : Denom) : s.keepsLanes (t.overPaidPiece r d) := by
  unfold State.overPaidPiece
  split
  · refine (h.modSale _ ?_).book _ _ _; rfl
  · exact (h.boxOverPay _ d).book _ _ _

theorem absorbDeficit (k : StoreId) : s.keepsLanes (t.absorbDeficit k) := by
  unfold State.absorbDeficit
  split
  · split
    · rename_i r hr; exact h.lowerStroke (Pool.latest?_some hr).1
    · exact h
  · exact h

theorem overPay (k : StoreId) (r : Stroke) (d : Denom) : s.keepsLanes (t.overPay k r d) := by
  unfold State.overPay
  split
  · exact (((h.modStore k _).overPaidPiece r d).absorbDeficit k).endStrokes _
  · exact (((h.bookAdjusted d 1).overPaidPiece r d).markUncertain k).endStrokes _

theorem unbidden (k : StoreId) : s.keepsLanes (t.unbidden k) := by
  have counted : s.keepsLanes (if 0 < (t.store k).physical then
      (t.modStore k (fun x => { x with physical := x.physical - 1 })).bookAdjustedStore k (-1) else t) := by
    split
    · exact (h.modStore k _).bookAdjustedStore k _
    · exact h
  unfold State.unbidden
  dsimp only
  split
  · exact counted.markUncertain k
  · exact counted
  · exact counted
  all_goals exact h

/-! ### Chutes and the planner's skims -/

theorem shutPresenter (l : Lane) (k : Kind) (occupied : Bool) :
    s.keepsLanes (t.shutPresenter l k occupied) := by
  unfold State.shutPresenter
  split
  · exact h.same rfl rfl rfl
  · exact h

theorem expireTimer (l : Lane) : s.keepsLanes (t.modSale l Sale.expireTimer) := by
  refine h.modSale l ?_
  unfold Sale.expireTimer
  split <;> rfl

theorem adviseSkim (l : Lane) (d : Denom) : s.keepsLanes (t.adviseSkim l d) := by
  unfold State.adviseSkim
  split
  · exact h.same rfl rfl rfl
  · exact h

end State.keepsLanes

/-! ### A piece credited to a sale -/

/-- A piece that is not refused by its route is let in by its lane (R56). -/
theorem State.laneTakes_of_route {s : State} {l : Lane} {k : Kind} {code : ClassCode}
    (h : s.route l k code ≠ .refuse) : s.mode l = .serve → (s.sale l).state = .tendering := by
  intro hm
  unfold State.route at h
  split at h
  · exact absurd rfl h
  split at h
  · exact absurd rfl h
  split at h
  · exact absurd rfl h
  · rename_i htakes
    simp only [State.laneTakes, hm, Bool.not_eq_true', Bool.not_eq_false, Bool.and_eq_true, beq_iff_eq]
      at htakes
    exact htakes.1

theorem State.laneWorkFollows.credit {s : State} (h : s.laneWorkFollows) {l : Lane}
    (hstate : (s.sale l).state = .tendering) (v : Nat) : (s.credit l v).laneWorkFollows := by
  have hcredited := (State.keepsLanes_modSale (s := s) (l := l)
    (f := fun x => { x with tendered := x.tendered + v }) rfl).follows h
  unfold State.credit
  dsimp only
  split
  · split
    · exact hcredited.beginSettle ((congrArg Sale.state (s.sale_modSale_self l _)).trans hstate)
    · exact State.keepsLanes.follows (.of_same rfl rfl rfl) hcredited
  · exact hcredited

theorem State.laneWorkFollows.creditIfServing {s : State} (h : s.laneWorkFollows) {l : Lane}
    (hstate : s.mode l = .serve → (s.sale l).state = .tendering) (v : Nat) :
    (s.creditIfServing l v).laneWorkFollows := by
  unfold State.creditIfServing
  split
  · rename_i hm; exact h.credit (hstate hm) v
  · exact h
  · exact h

/-- ROUTE_DECISION's changes (R58–R62). -/
theorem State.laneWorkFollows.applyRoute {s : State} (h : s.laneWorkFollows) (l : Lane) (k : Kind)
    (code : ClassCode) : (s.applyRoute l k (s.route l k code)).laneWorkFollows := by
  have htakes := State.laneTakes_of_route (s := s) (l := l) (k := k) (code := code)
  have credits {t : State} (hr : s.route l k code ≠ .refuse) (ht : s.keepsLanes t) (v : Nat) :
      (t.creditIfServing l v).laneWorkFollows :=
    (ht.follows h).creditIfServing (fun hm => (ht l).state.trans (htakes hr ((ht l).mode ▸ hm))) v
  have self := State.keepsLanes.refl s
  cases hr : s.route l k code with
  | refuse => exact h
  | noRoom => exact (self.same rfl rfl rfl).follows h
  | store j d => exact credits (by rw [hr]; nofun) (self.modStore j _) _
  | cashbox d => exact credits (by rw [hr]; nofun) (((self.modBox k _).book _ d 1).adviseSkim l d) _

theorem State.laneWorkFollows.routeDecision {s : State} (h : s.laneWorkFollows) (l : Lane) (k : Kind)
    (code : ClassCode) (x : Head) :
    ((s.route l k code).close ((s.applyRoute l k (s.route l k code)).setHead l k x)).laneWorkFollows := by
  have hset : ((s.applyRoute l k (s.route l k code)).setHead l k x).laneWorkFollows :=
    State.keepsLanes.follows (.of_same rfl rfl rfl) (h.applyRoute l k code)
  generalize (s.applyRoute l k (s.route l k code)).setHead l k x = t at hset
  cases s.route l k code with
  | refuse => exact hset.closeEvent
  | noRoom => exact hset.closeEvent
  | store => exact hset.finish
  | cashbox => exact hset.finish

end Sys2Proof.Machine
end

section
/-! SUPPORT. Lane work through the completion of an attempt (R91–R93). -/

namespace Sys2Proof.Machine

/-- A part that answers a lane's request in work: the lane, in SERVE, has nothing at the planner any more, and the
other lane is in step. -/
structure State.Answers (s : State) (l : Lane) : Prop where
  others : ∀ m, m ≠ l → s.LaneWork m
  serves : s.mode l = .serve
  unasked : ∀ q, ¬s.laneAsked l q

section
variable {s t : State} {l : Lane} {f : Sale → Sale}

/-- The answer writes the lane's sale. -/
theorem State.Answers.follows (h : s.Answers l) (hlanes : t.lanes = (s.modSale l f).lanes)
    (hplan : t.planner = s.planner) (hpool : t.pool = s.pool)
    (hstate : s.hasStrokes l → (f (s.sale l)).state = .paying) : t.laneWorkFollows := by
  have hlane : ∀ m, t.lane m = (s.modSale l f).lane m :=
    fun m => congrArg (fun v : PerLane LaneControl => v.get m) hlanes
  have hjob : t.jobInWork = s.jobInWork := State.jobInWork_congr (congrArg Planner.work hplan)
  have hasked : ∀ q, ¬t.laneAsked l q := fun q hq => h.unasked q (by
    unfold State.laneAsked at hq ⊢
    rw [← hplan, ← hjob]; exact hq)
  have hsale : (t.sale l).state = (f (s.sale l)).state :=
    congrArg Sale.state ((congrArg LaneControl.sale (hlane l)).trans (s.sale_modSale_self l f))
  refine t.laneWorkFollows_iff.mpr fun m => ?_
  by_cases hm : m = l
  · subst hm
    refine ⟨fun _ => ?_, fun hq => absurd hq (not_or.mpr ⟨hasked _, hasked _⟩), fun hq => absurd hq (hasked _),
      fun _ q hq => hasked q (.inr hq), fun r hr ho => ?_⟩
    · exact ((congrArg LaneControl.mode (hlane m)).trans (s.mode_modSale m m f)).trans h.serves
    · exact hsale.trans (hstate ⟨r, hpool ▸ hr, ho⟩)
  · refine (h.others m hm).keeps (.of_lane ?_ (by rw [hplan]) (fun q => by rw [hjob]) (.of_pool hpool))
    exact (hlane m).trans (s.lane_setLane_ne l m _ hm)

/-- A make-up is placed for a lane in PAYING with none of its requests in work (R42). -/
theorem State.laneWorkFollows.placeMakeup (h : s.laneWorkFollows) (hstate : (s.sale l).state = .paying)
    (hwork : ∀ q, s.jobInWork ≠ some (.lane l q)) : (s.placeLane l (some .makeup)).laneWorkFollows := by
  have hwaits : ∀ m, (s.placeLane l (some .makeup)).planner.waitingLane.get m =
      if m = l then some .makeup else s.planner.waitingLane.get m := by
    intro m
    split
    · rename_i hm; subst hm; exact PerLane.get_set_self ..
    · rename_i hm; exact PerLane.get_set_ne _ _ _ _ hm
  refine h.change_lane (l := l) (.of_paying ?_ hstate (fun q hq => ?_) fun _ => hwork) fun m hm =>
    .of_lane rfl ((hwaits m).trans (if_neg hm)) (fun _ => Iff.rfl) (.of_same rfl)
  · exact (h.lane l).serves (by rw [hstate]; nofun)
  · rcases hq with hq | hq
    · rw [hwaits, if_pos rfl] at hq; exact (Option.some.inj hq).symm
    · exact absurd hq (hwork q)

theorem State.laneWorkFollows.nextMakeup (h : s.laneWorkFollows) (hstate : (s.sale l).state = .paying)
    (hwork : ∀ q, s.jobInWork ≠ some (.lane l q)) : (s.nextMakeup l).laneWorkFollows := by
  unfold State.nextMakeup
  split
  · exact h.placeMakeup hstate hwork
  · exact h

end

theorem State.laneAsked_work {s : State} {w : Work} (hw : s.planner.work = some w) {l : Lane} {q : LaneRequest}
    (hjob : w.job = .lane l q) : s.laneAsked l q := .inr (by rw [State.jobInWork, hw, ← hjob]; rfl)

section
variable {s : State} (h : s.laneWorkFollows) {w : Work} (hw : s.planner.work = some w)
include h hw

/-- Where the request in work is a lane's, a part that has set it aside answers it; a plan may have been laid
down for the lane. -/
theorem State.laneWorkFollows.answers {l : Lane} {q : LaneRequest} (hjob : w.job = .lane l q) {t : State}
    (hlanes : t.lanes = s.lanes) (hplan : t.planner = s.freePlanner.planner)
    (hrec : ∀ m, m ≠ l → t.hasStrokes m → s.hasStrokes m) : t.Answers l := by
  have hlane : ∀ m, t.lane m = s.lane m := fun m => congrArg (fun v : PerLane LaneControl => v.get m) hlanes
  have hwork : s.jobInWork = some (.lane l q) := by rw [State.jobInWork, hw, ← hjob]; rfl
  have hwaits : ∀ m, t.planner.waitingLane.get m = s.planner.waitingLane.get m := by
    intro m; rw [hplan]; rfl
  have hfree : t.jobInWork = none := by rw [State.jobInWork, hplan]; rfl
  have hbusy : (s.sale l).state ≠ .idle := by
    intro hidle
    exact (h.lane l).unasked (by rw [hidle]; nofun) (by rw [hidle]; nofun) q (.inr hwork)
  refine ⟨fun m hm => (h.lane m).keeps ?_, ?_, fun r hr => ?_⟩
  · refine ⟨congrArg (fun x : LaneControl => x.sale.state) (hlane m), congrArg LaneControl.mode (hlane m),
      .inl (hwaits m), fun r => ?_, hrec m hm⟩
    rw [hfree, hwork]
    exact ⟨nofun, fun hx => absurd (Job.lane.inj (Option.some.inj hx)).1.symm hm⟩
  · exact (congrArg LaneControl.mode (hlane l)).trans ((h.lane l).serves hbusy)
  · rcases hr with hr | hr
    · rw [hwaits, (h.lane l).none_waits hwork] at hr; exact absurd hr nofun
    · rw [hfree] at hr; exact absurd hr nofun

theorem State.laneWorkFollows.planning {l : Lane} {q : LaneRequest} (hjob : w.job = .lane l q)
    (hq : q ≠ .makeup) : (s.sale l).state = .planning := by
  have hasked := State.laneAsked_work hw hjob
  cases q with
  | settle => exact (h.lane l).plans (.inl hasked)
  | refund => exact (h.lane l).plans (.inr hasked)
  | makeup => exact absurd rfl hq

theorem State.laneWorkFollows.paying {l : Lane} (hjob : w.job = .lane l .makeup) :
    (s.sale l).state = .paying := (h.lane l).makesUp (State.laneAsked_work hw hjob)

/-- An office request that is over leaves the lanes as they stood (R71). -/
theorem State.laneWorkFollows.skim_over {r : SkimRequest} (hjob : w.job = .skim r) {t : State}
    (hlanes : t.lanes = s.lanes) (hplan : t.planner = s.freePlanner.planner)
    (hrec : ∀ m, t.hasStrokes m → s.hasStrokes m) : t.laneWorkFollows := by
  refine State.keepsLanes.follows (s := s) (fun l => ?_) h
  have hlane : t.lane l = s.lane l := congrArg (fun v : PerLane LaneControl => v.get l) hlanes
  refine ⟨congrArg (fun x : LaneControl => x.sale.state) hlane, congrArg LaneControl.mode hlane,
    .inl (by rw [hplan]; rfl), fun q => ?_, hrec l⟩
  have hfree : t.jobInWork = none := by rw [State.jobInWork, hplan]; rfl
  have hwork : s.jobInWork = some (.skim r) := by rw [State.jobInWork, hw, ← hjob]; rfl
  rw [hfree, hwork]
  exact ⟨nofun, fun hx => absurd (Option.some.inj hx) nofun⟩

/-- What hands back the answer to a make-up: the sale's shortfall and committed counts, and the next make-up. -/
theorem State.laneWorkFollows.makeup_over {l : Lane} (hjob : w.job = .lane l .makeup) {t : State}
    (hlanes : t.lanes = s.lanes) (hplan : t.planner = s.freePlanner.planner)
    (hrec : ∀ m, m ≠ l → t.hasStrokes m → s.hasStrokes m) {f : Sale → Sale}
    (hf : (f (t.sale l)).state = (t.sale l).state) :
    (t.modSale l f).laneWorkFollows ∧ ((t.modSale l f).nextMakeup l).laneWorkFollows := by
  have hstate : (f (t.sale l)).state = .paying := by
    rw [hf, State.sale, State.lane, hlanes]; exact h.paying hw hjob
  have hover : (t.modSale l f).laneWorkFollows :=
    (h.answers hw hjob hlanes hplan hrec).follows (f := f) rfl rfl rfl fun _ => hstate
  refine ⟨hover, hover.nextMakeup (by rw [State.sale_modSale_self]; exact hstate) fun q => ?_⟩
  have hfree : (t.modSale l f).jobInWork = none := 
    State.jobInWork_congr (s := s.freePlanner) (congrArg Planner.work hplan)
  rw [hfree]
  exact nofun

theorem State.laneWorkFollows.handBack {t : State} (hlanes : t.lanes = s.lanes)
    (hplan : t.planner = s.freePlanner.planner)
    (hrec : ∀ m, .lane m ≠ w.job.owner → t.hasStrokes m → s.hasStrokes m) (plan : Plan) :
    (t.handBack w.job plan).laneWorkFollows := by
  cases hjob : w.job with
  | skim r => exact h.skim_over hw hjob hlanes hplan fun m => hrec m (by rw [hjob]; nofun)
  | lane l q =>
    have hrec' : ∀ m, m ≠ l → t.hasStrokes m → s.hasStrokes m := fun m hm =>
      hrec m (by rw [hjob]; exact fun hx => hm (Owner.lane.inj hx))
    have answers := h.answers hw hjob hlanes hplan hrec'
    cases q with
    | settle => exact answers.follows (f := _) rfl rfl rfl fun _ => rfl
    | refund => exact answers.follows (f := _) rfl rfl rfl fun _ => rfl
    | makeup => refine (h.makeup_over hw hjob hlanes hplan hrec' ?_).2; rfl

/-- A settle goes back to TENDERING (R36). -/
theorem State.laneWorkFollows.refuseSettle {l : Lane} (hjob : w.job = .lane l .settle) (result : SettleResult) :
    (s.freePlanner.refuseSettle l result).laneWorkFollows := by
  have hplanning := h.planning hw hjob nofun
  refine (h.answers hw hjob (t := s.freePlanner) rfl rfl fun _ _ => id).follows (f := fun x =>
    { x with lastResult := result, target := 0, targetKind := .none, state := .tendering }) rfl rfl rfl ?_
  rintro ⟨r, hr, ho⟩
  exact absurd (hplanning.symm.trans ((h.lane l).pays r hr ho)) nofun

theorem State.laneWorkFollows.handStockChanged (target : Nat) :
    (s.freePlanner.handStockChanged w.job target).laneWorkFollows := by
  cases hjob : w.job with
  | skim r => exact h.skim_over hw hjob (t := s.freePlanner) rfl rfl fun _ => id
  | lane l q =>
    cases q with
    | settle => exact h.refuseSettle hw hjob _
    | refund =>
      exact (h.answers hw hjob (t := s.freePlanner) rfl rfl fun _ _ => id).follows (f := _) rfl rfl rfl
        fun _ => rfl
    | makeup => refine (h.makeup_over hw hjob (t := s.freePlanner) rfl rfl (fun _ _ => id) ?_).2; rfl

theorem State.laneWorkFollows.recompute : (s.recompute w).laneWorkFollows := by
  unfold State.recompute
  split
  · refine State.keepsLanes.follows (s := s) (.of_frame rfl rfl ?_ (.of_same rfl)) h
    rw [State.jobInWork, State.jobInWork, hw]; rfl
  · exact h.handStockChanged hw _

theorem State.laneWorkFollows.completeWithdrawn (hback : s.withdrawn w = true) :
    (s.freePlanner.completeWithdrawn w).laneWorkFollows := by
  have free {r : SkimRequest} (hjob : w.job = .skim r) : s.freePlanner.laneWorkFollows :=
    h.skim_over hw hjob rfl rfl fun _ => id
  unfold State.withdrawn at hback
  unfold State.completeWithdrawn
  cases hjob : w.job with
  | skim r => exact free hjob
  | lane l q =>
    rw [hjob] at hback
    cases q with
    | settle =>
      have hplanning := h.planning hw hjob nofun
      have answers := h.answers hw hjob (t := s.freePlanner) rfl rfl fun _ _ => id
      have hfree : s.freePlanner.laneWorkFollows := answers.follows (f := id) (by
        cases l <;> rfl) rfl rfl (fun ⟨r, hr, ho⟩ => (h.lane l).pays r hr ho)
      exact hfree.beginRefund answers.serves (fun hx => absurd (hplanning.symm.trans hx) nofun) nofun
    | refund => exact absurd hback nofun
    | makeup => refine (h.makeup_over hw hjob (t := s.freePlanner) rfl rfl (fun _ _ => id) ?_).1; rfl

theorem State.laneWorkFollows.completeRefused (hno : w.refuses (w.plan s.limits) = true) :
    (s.freePlanner.completeRefused w).laneWorkFollows := by
  unfold Work.refuses at hno
  unfold State.completeRefused
  cases hjob : w.job with
  | skim r => rw [hjob] at hno; exact absurd hno nofun
  | lane l q =>
    cases q with
    | settle => exact h.refuseSettle hw hjob _
    | refund => rw [hjob] at hno; exact absurd hno nofun
    | makeup => rw [hjob] at hno; exact absurd hno nofun

end

/-- The strokes of a plan are its owner's (R87, R97). -/
theorem State.hasStrokes_layDown {s t : State} {job : Job} {plan : Plan} (hpool : t.pool = s.pool)
    (hroom : plan.strokes.length ≤ t.pool.free.length) {m : Lane} (hm : .lane m ≠ job.owner)
    (h : (t.layDown job plan).hasStrokes m) : s.hasStrokes m := by
  obtain ⟨r, hr, ho⟩ := h
  have hwrite : (t.layDown job plan).pool = t.pool.write job.owner job.origin plan.strokes := by
    cases job <;> rfl
  rw [hwrite, Pool.write_eq _ _ _ _ hroom] at hr
  rcases List.mem_append.mp hr with hr | hr
  · exact ⟨r, hpool ▸ hr, ho⟩
  · obtain ⟨slot, -, x, -, rfl⟩ := mem_writtenOf (o := job.owner) (origin := job.origin) hr
    exact absurd ho.symm hm

theorem State.laneWorkFollows.completeAttempt {s t : State} (h : s.laneWorkFollows) {w : Work}
    (hw : s.planner.work = some w) (ht : s.completeAttempt w = some t) : t.laneWorkFollows := by
  unfold State.completeAttempt at ht
  dsimp only at ht
  split at ht
  · rename_i hback; cases ht; exact h.completeWithdrawn hw hback
  split at ht
  · rename_i hno; cases ht; exact h.completeRefused hw hno
  split at ht
  · cases ht; exact h.handBack hw (t := s.freePlanner) rfl rfl (fun _ _ => id) _
  split at ht
  · cases ht; exact h.recompute hw
  · rename_i u hu
    split at hu
    · split at ht
      · rename_i hroom
        cases ht
        have heq := (State.reserveAll_some hu).1
        have hpool : u.pool = s.pool := by rw [heq]
        have hlaid : ∀ v : State, (v.layDown w.job (w.plan s.limits)).lanes = v.lanes ∧
            (v.layDown w.job (w.plan s.limits)).planner = v.planner := by
          intro v; cases w.job <;> exact ⟨rfl, rfl⟩
        refine h.handBack hw (t := (u.layDown w.job (w.plan s.limits)).freePlanner) ?_ ?_
          (fun m hm hs => State.hasStrokes_layDown hpool hroom hm hs) _
        · exact (hlaid u).1.trans (by rw [heq])
        · have hplanner : u.planner = s.planner := by rw [heq]
          unfold State.freePlanner
          dsimp only
          rw [(hlaid u).2, hplanner]
      · cases ht
    · cases hu

end Sys2Proof.Machine
end

section
/-! SUPPORT. Requests through the link: what a performed request keeps, a frame taken and a reply sent keep; and
the requests that leave every sale, stroke and plan as it stands. -/

namespace Sys2Proof.Machine

/-! ### The link -/

/-- What holds before a request is performed (`P`) gives what holds after it (`Q`), and neither is about the
ports. -/
structure RequestsKeep (P Q : State → Prop) : Prop where
  portBefore : ∀ s p f, P s → P (s.modPort p f)
  portAfter : ∀ s p f, Q s → Q (s.modPort p f)
  still : ∀ s, P s → Q s
  restarts : ∀ s, P s → Q { s with phase := .startingUp }
  performs : ∀ s r p payload, P s → Q (performRequest r p payload s).1

namespace RequestsKeep

variable {P Q : State → Prop} (keep : RequestsKeep P Q) {s : State} (h : P s)
include keep h

theorem serveRequest (r : Request) (p : Port) (payload : List Byte) : Q (serveRequest r p payload s).1 := by
  unfold Machine.serveRequest
  split
  · exact keep.still s h
  split
  · exact keep.still s h
  split
  · exact keep.still s h
  · exact keep.performs s r p payload h

theorem takeFrame (p : Port) (f : Frame) : Q (s.takeFrame p f) := by
  unfold State.takeFrame
  split
  · exact keep.still s h
  split
  · exact keep.portAfter _ p _ (keep.still s h)
  split
  · exact keep.portAfter _ p _ (keep.still s h)
  · unfold State.serveAndReply State.sendReply
    exact keep.portAfter _ p _ (keep.serveRequest h _ p _)

theorem takeHeld (p : Port) : Q (s.takeHeld p) := by
  unfold State.takeHeld
  split
  · exact keep.takeFrame (keep.portBefore s p _ h) p _
  · exact keep.still s h
  · exact keep.still s h

theorem offerFrame (p : Port) (f : Frame) : Q (s.offerFrame p f) := by
  unfold State.offerFrame
  split
  · exact keep.takeFrame h p f
  · exact keep.takeHeld (keep.portBefore s p _ h) p
  · exact keep.portAfter s p _ (keep.still s h)

theorem setReceiver (p : Port) (x : Receiver) : Q (s.setReceiver p x) := keep.portAfter s p _ (keep.still s h)

theorem takeByte (p : Port) (b : Byte) : Q (s.takeByte p b) := by
  unfold State.takeByte
  split
  · split
    · exact keep.setReceiver h p _
    · exact keep.still s h
  · split <;> exact keep.setReceiver h p _
  · split <;> exact keep.setReceiver h p _
  · exact keep.offerFrame (keep.portBefore s p _ h) p _

theorem replySent (p : Port) (r : Reply) : Q (s.replySent p r) := by
  unfold State.replySent
  dsimp only
  split
  · exact keep.restarts _ (keep.portBefore s p _ h)
  · exact keep.takeHeld (keep.portBefore s p _ h) p

end RequestsKeep

/-- An event of the running part, and its absence while the part is off or starts up (R53, R183, R186). -/
theorem State.whileRunning_keeps {Q : State → Prop} {s t : State} {event : State → State}
    (runs : s.phase = .running → Q (event s)) (idles : s.phase ≠ .running → Q s)
    (ht : s.whileRunning event = .next t) : Q t := by
  rw [s.whileRunning_next] at ht
  obtain rfl := Host.Outcome.next.inj ht
  split
  · exact runs ‹_›
  · exact idles ‹_›

section
variable {P Q : State → Prop} (keep : RequestsKeep P Q) {s t : State} (runs : s.phase = .running → P s)
  (idles : s.phase ≠ .running → Q s)
include keep runs idles

theorem RequestsKeep.requestArrives {r : Request} {p : Port} {payload : List Byte}
    (ht : requestArrives r p payload s = .next t) : Q t := by
  refine State.whileRunning_keeps (fun hp => ?_) idles ht
  split
  · exact keep.offerFrame (runs hp) p _
  · exact keep.still s (runs hp)

theorem RequestsKeep.unknownCode {p : Port} {body : List Byte} {check : Byte}
    (ht : execUnknownCode p body check s = .next t) : Q t := by
  refine State.whileRunning_keeps (fun hp => ?_) idles ht
  split
  · exact keep.offerFrame (runs hp) p _
  · exact keep.still s (runs hp)

theorem RequestsKeep.frameComplete {p : Port} {check : Byte}
    (ht : execFrameComplete p check s = .next t) : Q t := by
  refine State.whileRunning_keeps (fun hp => ?_) idles ht
  split
  · exact keep.offerFrame (keep.portBefore s p _ (runs hp)) p _
  all_goals exact keep.still s (runs hp)

theorem RequestsKeep.interByteGapExpiry {p : Port} (ht : execInterByteGapExpiry p s = .next t) : Q t :=
  State.whileRunning_keeps (fun hp => keep.setReceiver (runs hp) p _) idles ht

theorem RequestsKeep.replyTransmitEnd {p : Port} (ht : execReplyTransmitEnd p s = .next t) : Q t := by
  refine State.whileRunning_keeps (fun hp => ?_) idles ht
  split
  · exact keep.replySent (runs hp) p _
  · exact keep.still s (runs hp)

theorem RequestsKeep.byteReceived {p : Port} {b : Byte} {stopError : Bool}
    (ht : execByteReceived p b stopError s = .next t) : Q t := by
  refine State.whileRunning_keeps (fun hp => ?_) idles ht
  split
  · exact keep.setReceiver (runs hp) p _
  · exact keep.takeByte (runs hp) p b

end

/-! ### Requests that touch no sale, stroke or plan -/

/-- The lanes, the planner, the pool, and of the tables what gives a stroke its value and a store its stroke. -/
structure State.sameBooks (s t : State) : Prop where
  lanes : t.lanes = s.lanes
  planner : t.planner = s.planner
  pool : t.pool = s.pool
  denoms : t.denoms = s.denoms
  stores : ∀ k, (t.store k).denom = (s.store k).denom ∧ (t.store k).channel = (s.store k).channel

theorem State.sameBooks.refl (s : State) : s.sameBooks s := ⟨rfl, rfl, rfl, rfl, fun _ => ⟨rfl, rfl⟩⟩

theorem State.sameBooks.trans {s t u : State} (h : s.sameBooks t) (h' : t.sameBooks u) : s.sameBooks u where
  lanes := h'.lanes.trans h.lanes
  planner := h'.planner.trans h.planner
  pool := h'.pool.trans h.pool
  denoms := h'.denoms.trans h.denoms
  stores k := ⟨(h'.stores k).1.trans (h.stores k).1, (h'.stores k).2.trans (h.stores k).2⟩

theorem State.sameBooks.of_stores {s t : State} (hlanes : t.lanes = s.lanes) (hplan : t.planner = s.planner)
    (hpool : t.pool = s.pool) (hdenoms : t.denoms = s.denoms) (hst : t.stores = s.stores) : s.sameBooks t :=
  ⟨hlanes, hplan, hpool, hdenoms, fun k => by rw [State.store_congr hst]; exact ⟨rfl, rfl⟩⟩

theorem State.sameBooks.keepsLanes {s t : State} (h : s.sameBooks t) : s.keepsLanes t :=
  .of_same h.lanes h.planner h.pool

namespace State.sameBooks

variable {s t : State} (h : s.sameBooks t)
include h

/-- A store's figures, state and fills are no part of the books. -/
theorem modStore (k : StoreId) {f : Store → Store}
    (hf : ∀ x, (f x).denom = x.denom ∧ (f x).channel = x.channel) : s.sameBooks (t.modStore k f) := by
  refine h.trans ⟨rfl, rfl, rfl, rfl, fun j => ?_⟩
  rw [State.store_modStore]
  split
  · rename_i hj; subst hj; exact hf _
  · exact ⟨rfl, rfl⟩

theorem modBox (k : Kind) (f : Cashbox → Cashbox) : s.sameBooks (t.modBox k f) :=
  h.trans (.of_stores rfl rfl rfl rfl rfl)

theorem onlyBooks {u : State} (hu : t.onlyBooks u) : s.sameBooks u := by
  obtain ⟨_, _, _, rfl⟩ := hu
  exact h.trans (.of_stores rfl rfl rfl rfl rfl)

theorem bookAdjustedStore (k : StoreId) (n : Int) : s.sameBooks (t.bookAdjustedStore k n) :=
  h.trans (.of_stores (by simp) (by simp) (by simp) (by simp) (by simp))

theorem closeEvent : s.sameBooks t.closeEvent := h.trans (.of_stores rfl rfl rfl rfl rfl)

theorem putStore (k : StoreId) (x : StoreState) : s.sameBooks (t.putStore k x) := by
  refine (h.modStore k ?_).closeEvent
  exact fun _ => ⟨rfl, rfl⟩

end State.sameBooks

/-- The requests that touch no sale, stroke or plan, and no value or denomination of a store. -/
def sparesBooks : Request → Bool
  | .readTender | .readStock | .readPlan | .readNotices | .enableNotice | .disableNotice | .dismissNotice => true
  | .readStore | .readTotals | .readProfile | .writeClassEntry | .writeLimits | .writeProfileEntry => true
  | .commitProfile | .declareCount | .clearJam | .enableStore | .disableStore | .cashboxEmptied => true
  | .closeShift | .restart => true
  | .openSale | .settle | .cancelSale | .haltPayout | .collect | .retractNotes | .readCompletion => false
  | .setLaneMode | .writeDenomination | .assignStore | .skimToTarget | .emptyStore | .stopSkim => false
  | .clearCurrency => false

section
variable (s : State)

/-- A request for a lane, of which the office port has no form (R173). -/
theorem onLane_keeps {Q : State → Prop} {s : State} {f : Lane → State × Response} (hs : Q s)
    (hf : ∀ l, Q (f l).1) (p : Port) : Q (onLane p s f).1 := by
  cases p with
  | lane l => exact hf l
  | office => exact hs

theorem onStore_keeps {Q : State → Prop} {s : State} {f : StoreId → State × Response} (hs : Q s)
    (hf : ∀ k, Q (f k).1) (payload : List Byte) : Q (onStore payload s f).1 := by
  unfold onStore
  split
  · split
    · exact hf _
    · exact hs
  · exact hs

theorem sameBooks_turnNotice (v : Bool) (p : Port) (payload : List Byte) :
    s.sameBooks (turnNotice v p payload s).1 := by
  unfold turnNotice
  split
  · split
    · exact .of_stores rfl rfl rfl rfl rfl
    · exact .refl s
  · split
    · exact .of_stores rfl rfl rfl rfl rfl
    · exact .refl s
  · exact .refl s

theorem sameBooks_dismissNotice (p : Port) (payload : List Byte) :
    s.sameBooks (dismissNotice p payload s).1 := by
  unfold dismissNotice
  split
  · split
    · split
      · exact .of_stores rfl rfl rfl rfl rfl
      · exact .refl s
    · exact .refl s
  · split
    · split
      · exact .of_stores rfl rfl rfl rfl rfl
      · exact .refl s
    · exact .refl s
  · exact .refl s

theorem sameBooks_readPlan (p : Port) (payload : List Byte) : s.sameBooks (readPlan p payload s).1 := by
  unfold readPlan
  split
  · exact .refl s
  · split <;> exact .refl s
  · exact .refl s

theorem sameBooks_readNotices (p : Port) : s.sameBooks (readNotices p s).1 := by cases p <;> exact .refl s

theorem sameBooks_readStore (payload : List Byte) : s.sameBooks (readStore payload s).1 := by
  unfold readStore
  split
  · split
    · exact .refl s
    split
    · exact .refl s
    split <;> exact .refl s
  · exact .refl s

theorem sameBooks_readTotals (payload : List Byte) : s.sameBooks (readTotals payload s).1 := by
  unfold readTotals
  split
  · split
    · exact .refl s
    split
    · exact .refl s
    split <;> exact .refl s
  · exact .refl s

theorem sameBooks_readProfile (payload : List Byte) : s.sameBooks (readProfile payload s).1 := by
  unfold readProfile
  split
  · split
    · exact .refl s
    split <;> exact .refl s
  · exact .refl s

theorem sameBooks_writeClassEntry (payload : List Byte) : s.sameBooks (writeClassEntry payload s).1 := by
  unfold writeClassEntry
  split
  · split
    · exact .refl s
    split
    · split
      · exact .of_stores rfl rfl rfl rfl rfl
      · exact .refl s
    · exact .refl s
  · exact .refl s

theorem sameBooks_writeLimits (payload : List Byte) : s.sameBooks (writeLimits payload s).1 := by
  unfold writeLimits
  split
  · split
    · exact .refl s
    · refine State.sameBooks.closeEvent ?_
      exact .of_stores rfl rfl rfl rfl rfl
  · exact .refl s

theorem sameBooks_writeProfileEntry (payload : List Byte) : s.sameBooks (writeProfileEntry payload s).1 := by
  unfold writeProfileEntry
  split
  · split
    · exact .refl s
    · exact .of_stores rfl rfl rfl rfl rfl
  · exact .refl s

theorem sameBooks_commitProfile : s.sameBooks (commitProfile s).1 := by
  unfold commitProfile
  split
  · exact .refl s
  · refine State.sameBooks.closeEvent ?_
    exact .of_stores (by simp) (by simp) (by simp) (by simp) (by simp)

theorem sameBooks_declareCount (payload : List Byte) : s.sameBooks (declareCount payload s).1 := by
  unfold declareCount
  split
  · split
    · exact .refl s
    split
    · exact .refl s
    split
    · exact .refl s
    split
    · exact .refl s
    · refine (((State.sameBooks.refl s).modStore _ ?_).bookAdjustedStore _ _).closeEvent
      exact fun _ => ⟨rfl, rfl⟩
  · exact .refl s

theorem sameBooks_disableOne (k : StoreId) : s.sameBooks (disableOne k s).1 := by
  unfold disableOne
  split
  · exact .refl s
  · exact .refl s
  · exact .refl s
  all_goals
    split
    · exact (State.sameBooks.refl s).putStore k _
    · exact .refl s

theorem sameBooks_enableOne (k : StoreId) : s.sameBooks (enableOne k s).1 := by
  unfold enableOne
  split
  · exact (State.sameBooks.refl s).putStore k _
  · exact .refl s

theorem sameBooks_clearJamOne (k : StoreId) : s.sameBooks (clearJamOne k s).1 := by
  unfold clearJamOne
  split
  · exact (State.sameBooks.refl s).putStore k _
  · exact .refl s

theorem sameBooks_cashboxEmptied (payload : List Byte) : s.sameBooks (cashboxEmptied payload s).1 := by
  unfold cashboxEmptied
  split
  · split
    · exact .refl s
    split
    · exact (((State.sameBooks.refl s).onlyBooks (State.bookEmptied_onlyBooks _ _ s)).modBox _ _).closeEvent
    · exact .refl s
  · exact .refl s

theorem sameBooks_closeShift : s.sameBooks (closeShift s).1 := by
  unfold closeShift
  split
  · exact .refl s
  · exact .of_stores rfl rfl rfl rfl rfl

theorem sameBooks_restart : s.sameBooks (restart s).1 := by unfold restart; split <;> exact .refl s

theorem sameBooks_performRequest {r : Request} (hr : sparesBooks r = true) (p : Port) (payload : List Byte) :
    s.sameBooks (performRequest r p payload s).1 := by
  have self := State.sameBooks.refl s
  cases r with
  | readTender => exact onLane_keeps self (fun _ => self) p
  | readStock => exact onLane_keeps self (fun _ => self) p
  | readPlan => exact sameBooks_readPlan s p payload
  | readNotices => exact sameBooks_readNotices s p
  | enableNotice => exact sameBooks_turnNotice s true p payload
  | disableNotice => exact sameBooks_turnNotice s false p payload
  | dismissNotice => exact sameBooks_dismissNotice s p payload
  | readStore => exact sameBooks_readStore s payload
  | readTotals => exact sameBooks_readTotals s payload
  | readProfile => exact sameBooks_readProfile s payload
  | writeClassEntry => exact sameBooks_writeClassEntry s payload
  | writeLimits => exact sameBooks_writeLimits s payload
  | writeProfileEntry => exact sameBooks_writeProfileEntry s payload
  | commitProfile => exact sameBooks_commitProfile s
  | declareCount => exact sameBooks_declareCount s payload
  | clearJam => exact onStore_keeps self (sameBooks_clearJamOne s) payload
  | enableStore => exact onStore_keeps self (sameBooks_enableOne s) payload
  | disableStore => exact onStore_keeps self (sameBooks_disableOne s) payload
  | cashboxEmptied => exact sameBooks_cashboxEmptied s payload
  | closeShift => exact sameBooks_closeShift s
  | restart => exact sameBooks_restart s
  | _ => exact absurd hr nofun

end

end Sys2Proof.Machine
end

section
/-! SUPPORT. Lane work through the requests and through every command. -/

namespace Sys2Proof.Machine

namespace State.keepsLanes

variable {s t : State} (h : s.keepsLanes t)
include h

theorem closeEvent : s.keepsLanes t.closeEvent := h.same rfl rfl rfl

/-- A slot that is written or emptied is no part of lane work. -/
theorem setSlot (l : Lane) (c : Option Completion) : s.keepsLanes (t.setSlot l c) := by
  refine h.trans fun m => ⟨?_, ?_, .inl rfl, fun _ => Iff.rfl, id⟩
  · rw [State.sale_setSlot]
  · rw [State.mode_setSlot]

theorem retractOne (l : Lane) (d : Denom) : s.keepsLanes (State.retractOne l t d) := by
  unfold State.retractOne
  dsimp only
  refine ((h.modBox _ _).book _ _ _).modSale l ?_
  rfl

theorem retract (l : Lane) (ds : List Denom) : s.keepsLanes (ds.foldl (State.retractOne l) t) := by
  induction ds generalizing t with
  | nil => exact h
  | cons d ds ih => exact ih (h.retractOne l d)

theorem withdrawMakeup (l : Lane) : s.keepsLanes (t.withdrawMakeup l) := by
  refine h.trans fun m => ?_
  unfold State.withdrawMakeup
  split
  · refine ⟨rfl, rfl, ?_, fun _ => Iff.rfl, id⟩
    by_cases hm : m = l
    · subst hm; exact .inr (.inl (PerLane.get_set_self ..))
    · exact .inl (PerLane.get_set_ne _ _ _ _ hm)
  · exact State.keepsLanes.refl t m

/-- Stopping a skim leaves the lanes' requests (R143). -/
theorem stopSkim : s.keepsLanes ({ t with planner := t.planner.stopSkim }.placeSkim none) := by
  refine h.trans (.of_frame rfl rfl ?_ (.of_same rfl))
  change t.planner.stopSkim.work.map (·.job) = t.planner.work.map (·.job)
  unfold Planner.stopSkim
  cases hw : t.planner.work with
  | none => rfl
  | some w => cases hj : w.job <;> simp [hj]

end State.keepsLanes

/-! ### Requests -/

section
variable {s : State} (h : s.laneWorkFollows)
include h

/-- A lane whose sale is IDLE, with its sale opened or its mode changed. -/
theorem State.laneWorkFollows.change_idle {t : State} {l : Lane} (hidle : (s.sale l).state = .idle)
    (hserve : (t.sale l).state ≠ .idle → t.mode l = .serve) (hlane : ∀ m, m ≠ l → t.lane m = s.lane m)
    (hplan : t.planner = s.planner) (hrec : t.pool.records = s.pool.records) : t.laneWorkFollows := by
  have hjob : t.jobInWork = s.jobInWork := State.jobInWork_congr (congrArg Planner.work hplan)
  have hpay : (s.sale l).state ≠ .paying := by rw [hidle]; nofun
  refine h.change_lane (l := l) (.of_unasked hserve (fun q hq => ?_) fun r hr ho => ?_) fun m hm =>
    .of_lane (hlane m hm) (by rw [hplan]) (fun q => by rw [hjob]) (.of_same hrec)
  · refine (h.lane l).unasked (by rw [hidle]; nofun) hpay q ?_
    unfold State.laneAsked at hq ⊢
    rw [← hplan, ← hjob]; exact hq
  · exact hpay ((h.lane l).pays r (hrec ▸ hr) ho)

theorem State.laneWorkFollows.openSale (l : Lane) (payload : List Byte) :
    (openSale l payload s).1.laneWorkFollows := by
  unfold Machine.openSale
  split
  · split
    · exact h
    rename_i hopen
    obtain ⟨hmode, hidle⟩ := not_or.mp hopen
    split
    · exact h
    split
    · exact h
    split
    · exact h
    · refine State.laneWorkFollows.closeEvent ?_
      refine h.change_idle (l := l) (not_not.mp hidle) (fun _ => ?_) (fun m hm => ?_) rfl rfl
      · rw [State.mode, State.lane, State.clearTallies_lanes]
        exact (State.mode_modSale s l l _).trans (not_not.mp hmode)
      · exact s.lane_setLane_ne l m _ hm
  · exact h

theorem State.laneWorkFollows.changeMode {l : Lane} (hidle : (s.sale l).state = .idle) (m : Mode) :
    (s.enterMode l m).laneWorkFollows := by
  unfold State.enterMode
  split
  · exact h
  · refine State.laneWorkFollows.closeEvent ?_
    refine h.change_idle (l := l) hidle (fun hne => absurd ?_ hne) (fun j hj => ?_) rfl rfl
    · have hsale : (s.setMode l m).sale l = s.sale l := by
        rw [State.sale, State.setMode, State.lane_setLane_self]; rfl
      exact (congrArg Sale.state hsale).trans hidle
    · exact s.lane_setLane_ne l j _ hj

theorem State.laneWorkFollows.setLaneMode (p : Port) (payload : List Byte) :
    (setLaneMode p payload s).1.laneWorkFollows := by
  unfold Machine.setLaneMode
  split
  · unfold setModeFromLane
    split
    · exact h
    split
    · exact h
    split
    · exact h
    · rename_i hidle; exact h.changeMode (not_not.mp hidle) _
  · unfold setModeFromOffice
    split
    · split
      · exact h
      · rename_i hidle; exact h.changeMode (not_not.mp hidle) _
    · exact h
    · exact h
  · exact h

theorem State.laneWorkFollows.settle (l : Lane) (payload : List Byte) :
    (settle l payload s).1.laneWorkFollows := by
  have self := State.keepsLanes.refl s
  unfold Machine.settle
  split
  · split
    · exact h
    rename_i short _
    split
    · exact h
    rename_i hstate
    dsimp only
    split
    · exact ((self.same (u := s.laneFlag l .settleRefused false) rfl rfl rfl).follows h).closeEvent
    · refine State.laneWorkFollows.finish ?_
      have hflag := self.same (u := s.laneFlag l .settleRefused false) rfl rfl rfl
      have hshort := hflag.modSale l (f := fun x => { x with acceptShort := x.acceptShort || short }) rfl
      exact (hshort.follows h).beginSettle ((hshort l).state.trans (not_not.mp hstate))
  · exact h

theorem State.laneWorkFollows.cancelSale (l : Lane) : (cancelSale l s).1.laneWorkFollows := by
  unfold Machine.cancelSale
  split
  · rename_i hstate
    have hplan : (s.sale l).state ≠ .planning := by rw [hstate]; nofun
    have hpay : (s.sale l).state ≠ .paying := by rw [hstate]; nofun
    split
    · exact (h.closeSale hplan hpay _).finish
    · exact (h.beginRefund ((h.lane l).serves (by rw [hstate]; nofun)) hpay
        (fun q hq => (h.lane l).unasked hplan hpay q (.inr hq))).finish
  · rename_i hstate
    split
    · split
      · rename_i hwaits
        exact (h.beginRefund ((h.lane l).serves (by rw [hstate]; nofun)) (by rw [hstate]; nofun)
          ((h.lane l).none_works (eq_of_beq hwaits))).finish
      · refine (State.keepsLanes.closeEvent ?_).follows h
        refine (State.keepsLanes.refl s).modSale l ?_
        rfl
    · exact h
  all_goals exact h

theorem State.laneWorkFollows.haltPayout (l : Lane) : (haltPayout l s).1.laneWorkFollows := by
  unfold Machine.haltPayout
  split
  · exact h
  split
  · exact h
  · refine State.laneWorkFollows.finish (State.keepsLanes.follows (s := s) ?_ h)
    exact (((State.keepsLanes.refl s).modSale l rfl).withdrawMakeup l).endStrokes _

theorem State.laneWorkFollows.collect (l : Lane) : (collect l s).1.laneWorkFollows := by
  unfold Machine.collect
  split
  · rename_i hstate
    exact (h.closeSale (by rw [hstate]; nofun) (by rw [hstate]; nofun) _).finish
  · exact h

theorem State.laneWorkFollows.retractNotes (l : Lane) : (retractNotes l s).1.laneWorkFollows := by
  unfold Machine.retractNotes
  split
  · exact h
  split
  · exact h
  split
  · exact h
  · refine State.keepsLanes.follows (State.keepsLanes.closeEvent ?_) h
    exact ((State.keepsLanes.refl s).retract l (s.noteDenoms l)).same rfl rfl rfl

theorem State.laneWorkFollows.readCompletion (l : Lane) : (readCompletion l s).1.laneWorkFollows := by
  unfold Machine.readCompletion
  split
  · refine State.keepsLanes.follows (State.keepsLanes.closeEvent ?_) h
    exact ((State.keepsLanes.refl s).setSlot l none).same rfl rfl rfl
  · exact h

theorem State.laneWorkFollows.writeDenomination (payload : List Byte) :
    (writeDenomination payload s).1.laneWorkFollows := by
  have write (d : Denom) (v : Nat) (k : Kind) (e : Bool) : (s.writeEntry d v k e).closeEvent.laneWorkFollows := by
    refine (State.keepsLanes.of_same ?_ ?_ ?_).follows h |>.closeEvent <;>
      (unfold State.writeEntry; dsimp only; split <;> rfl)
  unfold Machine.writeDenomination
  split
  · dsimp only
    split
    · exact h
    split
    · split
      · exact h
      split
      · exact h
      split
      · exact h
      split
      · exact h
      · exact write _ _ _ _
    · exact h
  · exact h

theorem State.laneWorkFollows.assignStore (payload : List Byte) :
    (assignStore payload s).1.laneWorkFollows := by
  unfold Machine.assignStore
  split
  · dsimp only
    split
    · exact h
    split
    · split
      · exact h
      split
      · exact h
      split
      · exact h
      split
      · exact h
      · exact (((State.keepsLanes.refl s).modStore _ _).follows h).closeEvent
    · exact h
  · exact h

theorem State.laneWorkFollows.clearCurrency : (clearCurrency s).1.laneWorkFollows := by
  unfold Machine.clearCurrency
  split
  · exact h
  split
  · exact h
  · exact ((State.keepsLanes.of_same (t := s.closeTotals.clearTables) rfl rfl rfl).follows h).closeEvent

theorem State.laneWorkFollows.beginSkim (r : SkimRequest) : (s.beginSkim r).laneWorkFollows :=
  State.laneWorkFollows.finish (State.keepsLanes.follows (.of_frame rfl rfl rfl (.of_same rfl)) h)

theorem State.laneWorkFollows.stopSkim : (stopSkim s).1.laneWorkFollows := by
  unfold Machine.stopSkim
  split
  · exact ((State.keepsLanes.refl s).stopSkim.endStrokes _).follows h |>.finish
  · exact h

theorem State.laneWorkFollows.performRequest (r : Request) (p : Port) (payload : List Byte) :
    (performRequest r p payload s).1.laneWorkFollows := by
  by_cases hr : sparesBooks r = true
  · exact (sameBooks_performRequest s hr p payload).keepsLanes.follows h
  cases r with
  | openSale => exact onLane_keeps h (fun l => h.openSale l payload) p
  | settle => exact onLane_keeps h (fun l => h.settle l payload) p
  | cancelSale => exact onLane_keeps h h.cancelSale p
  | haltPayout => exact onLane_keeps h h.haltPayout p
  | collect => exact onLane_keeps h h.collect p
  | retractNotes => exact onLane_keeps h h.retractNotes p
  | readCompletion => exact onLane_keeps h h.readCompletion p
  | setLaneMode => exact h.setLaneMode p payload
  | writeDenomination => exact h.writeDenomination payload
  | assignStore => exact h.assignStore payload
  | clearCurrency => exact h.clearCurrency
  | stopSkim => exact h.stopSkim
  | skimToTarget =>
    unfold Machine.performRequest Machine.skimToTarget
    dsimp only
    split
    · exact h
    · exact h.beginSkim _
  | emptyStore =>
    refine onStore_keeps h (fun k => ?_) payload
    split
    · exact h
    · exact h.beginSkim _
  | _ => exact absurd rfl hr

end

theorem laneWorkFollows_requestsKeep : RequestsKeep State.laneWorkFollows State.laneWorkFollows where
  portBefore _ _ _ := State.keepsLanes.follows (.of_same rfl rfl rfl)
  portAfter _ _ _ := State.keepsLanes.follows (.of_same rfl rfl rfl)
  still _ := id
  restarts _ := State.keepsLanes.follows (.of_same rfl rfl rfl)
  performs _ r p payload h := h.performRequest r p payload

/-! ### Start-up -/

/-- A part in which nothing is under way: both sales IDLE, the planner and the pool as at start-up. -/
theorem State.laneWorkFollows_of_quiet {s : State} (hidle : ∀ l, (s.sale l).state = .idle)
    (hplan : s.planner = Planner.atStartUp) (hpool : s.pool.records = []) : s.laneWorkFollows := by
  refine s.laneWorkFollows_iff.mpr fun l => .of_unasked (fun hne => absurd (hidle l) hne) (fun q hq => ?_) ?_
  · unfold State.laneAsked State.jobInWork at hq
    rw [hplan] at hq
    cases l <;> exact hq.elim nofun nofun
  · rw [hpool]; exact nofun

theorem restored_sale (r : Retained) (pins : Pins) (phase : Phase) (q : List Instr) (l : Lane) :
    (restored r pins phase q).sale l = Sale.idle (r.sales.get l).sequence := by cases l <;> rfl

theorem laneWorkFollows_startedUp (r : Retained) (pins : Pins) (q : List Instr) :
    (startedUp r pins q).laneWorkFollows :=
  State.laneWorkFollows_of_quiet (fun l => by rw [(startedUp_lane r pins q l).2.1]; rfl)
    (by rw [startedUp_eq]; rfl) (by rw [startedUp_eq]; rfl)

end Sys2Proof.Machine
end

section
/-! SUPPORT. Lane work at every event. -/

namespace Sys2Proof.Machine

variable {s t : State}

theorem State.keepsLanes.modPath (h : s.keepsLanes t) (p : Kind) (f : Arbiter → Arbiter) :
    s.keepsLanes (t.modPath p f) :=
  h.same rfl rfl rfl

/-- An event of the running part that ends in lanes that are kept, and its close. -/
theorem State.laneWorkFollows.event {e : State → State} (h : s.laneWorkFollows)
    (keeps : (e s).laneWorkFollows) (ht : s.whileRunning e = .next t) : t.laneWorkFollows :=
  State.whileRunning_keeps (fun _ => keeps) (fun _ => h) ht

/-- A sensor's report alone. -/
theorem State.laneWorkFollows.withPins (h : s.laneWorkFollows) (pins : Pins) :
    ({ s with pins := pins }).laneWorkFollows :=
  State.keepsLanes.follows (.of_same rfl rfl rfl) h

theorem State.laneWorkFollows.powerLoss (ht : execPowerLoss s = .next t) : t.laneWorkFollows := by
  obtain rfl := Host.Outcome.next.inj ht
  refine State.laneWorkFollows_of_quiet (fun l => ?_) rfl rfl
  exact congrArg Sale.state (restored_sale s.retained s.pins .off s.pending l)

section
variable (h : s.laneWorkFollows)
include h

theorem State.laneWorkFollows.managerKeyChange {l : Lane} {turned : Bool}
    (ht : execManagerKeyChange l turned s = .next t) : t.laneWorkFollows := by
  unfold execManagerKeyChange at ht
  obtain rfl := Host.Outcome.next.inj ht
  exact h.withPins _

theorem State.laneWorkFollows.rehomeComplete {path : Kind} (ht : execRehomeComplete path s = .next t) :
    t.laneWorkFollows := by
  unfold execRehomeComplete at ht
  refine h.event ?_ ht
  split
  · exact State.laneWorkFollows.finish (((State.keepsLanes.refl s).same rfl rfl rfl).follows h)
  · exact h

theorem State.laneWorkFollows.headStrobe {l : Lane} {k : Kind} {code : ClassCode}
    (ht : execHeadStrobe l k code s = .next t) : t.laneWorkFollows := by
  unfold execHeadStrobe at ht
  refine h.event ?_ ht
  split
  · exact ((State.keepsLanes.refl s).same rfl rfl rfl).follows h
  · exact h

theorem State.laneWorkFollows.routeDecisionEvent {l : Lane} {k : Kind}
    (ht : execRouteDecision l k s = .next t) : t.laneWorkFollows := by
  unfold execRouteDecision at ht
  refine h.event ?_ ht
  split
  · exact h
  · exact h.routeDecision _ _ _ _

theorem State.laneWorkFollows.entryPulse {k : StoreId} (ht : execEntryPulse k s = .next t) :
    t.laneWorkFollows := by
  unfold execEntryPulse at ht
  refine h.event ?_ ht
  split
  · exact (((State.keepsLanes.refl s).confirmFill _ _ _).follows h).finish
  · exact (((State.keepsLanes.refl s).strayEntry _).follows h).finish

theorem State.laneWorkFollows.routeWindowExpiry {k : StoreId} (ht : execRouteWindowExpiry k s = .next t) :
    t.laneWorkFollows := by
  unfold execRouteWindowExpiry at ht
  refine h.event ?_ ht
  split
  · refine State.laneWorkFollows.finish (State.keepsLanes.follows (s := s) ?_ h)
    exact (((State.keepsLanes.refl s).modStore _ _).bookUnplaced _).markUncertain _
  · exact h

theorem State.laneWorkFollows.cassetteOut {k : StoreId} (ht : execCassetteOut k s = .next t) :
    t.laneWorkFollows := by
  unfold execCassetteOut at ht
  have hpin : (s.setCassettePin k false).laneWorkFollows := h.withPins _
  refine hpin.event ?_ ht
  split
  · exact hpin
  · exact (((State.keepsLanes.refl _).pullCassette k).follows hpin).finish

theorem State.laneWorkFollows.cassetteIn {k : StoreId} (ht : execCassetteIn k s = .next t) :
    t.laneWorkFollows := by
  unfold execCassetteIn at ht
  have hpin : (s.setCassettePin k true).laneWorkFollows := h.withPins _
  refine hpin.event ?_ ht
  split
  · exact State.laneWorkFollows.closeEvent (State.keepsLanes.follows ((State.keepsLanes.refl _).modStore k _) hpin)
  · exact hpin

theorem State.laneWorkFollows.emptyLevelReport {k : StoreId} (ht : execEmptyLevelReport k s = .next t) :
    t.laneWorkFollows := by
  unfold execEmptyLevelReport at ht
  split at ht
  · obtain rfl := Host.Outcome.next.inj ht; exact h
  · have hpin : (s.setLevelPin k true).laneWorkFollows := h.withPins _
    refine hpin.event ?_ ht
    refine State.laneWorkFollows.finish (State.keepsLanes.follows ?_ hpin)
    exact (State.keepsLanes.refl _).levelReported k

theorem State.laneWorkFollows.emptyLevelNotEmpty {k : StoreId}
    (ht : execEmptyLevelNotEmpty k s = .next t) : t.laneWorkFollows := by
  unfold execEmptyLevelNotEmpty at ht
  obtain rfl := Host.Outcome.next.inj ht
  exact h.withPins _

theorem State.laneWorkFollows.piecePulse {k : StoreId} (ht : execPiecePulse k s = .next t) :
    t.laneWorkFollows := by
  unfold execPiecePulse at ht
  have self := State.keepsLanes.refl s
  refine h.event ?_ ht
  split
  · exact ((self.unbidden k).follows h).finish
  · split
    · exact ((self.drivePiece k _ _).follows h).closeEvent
    · exact h
  · split
    · exact ((self.overPay k _ _).follows h).finish
    · exact h

theorem State.laneWorkFollows.afterRunWindowClose {k : StoreId}
    (ht : execAfterRunWindowClose k s = .next t) : t.laneWorkFollows := by
  unfold execAfterRunWindowClose at ht
  refine h.event ?_ ht
  split
  · exact h
  · exact h
  · exact ((((State.keepsLanes.refl s).endStrokes _).modStore _ _).follows h).finish

theorem State.laneWorkFollows.strokeDeadlineExpiry {k : StoreId}
    (ht : execStrokeDeadlineExpiry k s = .next t) : t.laneWorkFollows := by
  unfold execStrokeDeadlineExpiry at ht
  refine h.event ?_ ht
  split
  · exact h
  · exact h
  · exact ((((State.keepsLanes.refl s).endStrokes _).modStore _ _).follows h).finish

theorem State.laneWorkFollows.cashboxOut {k : Kind} (ht : execCashboxOut k s = .next t) :
    t.laneWorkFollows := by
  unfold execCashboxOut at ht
  have hpin : (s.setBoxPin k false).laneWorkFollows := h.withPins _
  refine hpin.event ?_ ht
  refine State.laneWorkFollows.finish (State.keepsLanes.follows ?_ hpin)
  exact (((State.keepsLanes.refl _).modBox k _).stopRunningSkim k).endStrokes _

theorem State.laneWorkFollows.cashboxIn {k : Kind} (ht : execCashboxIn k s = .next t) :
    t.laneWorkFollows := by
  unfold execCashboxIn at ht
  have hpin : (s.setBoxPin k true).laneWorkFollows := h.withPins _
  refine hpin.event ?_ ht
  exact State.laneWorkFollows.closeEvent (State.keepsLanes.follows ((State.keepsLanes.refl _).modBox k _) hpin)

theorem State.laneWorkFollows.strokeStart {path : Kind} (ht : execStrokeStart path s = .next t) :
    t.laneWorkFollows := by
  unfold execStrokeStart at ht
  refine h.event ?_ ht
  split
  · exact h
  · rename_i x _
    split
    · refine State.laneWorkFollows.closeEvent (State.keepsLanes.follows (s := s) ?_ h)
      have hrec := (State.keepsLanes.refl s).modRecord x.slot (f := fun r => { r with state := .running })
        (fun _ => rfl)
      have hstore := hrec.modStore x.store (fun y => y.start x.slot (Config.deadlineMs path (s.slotCount x.slot)))
      exact State.keepsLanes.modPath hstore path _
    · exact h

theorem State.laneWorkFollows.diverterMoveComplete {path : Kind}
    (ht : execDiverterMoveComplete path s = .next t) : t.laneWorkFollows := by
  unfold execDiverterMoveComplete at ht
  refine h.event ?_ ht
  split
  · exact h
  · rename_i m _
    have hsame := (s.modPath path (fun a => { a with move := none, position := some m.dest })).startMove_frame path
    obtain ⟨-, -, -, -, -, -, -, -, hlanes, -, hplan, hpool, -⟩ := hsame
    exact (State.keepsLanes.of_same hlanes hplan hpool).follows h

theorem State.laneWorkFollows.chuteSensorChange {l : Lane} {k : Kind} {occupied : Bool}
    (ht : execChuteSensorChange l k occupied s = .next t) : t.laneWorkFollows := by
  unfold execChuteSensorChange at ht
  have hpin : (s.setChutePin l k occupied).laneWorkFollows := h.withPins _
  refine hpin.event ?_ ht
  refine State.laneWorkFollows.finish (State.laneWorkFollows.closeIfClear ?_)
  exact ((State.keepsLanes.refl _).shutPresenter l k occupied).follows hpin

theorem State.laneWorkFollows.presentTimerExpiry {l : Lane} (ht : execPresentTimerExpiry l s = .next t) :
    t.laneWorkFollows := by
  unfold execPresentTimerExpiry at ht
  exact h.event (((State.keepsLanes.refl s).expireTimer l).follows h).closeEvent ht

theorem State.laneWorkFollows.attemptCompletion (ht : execAttemptCompletion s = .next t) :
    t.laneWorkFollows := by
  unfold execAttemptCompletion at ht
  split at ht
  · rename_i w _ hw
    split at ht
    · rename_i u hu
      obtain rfl := Host.Outcome.next.inj ht
      exact (h.completeAttempt hw hu).finish
    · exact absurd ht nofun
  all_goals obtain rfl := Host.Outcome.next.inj ht; exact h

theorem exec_laneWorkFollows (i : Instr) (ht : exec i s = .next t) : t.laneWorkFollows := by
  have keep := laneWorkFollows_requestsKeep
  cases i
  case unknownCode => exact keep.unknownCode (fun _ => h) (fun _ => h) ht
  case frameComplete => exact keep.frameComplete (fun _ => h) (fun _ => h) ht
  case interByteGapExpiry => exact keep.interByteGapExpiry (fun _ => h) (fun _ => h) ht
  case replyTransmitEnd => exact keep.replyTransmitEnd (fun _ => h) (fun _ => h) ht
  case byteReceived => exact keep.byteReceived (fun _ => h) (fun _ => h) ht
  case startUp => obtain rfl := Host.Outcome.next.inj ht; exact laneWorkFollows_startedUp _ _ _
  case powerLoss => exact State.laneWorkFollows.powerLoss ht
  case rehomeComplete => exact h.rehomeComplete ht
  case managerKeyChange => exact h.managerKeyChange ht
  case headStrobe => exact h.headStrobe ht
  case routeDecision => exact h.routeDecisionEvent ht
  case entryPulse => exact h.entryPulse ht
  case routeWindowExpiry => exact h.routeWindowExpiry ht
  case cassetteOut => exact h.cassetteOut ht
  case cassetteIn => exact h.cassetteIn ht
  case emptyLevelReport => exact h.emptyLevelReport ht
  case emptyLevelNotEmpty => exact h.emptyLevelNotEmpty ht
  case piecePulse => exact h.piecePulse ht
  case afterRunWindowClose => exact h.afterRunWindowClose ht
  case strokeDeadlineExpiry => exact h.strokeDeadlineExpiry ht
  case cashboxOut => exact h.cashboxOut ht
  case cashboxIn => exact h.cashboxIn ht
  case strokeStart => exact h.strokeStart ht
  case diverterMoveComplete => exact h.diverterMoveComplete ht
  case chuteSensorChange => exact h.chuteSensorChange ht
  case presentTimerExpiry => exact h.presentTimerExpiry ht
  case attemptCompletion => exact h.attemptCompletion ht
  all_goals exact keep.requestArrives (fun _ => h) (fun _ => h) ht

end

end Sys2Proof.Machine

namespace Sys2Proof
open Machine

/-- Settles O9, command by command: most events leave each lane's sale in its state and ask at most for a make-up
of the lane's own strokes (`State.keepsLanes`); the others change one lane's sale together with its place at the
planner. -/
theorem laneWorkFollowsKept : Obligations.LaneWorkFollowsKept := by
  intro s t h hstep
  unfold step at hstep
  split at hstep
  · obtain rfl := Host.Outcome.next.inj hstep
    exact h
  · rename_i c rest _
    have hrest : (s.withPending rest).laneWorkFollows := State.keepsLanes.follows (.of_same rfl rfl rfl) h
    exact exec_laneWorkFollows hrest c hstep

end Sys2Proof
end

section
/-! PROOF. Requests that open, settle, cancel and close a sale (O24, O25, O27, O28, O32, O33). -/

namespace Sys2Proof.Machine

/-! ### What the lane requests read -/

theorem readTwoFlags_lt {b : Byte} (h : b.toNat < 4) : readTwoFlags b = some (b.getLsbD 0, b.getLsbD 1) :=
  if_pos h

theorem readTwoFlags_none {b : Byte} (h : 4 ≤ b.toNat) : readTwoFlags b = none := if_neg (Nat.not_lt.mpr h)

theorem readSettleFlag_none {b : Byte} (h : b ≠ 0 ∧ b ≠ 2) : readSettleFlag b = none := by
  unfold readSettleFlag
  rw [if_neg h.1, if_neg h.2]

theorem readSettleFlag_some {b : Byte} (h : ¬(b ≠ 0 ∧ b ≠ 2)) : readSettleFlag b = some (b == 2) := by
  obtain rfl | rfl : b = 0 ∨ b = 2 := by tauto
  · rfl
  · rfl

theorem readLane_code (l : Lane) : readLane l.code = some l := by cases l <;> rfl

theorem readLane_none {b : Byte} (h : b.toNat = 0 ∨ 2 < b.toNat) : readLane b = none := by
  unfold readLane
  rw [if_neg (by rintro rfl; exact absurd h (by decide)), if_neg (by rintro rfl; exact absurd h (by decide))]

theorem State.clearTallies_eq (s : State) (o : Owner) : s.clearTallies o =
    { s with pool := { s.pool with
      tallies := s.pool.tallies.set o.port { coin := Tally.zero, note := Tally.zero } } } := by
  cases o with
  | office => rfl
  | lane l => cases l <;> rfl

theorem State.clearTallies_sale (s : State) (o : Owner) (l : Lane) : (s.clearTallies o).sale l = s.sale l := by
  unfold State.sale State.lane
  rw [State.clearTallies_lanes]

theorem State.chutesEmpty_iff (s : State) (l : Lane) :
    s.chutesEmpty l = true ↔ s.pins.chuteOccupied.get l = { coin := false, note := false } := by
  unfold State.chutesEmpty
  generalize s.pins.chuteOccupied.get l = chutes
  obtain ⟨coin, note⟩ := chutes
  cases coin <;> cases note <;> simp

theorem State.closeIfClear_eq (s : State) (l : Lane) : s.closeIfClear l =
    if (s.sale l).state = .presented ∧ s.pins.chuteOccupied.get l = { coin := false, note := false } then
      s.closeSale l (s.sale l).presentedOutcome
    else s := by
  unfold State.closeIfClear
  simp only [Bool.and_eq_true, beq_iff_eq, s.chutesEmpty_iff l]

theorem Head.clear_eq (h : Head) :
    h.clear = if h.latch = none then h else { latch := none, answer := some .giveBack } := by
  unfold Head.clear
  cases h.latch <;> rfl

theorem State.sale_laneFlag (s : State) (l m : Lane) (n : LaneNotice) (v : Bool) :
    (s.laneFlag l n v).sale m = s.sale m := rfl

theorem State.setSale_setSale (s : State) (l : Lane) (x y : Sale) :
    (s.setSale l x).setSale l y = s.setSale l y := by
  unfold State.setSale
  rw [State.lane_setLane_self]
  unfold State.setLane
  dsimp only
  rw [PerLane.set_set]

theorem State.modSale_modSale (s : State) (l : Lane) (f g : Sale → Sale) :
    (s.modSale l f).modSale l g = s.setSale l (g (f (s.sale l))) := by
  rw [State.modSale, s.sale_modSale_self, State.modSale, State.setSale_setSale]

/-- At the close of an event a lane's retained record follows the lane (R30, R188). -/
theorem State.closeEvent_sales (s : State) (l : Lane) :
    s.closeEvent.retained.sales.get l = (s.lane l).openRecord (s.retained.sales.get l) := by cases l <;> rfl

/-! ### The presented sale -/

theorem State.mem_noteDenoms {s : State} {l : Lane} {d : Denom} : d ∈ s.noteDenoms l ↔
    (s.denom d).kind = .note ∧ s.value d ≠ 0 ∧ (s.sale l).paidPieces d ≠ 0 := by
  simp [State.noteDenoms, State.used, State.value, mem_allDenoms, and_assoc]

theorem State.enterPresented_presents {s : State} {l : Lane} {presenters : PerLane Bool}
    (hopen : (s.noteDenoms l).isEmpty = false → presenters = s.presenterOpen.set l true)
    (hstays : (s.noteDenoms l).isEmpty = true → presenters = s.presenterOpen) :
    s.enterPresented l = { s.setSale l { s.sale l with
      state := .presented, timer := .running s.limits.presentTimeout } with presenterOpen := presenters } := by
  unfold State.enterPresented
  cases hnote : (s.noteDenoms l).isEmpty with
  | true => rw [if_pos rfl, hstays hnote]; rfl
  | false => rw [if_neg (by simp), hopen hnote]; rfl

/-! ### Requests -/

/-- A settle whose due is tendered: what SETTLE asks of R34 and R35. -/
theorem State.settleNow_eq (s : State) (l : Lane) (short : Bool) :
    let x := { s.sale l with
      acceptShort := (s.sale l).acceptShort || short, targetKind := .change,
      target := roundChange s.limits.roundingUnit ((s.sale l).tendered - (s.sale l).due) }
    s.settleNow l short = if x.target = 0 then (s.setSale l { x with lastResult := .exact }).closeSale l .paid
      else (((s.setSale l { x with state := .planning }).laneFlag l .tenderReached false).placeLane l
        (some .settle)) := by
  dsimp only
  unfold State.settleNow State.beginSettle
  have hlim (f : Sale → Sale) : (s.modSale l f).limits = s.limits := rfl
  simp only [State.sale_modSale_self, State.modSale_modSale, hlim]
  split
  · rename_i h; rw [h]
  · rfl

theorem State.settleNow_sale (s : State) (l : Lane) (short : Bool) :
    ((s.settleNow l short).sale l).state =
      if roundChange s.limits.roundingUnit ((s.sale l).tendered - (s.sale l).due) = 0 then .idle
      else .planning := by
  rw [s.settleNow_eq l short]
  split
  · rw [State.sale, State.lane_closeSale, if_pos rfl]; rfl
  · exact congrArg Sale.state (s.sale_setSale_self l _)

/-- CANCEL SALE by the state of the sale (R37, R38). -/
theorem cancelSale_eq (l : Lane) (s : State) :
    let cancellable := (s.sale l).state = .planning ∧ (s.sale l).targetKind = .change ∧
      (s.sale l).cancelPending = false
    cancelSale l s = if (s.sale l).state = .tendering ∧ (s.sale l).tendered = 0 then
        ((s.closeSale l .cancelled).finish, done)
      else if (s.sale l).state = .tendering ∨ (cancellable ∧ s.planner.waitingLane.get l = some .settle) then
        ((s.beginRefund l).finish, accepted)
      else if cancellable then
        ((s.setSale l { s.sale l with cancelPending := true }).closeEvent, accepted)
      else (s, refuse .state) := by
  dsimp only
  have hwaits : s.settleWaits l = true ↔ s.planner.waitingLane.get l = some .settle := beq_iff_eq
  unfold cancelSale
  split
  case h_1 hstate => simp only [hstate, true_and, true_or, if_true]
  case h_2 hstate =>
    have htender : (s.sale l).state ≠ .tendering := by rw [hstate]; nofun
    simp only [htender, false_and, false_or, and_iff_right hstate, hwaits, if_false]
    by_cases hc : (s.sale l).targetKind = .change ∧ (s.sale l).cancelPending = false
    · rw [if_pos hc, if_pos hc]; exact if_congr (and_iff_right hc).symm rfl rfl
    · rw [if_neg hc, if_neg hc, if_neg (fun h => hc h.1)]
  all_goals
    rename_i hstate
    simp only [hstate, reduceCtorEq, false_and, or_false, if_false]

end Sys2Proof.Machine
end

section
namespace Sys2Proof
open Machine

/-- Settles O24: the test of R43 as a statement about the lane, and what entering PRESENTED writes. -/
theorem saleIsPresentedWhenItsPayoutIsOver : Obligations.SaleIsPresentedWhenItsPayoutIsOver := by
  intro s l
  have hended : s.payoutOver l = true ↔ (s.sale l).state = .paying ∧
      (∀ k, s.pool.chain (.lane l) k = [] ∧ (s.path k).grant ≠ .laneRun l) ∧ (s.sale l).owed = 0 ∧
      s.planner.waitingLane.get l ≠ some .makeup ∧ s.jobInWork ≠ some (.lane l .makeup) := by
    rw [s.payoutOver_iff, State.laneAsked, not_or]
  have hnotes : (s.noteDenoms l).isEmpty = false ↔
      ∃ d, (s.denom d).kind = .note ∧ s.value d ≠ 0 ∧ (s.sale l).paidPieces d ≠ 0 := by
    simp only [← State.mem_noteDenoms, List.isEmpty_eq_false_iff_exists_mem]
  dsimp only
  rw [← hended, ← hnotes]
  refine ⟨fun hnot => if_neg hnot, fun hover presenters hopen hstays => ?_⟩
  have hsale : s.settleSale l = (s.enterPresented l).closeIfClear l := if_pos hover
  rw [Bool.not_eq_false] at hstays
  rw [hsale, State.enterPresented_presents hopen hstays, State.closeIfClear_eq]
  have hstate : ∀ t : State, t.sale l = (s.setSale l { s.sale l with
      state := .presented, timer := .running s.limits.presentTimeout }).sale l →
      (t.sale l).state = .presented := fun t ht => by rw [ht, State.sale_setSale_self]
  refine ⟨fun hclear => if_pos ⟨hstate _ rfl, hclear⟩, fun hclear => if_neg fun h => hclear h.2⟩

/-- Settles O25: the checks of R31 in order, then the context opened and the tallies cleared. -/
theorem openSaleOpensTheSale : Obligations.OpenSaleOpensTheSale := by
  intro s l hi lo flags ht
  have hrun : exec (.openSale (.lane l) [hi, lo, flags]) s =
      (openSale l [hi, lo, flags] s).1.answered (.lane l) 0x01 (openSale l [hi, lo, flags] s).2 :=
    lane_performed .openSale l [hi, lo, flags] s ht rfl rfl rfl
  rw [hrun]
  unfold openSale
  simp only [numberOf_two, Option.isSome_iff_ne_none]
  split
  · rfl
  split
  · rfl
  by_cases hflags : 4 ≤ flags.toNat
  · simp only [readTwoFlags_none hflags, hflags, true_or, if_true]
  · simp only [readTwoFlags_lt (Nat.lt_of_not_le hflags), hflags, false_or]
    split
    · rfl
    · have hsale (f : Sale → Sale) : (((s.modSale l f).clearTallies (.lane l)).closeEvent).sale l = f (s.sale l) :=
        (State.clearTallies_sale (s.modSale l f) (.lane l) l).trans (s.sale_modSale_self l f)
      simp only [hsale]
      rw [State.clearTallies_eq]
      rfl

/-- Settles O27: SETTLE by its flag byte, the sale's state and its due, then R34's settle. -/
theorem settleClosesOrAsksForAPlan : Obligations.SettleClosesOrAsksForAPlan := by
  intro s l b ht
  have hrun : exec (.settle (.lane l) [b]) s =
      (settle l [b] s).1.answered (.lane l) 0x03 (settle l [b] s).2 :=
    lane_performed .settle l [b] s ht rfl rfl rfl
  rw [hrun]
  by_cases hb : b ≠ 0 ∧ b ≠ 2
  · simp only [settle, readSettleFlag_none hb, if_pos hb]
  simp only [settle, readSettleFlag_some hb, if_neg hb]
  split
  · rfl
  split
  · rfl
  have hsettle := (s.laneFlag l .settleRefused false).settleNow_eq l (b == 2)
  have hstate := (s.laneFlag l .settleRefused false).settleNow_sale l (b == 2)
  have hlim : (s.laneFlag l .settleRefused false).limits = s.limits := rfl
  simp only [State.sale_laneFlag, hlim] at hsettle hstate
  rw [hstate, hsettle]
  split <;> rfl

/-- Settles O28: CANCEL SALE by the state of the sale. -/
theorem cancelClosesOrRefunds : Obligations.CancelClosesOrRefunds := by
  intro s l ht
  have hrun : exec (.cancelSale (.lane l) []) s =
      (cancelSale l s).1.answered (.lane l) 0x04 (cancelSale l s).2 :=
    lane_performed .cancelSale l [] s ht rfl rfl rfl
  rw [hrun, cancelSale_eq]
  dsimp only
  split
  · rfl
  split
  · rfl
  split <;> rfl

/-- Settles O32: READ COMPLETION by the slot; at the close of the event the retained record of an IDLE lane whose
slot is empty is IDLE. -/
theorem readCompletionEmptiesTheSlot : Obligations.ReadCompletionEmptiesTheSlot := by
  intro s l ht
  have hrun : exec (.readCompletion (.lane l) []) s =
      (readCompletion l s).1.answered (.lane l) 0x08 (readCompletion l s).2 :=
    lane_performed .readCompletion l [] s ht rfl rfl rfl
  rw [hrun]
  refine ⟨fun hnone => ?_, fun c hsome => ⟨?_, fun hidle => ?_⟩⟩
  · simp only [readCompletion, hnone]
    rfl
  · simp only [readCompletion, hsome]
    rfl
  · have hlane : ((s.setLane l { s.lane l with slot := none }).laneFlag l .completionReady false).lane l =
        { s.lane l with slot := none } := s.lane_setLane_self l _
    rw [State.closeEvent_sales, hlane]
    exact hidle

/-- Settles O33: SET LANE MODE by its port and what its bytes name. -/
theorem setLaneModeChangesAnIdleLane : Obligations.SetLaneModeChangesAnIdleLane := by
  have hlane : ∀ s l b, s.takes (.lane l) → exec (.setLaneMode (.lane l) [b]) s =
      (setModeFromLane l b s).1.answered (.lane l) 0x11 (setModeFromLane l b s).2 :=
    fun s l b ht => lane_performed .setLaneMode l [b] s ht rfl rfl rfl
  have hoffice : ∀ s a b, s.takes .office → exec (.setLaneMode .office [a, b]) s =
      (setModeFromOffice a b s).1.answered .office 0x11 (setModeFromOffice a b s).2 :=
    fun s a b ht => office_performed .setLaneMode [a, b] s ht rfl rfl (by decide)
  refine ⟨fun s l b hb ht => ?_, fun s a b hab ht => ?_, fun s l m b hb => ?_⟩
  · rw [hlane s l b ht]
    simp only [setModeFromLane, hb]
  · rw [hoffice s a b ht]
    unfold setModeFromOffice
    rcases hab with ha | hb
    · rw [readLane_none ha]
    · rw [hb]; cases readLane a <;> rfl
  · have henter : s.enterMode l m = if s.mode l = m then s else s.changeMode l m := rfl
    simp only [State.changeMode, Head.clear_eq] at henter
    refine ⟨fun ht => ?_, fun ht => ?_⟩
    · rw [hlane s l b ht]
      simp only [setModeFromLane, hb, henter]
      split
      · rfl
      split <;> rfl
    · rw [hoffice s l.code b ht]
      simp only [setModeFromOffice, hb, readLane_code, henter]
      split <;> rfl

end Sys2Proof
end

section
/-! PROOF. Requests and events that end a payout: a halt, a collection, the close, the chutes and the timer (O29,
O30, O34). -/

namespace Sys2Proof.Machine

/-! ### A halt -/

theorem State.withdrawMakeup_eq (s : State) (l : Lane) : s.withdrawMakeup l =
    { s with planner := { s.planner with
      waitingLane := if s.planner.waitingLane.get l = some .makeup then s.planner.waitingLane.set l none
        else s.planner.waitingLane } } := by
  unfold State.withdrawMakeup
  split <;> rfl

/-- What HALT PAYOUT drops (R44, R130). -/
theorem State.dropLane_follows {s t : State} (l : Lane) (hpool : t.pool = s.pool) :
    let u := t.endStrokes (dropWhere (fun r => r.owner == .lane l))
    t.givesBack u (fun r => if waitingOf (.lane l) r then r.count else 0) ∧
      s.endsRecords u (fun _ => false) (waitingOf (.lane l)) := by
  refine ⟨?_, ?_⟩
  · have h := t.endStrokes_givesBack (dropWhere (fun r => r.owner == .lane l))
    simp only [dropWhere_pieces] at h
    exact h
  · rw [← State.endsRecords_congr hpool]
    exact t.endsRecords_dropWhere _ _ (fun _ => rfl)

/-! ### The close of a sale -/

theorem Sale.presentedOutcome_eq (x : Sale) : x.presentedOutcome =
    if x.haltPending then .halted
    else if x.targetKind = .refund then .refunded
    else if 0 < x.shortfall ∨ x.retracted = true then .short
    else .paid := by
  unfold Sale.presentedOutcome
  simp only [Bool.or_eq_true, decide_eq_true_eq]

theorem State.laneNotices_laneFlag (s : State) (l m : Lane) (n : LaneNotice) (v : Bool) :
    (s.laneFlag l n v).laneNotices.get m = if m = l then
      { s.laneNotices.get l with flags := (s.laneNotices.get l).flags.set n v } else s.laneNotices.get m := by
  split
  · rename_i hm; subst hm; exact PerLane.get_set_self ..
  · rename_i hm; exact PerLane.get_set_ne _ _ _ _ hm

/-- A close raises COMPLETION_READY and clears TENDER_REACHED, on its own lane alone (R33, R48). -/
theorem State.closeSale_notices (s : State) (l m : Lane) (o : SaleOutcome) :
    (s.closeSale l o).laneNotices.get m = if m = l then
      { s.laneNotices.get l with flags :=
        { (s.laneNotices.get l).flags with completionReady := true, tenderReached := false } }
    else s.laneNotices.get m := by
  have hframe : (s.closeSale l o).laneNotices = (((s.setSlot l (some (s.completion l o))).setSale l
      (Sale.idle (s.sale l).sequence)).laneFlag l .completionReady true |>.laneFlag l
        .tenderReached false).laneNotices := by simp [State.closeSale]
  rw [hframe]
  simp only [State.laneNotices_laneFlag]
  split
  · rfl
  · rfl

theorem State.tally_clearTallies (s : State) (o : Owner) (k : Kind) :
    (s.clearTallies o).tally o k = Tally.zero := by
  unfold State.clearTallies
  rw [State.tally_setTally, State.tally_setTally]
  cases k <;> simp

/-- A close clears the lane's tallies and its opening runs (R106, R110). -/
theorem State.closeSale_tally (s : State) (l : Lane) (o : SaleOutcome) (k : Kind) :
    (s.closeSale l o).tally (.lane l) k = Tally.zero := by
  unfold State.closeSale
  generalize ((((s.setSlot l (some (s.completion l o))).setSale l (Sale.idle (s.sale l).sequence)).laneFlag l
    .completionReady true).laneFlag l .tenderReached false) = t
  have hpool : ((t.clearTallies (.lane l)).reopenRuns l).tally (.lane l) k = (t.clearTallies (.lane l)).tally
    (.lane l) k := rfl
  rw [hpool, State.tally_clearTallies]

theorem State.closeSale_path (s : State) (l : Lane) (o : SaleOutcome) (k : Kind) :
    (s.closeSale l o).path k = { s.path k with openingUsed := (s.path k).openingUsed.set l false } := by
  have hreopen (t : State) : (t.reopenRuns l).path k =
      { t.path k with openingUsed := (t.path k).openingUsed.set l false } := by cases k <;> rfl
  unfold State.closeSale
  rw [hreopen]
  simp [State.path]

/-- A close writes the lane, its notices, its tallies and its paths' opening runs, and nothing else (R48). -/
theorem State.closeSale_eq (s : State) (l : Lane) (o : SaleOutcome) :
    s.closeSale l o = { s with
      lanes := (s.closeSale l o).lanes, laneNotices := (s.closeSale l o).laneNotices,
      pool := (s.closeSale l o).pool, paths := (s.closeSale l o).paths } := by
  have hframe := s.closeSale_frame l o
  generalize s.closeSale l o = t at hframe
  obtain ⟨_, _, _, _, _, _, _, _, _, _, _, _, _, _, _, _, _, _, _, _, _, _⟩ := t
  dsimp only at hframe
  obtain ⟨rfl, rfl, rfl, rfl, rfl, rfl, rfl, rfl, rfl, rfl, rfl, rfl, rfl, rfl, rfl, rfl, rfl, rfl⟩ := hframe
  rfl

/-! ### Chutes and the present timer -/

theorem State.shutPresenter_eq (s : State) (l : Lane) (k : Kind) (occupied : Bool) :
    s.shutPresenter l k occupied = if k = .note ∧ occupied = false then
      { s with presenterOpen := s.presenterOpen.set l false } else s := by
  cases k <;> cases occupied <;> rfl

/-- A presenter that closes leaves the sale and what the sensors report. -/
theorem State.shutPresenter_reads (s : State) (l m : Lane) (k : Kind) (occupied : Bool) :
    (s.shutPresenter l k occupied).sale m = s.sale m ∧ (s.shutPresenter l k occupied).pins = s.pins := by
  unfold State.shutPresenter
  split <;> exact ⟨rfl, rfl⟩

theorem Sale.expireTimer_running {x : Sale} {seconds : Nat} (h : x.timer = .running seconds) :
    x.expireTimer = { x with timer := .expired } := by
  unfold Sale.expireTimer
  rw [h]

end Sys2Proof.Machine
end

section
namespace Sys2Proof
open Machine

/-- Settles O29: the three answers of HALT PAYOUT; a halt is the sale's owed into shortfall, the make-up withdrawn
and the lane's WAITING strokes ended. -/
theorem haltDropsWaitingStrokesIntoShortfall : Obligations.HaltDropsWaitingStrokesIntoShortfall := by
  intro s l ht
  have hrun : exec (.haltPayout (.lane l) []) s =
      (haltPayout l s).1.answered (.lane l) 0x05 (haltPayout l s).2 :=
    keyed_performed .haltPayout l [] s ht rfl rfl rfl
  rw [hrun]
  unfold haltPayout
  refine ⟨fun hstate => by rw [if_pos hstate], fun hstate hhalt => ?_, fun hstate hhalt => ?_⟩
  · rw [if_neg (not_not.mpr hstate), if_pos hhalt]
  · have hgo : ¬(s.sale l).haltPending = true := by rw [hhalt]; nofun
    rw [if_neg (not_not.mpr hstate), if_neg hgo, State.withdrawMakeup_eq]
    obtain ⟨hgive, hends⟩ := State.dropLane_follows (s := s) (t := { s.modSale l Sale.halt with
      planner := { s.planner with
        waitingLane := if s.planner.waitingLane.get l = some .makeup then s.planner.waitingLane.set l none
          else s.planner.waitingLane } }) l rfl
    exact ⟨_, rfl, hgive, hends⟩

/-- Settles O30: COLLECT by the sale's state, and the close by what each of its steps writes. -/
theorem collectClosesAndTheCloseWritesItsRecord : Obligations.CollectClosesAndTheCloseWritesItsRecord := by
  refine ⟨fun s l ht => ?_, fun s l o => ?_⟩
  · have hrun : exec (.collect (.lane l) []) s = (collect l s).1.answered (.lane l) 0x06 (collect l s).2 :=
      lane_performed .collect l [] s ht rfl rfl rfl
    rw [hrun, ← Sale.presentedOutcome_eq]
    unfold collect
    split <;> rfl
  · have hlane : (s.closeSale l o).lane l = { s.lane l with
        sale := Sale.idle (s.sale l).sequence, slot := some (s.completion l o) } := by
      rw [s.lane_closeSale, if_pos rfl]
    have hother : (s.closeSale l o).lane l.other = s.lane l.other := by
      rw [s.lane_closeSale, if_neg (by cases l <;> nofun)]
    have hflags := s.closeSale_notices l l o
    have hflagsOther := s.closeSale_notices l l.other o
    rw [if_pos rfl] at hflags
    rw [if_neg (by cases l <;> nofun)] at hflagsOther
    refine ⟨congrArg LaneControl.sale hlane, (congrArg LaneControl.mode hlane :),
      ⟨s.piecesList (s.sale l).pieces, s.listsPieces_piecesList _, congrArg LaneControl.slot hlane⟩,
      congrArg LaneNotices.flags hflags, fun k => ⟨s.closeSale_tally l o k, s.closeSale_path l o k⟩, hother, hflagsOther, s.closeSale_records l o, ?_, s.closeSale_eq l o⟩
    simp only [State.closeSale, State.reopenRuns_frame, State.clearTallies_eq]
    rfl

/-- Settles O34: the sensor's report, the presenter and the closing test; the timer by the notice its expiry
raises at the close of the event. -/
theorem chutesAndTimerActOnAPresentedSale : Obligations.ChutesAndTimerActOnAPresentedSale := by
  intro s l hp
  refine ⟨fun k occupied => ?_, fun seconds htimer => ?_⟩
  · have hpin : (s.setChutePin l k occupied).phase = .running := hp
    have hrun : exec (.chuteSensorChange l k occupied) s =
        .next ((((s.setChutePin l k occupied).shutPresenter l k occupied).closeIfClear l).finish) :=
      State.whileRunning_running _ (fun t => ((t.shutPresenter l k occupied).closeIfClear l).finish) hpin
    obtain ⟨hsale, hpins⟩ := (s.setChutePin l k occupied).shutPresenter_reads l l k occupied
    have hchutes : (s.setChutePin l k occupied).pins.chuteOccupied.get l =
        (s.pins.chuteOccupied.get l).set k occupied := PerLane.get_set_self ..
    have hpinned : (s.setChutePin l k occupied).sale l = s.sale l := rfl
    rw [hrun, State.closeIfClear_eq, hsale, hpins, hchutes, hpinned, State.shutPresenter_eq]
    refine ⟨fun hclear => by rw [if_pos hclear]; rfl, fun hclear => by rw [if_neg hclear]; rfl⟩
  · have hmod : s.modSale l Sale.expireTimer = s.setSale l { s.sale l with timer := .expired } := by
      rw [State.modSale, Sale.expireTimer_running htimer]
    have hrun : exec (.presentTimerExpiry l) s = .next (s.modSale l Sale.expireTimer).closeEvent :=
      s.whileRunning_running (fun t => (t.modSale l Sale.expireTimer).closeEvent) hp
    refine ⟨hrun.trans (by rw [hmod]), fun hpresented => ?_⟩
    rw [State.closeEvent_laneNotices]
    have hdue : (s.setSale l { s.sale l with timer := .expired }).overdueCondition l = true := by
      unfold State.overdueCondition
      rw [State.sale_setSale_self]
      simp [hpresented]
    exact hdue

end Sys2Proof
end

section
/-! PROOF. RETRACT NOTES (O31): the bundle of a presented sale, denomination by denomination. -/

namespace Sys2Proof.Machine

/-- What retracting the pieces paid of some denominations leaves (R47, R150). -/
structure State.Retracts (s u : State) (l : Lane) (ds : List Denom) : Prop where
  noteBox : ∀ d, (u.box .note).countOf d =
    (s.box .note).countOf d + if d ∈ ds then (s.sale l).paidPieces d else 0
  counters : ∀ d, u.counters d = if d ∈ ds then
    { s.counters d with retracted := min 4294967295 ((s.counters d).retracted + (s.sale l).paidPieces d) }
    else s.counters d
  pieces : ∀ d, (u.sale l).paidPieces d = if d ∈ ds then 0 else (s.sale l).paidPieces d
  sale : u.sale l = { s.sale l with
    paid := (s.sale l).paid - (ds.map (fun d => (s.sale l).paidPieces d * s.value d)).sum
    shortfall := (s.sale l).shortfall + (ds.map (fun d => (s.sale l).paidPieces d * s.value d)).sum
    retracted := (s.sale l).retracted || !ds.isEmpty
    pieces := (u.sale l).pieces }
  inexact : s.inexactFollows u (∃ d ∈ ds, 4294967295 < (s.counters d).retracted + (s.sale l).paidPieces d)
  coinBox : u.box .coin = s.box .coin
  lanes : u.lane l.other = s.lane l.other ∧ u.mode l = s.mode l ∧ u.slot l = s.slot l
  frame : u = { s with
    boxes := u.boxes, lanes := u.lanes, totals := u.totals, officeNotices := u.officeNotices }

theorem State.retracts_nil (s : State) (l : Lane) : s.Retracts s l [] where
  noteBox _ := rfl
  counters _ := rfl
  pieces _ := rfl
  sale := by simp
  inexact := by simp [State.inexactFollows]
  coinBox := rfl
  lanes := ⟨rfl, rfl, rfl⟩
  frame := rfl

theorem Sale.paidPieces_setPieces_self (x : Sale) (d : Denom) (n : Nat) : (x.setPieces d n).paidPieces d = n := by
  simp [Sale.paidPieces, Sale.setPieces]

theorem Cashbox.countOf_setCount (b : Cashbox) (d e : Denom) (n : Nat) :
    (b.setCount d n).countOf e = if e = d then n else b.countOf e := by
  by_cases he : e = d
  · subst he; simp [Cashbox.countOf, Cashbox.setCount]
  · have hv : d.val ≠ e.val := fun h => he (Fin.ext h.symm)
    simp [Cashbox.countOf, Cashbox.setCount, he, hv]

/-- A sale with one denomination of its notes retracted. -/
def Sale.retractOne (x : Sale) (d : Denom) (v : Nat) : Sale :=
  { x with paid := x.paid - x.paidPieces d * v, shortfall := x.shortfall + x.paidPieces d * v,
           retracted := true }.setPieces d 0

section
variable (s : State) (l : Lane) (d : Denom)

/-- The note cashbox with one denomination of the bundle put in, and the booking of it. -/
def State.retractBox : State :=
  (s.modBox .note (fun b => b.setCount d (b.countOf d + (s.sale l).paidPieces d))).book .retracted d
    ((s.sale l).paidPieces d)

theorem State.retractBox_eq : ∃ boxes counters inexact flag, s.retractBox l d = { s with
    boxes := boxes
    totals := { s.totals with counters := counters, inexact := inexact }
    officeNotices := { s.officeNotices with flags := { s.officeNotices.flags with shiftInexact := flag } } } := by
  obtain ⟨c, i, f, h⟩ := (s.modBox .note (fun b => b.setCount d (b.countOf d + (s.sale l).paidPieces d))
    ).book_onlyBooks .retracted d ((s.sale l).paidPieces d)
  exact ⟨_, c, i, f, h⟩

theorem State.retractBox_lane (m : Lane) : (s.retractBox l d).lane m = s.lane m := by
  obtain ⟨_, _, _, _, h⟩ := s.retractBox_eq l d
  rw [h]
  rfl

theorem State.retractOne_eq : State.retractOne l s d =
    (s.retractBox l d).setSale l ((s.sale l).retractOne d (s.value d)) := by
  have hsale : (s.retractBox l d).sale l = s.sale l := congrArg LaneControl.sale (s.retractBox_lane l d l)
  have hmod : State.retractOne l s d = (s.retractBox l d).setSale l
      ({ (s.retractBox l d).sale l with
        paid := ((s.retractBox l d).sale l).paid - (s.sale l).paidPieces d * s.value d
        shortfall := ((s.retractBox l d).sale l).shortfall + (s.sale l).paidPieces d * s.value d
        retracted := true }.setPieces d 0) := rfl
  rw [hmod, hsale]
  rfl

theorem State.retractOne_lane (m : Lane) : (State.retractOne l s d).lane m =
    if m = l then { s.lane l with sale := (s.sale l).retractOne d (s.value d) } else s.lane m := by
  rw [s.retractOne_eq, State.setSale, s.retractBox_lane]
  split
  · rename_i hm; subst hm; exact State.lane_setLane_self ..
  · rename_i hm; rw [State.lane_setLane_ne _ _ _ _ hm, s.retractBox_lane]

theorem State.retractOne_frame : State.retractOne l s d = { s with
    boxes := (State.retractOne l s d).boxes, lanes := (State.retractOne l s d).lanes,
    totals := (State.retractOne l s d).totals, officeNotices := (State.retractOne l s d).officeNotices } := by
  obtain ⟨_, _, _, _, h⟩ := s.retractBox_eq l d
  rw [s.retractOne_eq, h]
  rfl

theorem State.retractOne_counters (e : Denom) : (State.retractOne l s d).counters e = if e = d then
    { s.counters d with retracted := min 4294967295 ((s.counters d).retracted + (s.sale l).paidPieces d) }
    else s.counters e := by
  have h := (s.modBox .note (fun b => b.setCount d (b.countOf d + (s.sale l).paidPieces d))).book_counters_eq
    .retracted d e ((s.sale l).paidPieces d)
  refine h.trans (if_congr Iff.rfl ?_ rfl)
  rw [Nat.min_comm]
  rfl

theorem State.retractOne_inexact :
    s.inexactFollows (State.retractOne l s d) (4294967295 < (s.counters d).retracted + (s.sale l).paidPieces d) := by
  obtain ⟨h1, h2⟩ := (s.modBox .note (fun b => b.setCount d (b.countOf d + (s.sale l).paidPieces d))).book_inexact
    .retracted d ((s.sale l).paidPieces d)
  refine ⟨h1, h2, ?_⟩
  obtain ⟨_, _, _, _, h⟩ := s.retractBox_eq l d
  rw [s.retractOne_eq, h]
  rfl

end

theorem Sale.paidPieces_retractOne (x : Sale) (d e : Denom) (v : Nat) :
    (x.retractOne d v).paidPieces e = if e = d then 0 else x.paidPieces e := by
  unfold Sale.retractOne
  split
  · rename_i he; subst he; rw [Sale.paidPieces_setPieces_self]
  · rename_i he; rw [Sale.paidPieces_setPieces_ne _ _ _ _ he]; rfl

/-- A bundle of distinct denominations, one after the other (R47). -/
theorem State.retracts (l : Lane) (ds : List Denom) (s : State) (nodup : ds.Nodup) :
    s.Retracts (ds.foldl (State.retractOne l) s) l ds := by
  induction ds generalizing s with
  | nil => exact s.retracts_nil l
  | cons d ds ih =>
    obtain ⟨hd, nodup⟩ := List.nodup_cons.mp nodup
    have rest := ih (State.retractOne l s d) nodup
    obtain ⟨-, -, hbox, -⟩ := State.retractOne_tables l s d
    have hsale : (State.retractOne l s d).sale l = (s.sale l).retractOne d (s.value d) := by
      rw [State.sale, s.retractOne_lane, if_pos rfl]
    have hvalue : (State.retractOne l s d).value = s.value := by rw [s.retractOne_frame]; rfl
    have hpieces : ∀ e ∈ ds, ((State.retractOne l s d).sale l).paidPieces e = (s.sale l).paidPieces e := by
      intro e he
      rw [hsale, Sale.paidPieces_retractOne, if_neg (by rintro rfl; exact hd he)]
    rw [List.foldl_cons]
    generalize ds.foldl (State.retractOne l) (State.retractOne l s d) = u at rest
    have hlater : (∃ e ∈ ds, 4294967295 < ((State.retractOne l s d).counters e).retracted +
        ((State.retractOne l s d).sale l).paidPieces e) ↔
        ∃ e ∈ ds, 4294967295 < (s.counters e).retracted + (s.sale l).paidPieces e := by
      refine exists_congr fun e => and_congr_right fun he => ?_
      rw [hpieces e he, s.retractOne_counters, if_neg (by rintro rfl; exact hd he)]
    have hsum : ds.map (fun e => ((State.retractOne l s d).sale l).paidPieces e * (State.retractOne l s d).value e) =
        ds.map (fun e => (s.sale l).paidPieces e * s.value e) :=
      List.map_congr_left fun e he => by rw [hpieces e he, hvalue]
    refine ⟨fun e => ?_, fun e => ?_, fun e => ?_, ?_, ⟨?_, ?_, ?_⟩, ?_, ?_, ?_⟩
    · rw [rest.noteBox, hbox, if_pos rfl, Cashbox.countOf_setCount]
      by_cases he : e = d
      · subst he; simp [hd]
      · by_cases hm : e ∈ ds
        · simp [he, hm, hpieces e hm]
        · simp [he, hm]
    · rw [rest.counters, s.retractOne_counters]
      by_cases he : e = d
      · subst he; simp [hd]
      · by_cases hm : e ∈ ds
        · simp [he, hm, hpieces e hm]
        · simp [he, hm]
    · rw [rest.pieces, hsale, Sale.paidPieces_retractOne]
      by_cases he : e = d
      · subst he; simp
      · simp [he]
    · have hrest := rest.sale
      rw [hsum, hsale] at hrest
      refine hrest.trans ?_
      simp only [Sale.retractOne, Sale.setPieces, Nat.sub_sub, Nat.add_assoc, List.map_cons, List.sum_cons,
        Bool.true_or, List.isEmpty_cons, Bool.not_false, Bool.or_true]
    · rw [rest.inexact.1, (s.retractOne_inexact l d).1, hlater, or_assoc, List.exists_mem_cons_iff]
    · rw [rest.inexact.2.1, (s.retractOne_inexact l d).2.1, hlater, or_assoc, List.exists_mem_cons_iff]
    · obtain ⟨-, -, hflags⟩ := rest.inexact
      obtain ⟨-, -, hone⟩ := s.retractOne_inexact l d
      rw [hone] at hflags
      exact hflags
    · exact rest.coinBox.trans (hbox .coin)
    · obtain ⟨h1, h2, h3⟩ := rest.lanes
      have hlane := s.retractOne_lane l d l
      have hother := s.retractOne_lane l d l.other
      rw [if_pos rfl] at hlane
      rw [if_neg (by cases l <;> nofun)] at hother
      exact ⟨h1.trans hother, h2.trans (congrArg LaneControl.mode hlane :), h3.trans (congrArg LaneControl.slot hlane :)⟩
    · rw [rest.frame, s.retractOne_frame]

/-- The state after a bundle is retracted, before the close of the event: its presenter is closed (R131). -/
def State.retracted (s : State) (l : Lane) : State :=
  let t := (s.noteDenoms l).foldl (State.retractOne l) s
  { t with presenterOpen := t.presenterOpen.set l false }

theorem retractNotes_eq (l : Lane) (s : State) : retractNotes l s =
    if (s.sale l).state = .presented ∧ (s.pins.chuteOccupied.get l).note = true ∧
        (s.noteDenoms l).map (s.sale l).paidPieces ≠ [] ∧ (s.box .note).present = true ∧
        (s.box .note).count + (s.box .note).promised + s.bundle l ≤ (s.box .note).capacity then
      ((s.retracted l).closeEvent, done)
    else (s, refuse .state) := by
  unfold retractNotes
  by_cases hstate : (s.sale l).state = .presented
  · simp only [hstate, ne_eq, not_true_eq_false, if_false, true_and, List.map_eq_nil_iff, Bool.or_eq_true,
      Bool.not_eq_true', List.isEmpty_iff]
    by_cases hnotes : (s.pins.chuteOccupied.get l).note = true ∧ s.noteDenoms l ≠ []
    · obtain ⟨hchute, hne⟩ := hnotes
      simp only [hchute, hne, Bool.true_eq_false, or_self, if_false, not_false_eq_true, true_and]
      by_cases hroom : (s.box .note).present = true ∧
          (s.box .note).count + (s.box .note).promised + s.bundle l ≤ (s.box .note).capacity
      · rw [if_pos hroom, if_neg (by simpa using hroom)]
        rfl
      · rw [if_neg hroom, if_pos (by simpa [or_iff_not_imp_left] using hroom)]
    · rw [if_pos (by simpa [or_iff_not_imp_left] using hnotes), if_neg (fun h => hnotes ⟨h.1, h.2.1⟩)]
  · rw [if_pos hstate, if_neg (fun h => hstate h.1)]

end Sys2Proof.Machine
end

section
namespace Sys2Proof
open Machine

/-- Settles O31: the checks of R47, and the bundle by its denominations in index order (`State.retracts`). -/
theorem retractMovesTheBundleToTheNoteCashbox : Obligations.RetractMovesTheBundleToTheNoteCashbox := by
  intro s l ht
  have hrun : exec (.retractNotes (.lane l) []) s =
      (retractNotes l s).1.answered (.lane l) 0x07 (retractNotes l s).2 :=
    keyed_performed .retractNotes l [] s ht rfl rfl rfl
  have hmem : ∀ d, ((s.denom d).kind == .note && s.value d != 0 && (s.sale l).paidPieces d != 0) = true ↔
      d ∈ s.noteDenoms l := fun d => by simp [State.mem_noteDenoms, and_assoc]
  refine ⟨fun hnot => ?_, fun hpasses => ⟨s.retracted l, ?_, ?_⟩⟩
  · have hrefuse := (retractNotes_eq l s).trans (if_neg hnot)
    rw [hrun, hrefuse]
  · have hdone := (retractNotes_eq l s).trans (if_pos hpasses)
    rw [hrun, hdone]
  · have h := State.retracts l (s.noteDenoms l) s (allDenoms_nodup.filter _)
    have hcounters : ∀ d, (s.retracted l).counters d = if d ∈ s.noteDenoms l then { s.counters d with
        retracted := min 4294967295 ((s.counters d).retracted + (s.sale l).paidPieces d) } else s.counters d :=
      h.counters
    have hne : (s.noteDenoms l).isEmpty = false := by
      obtain ⟨-, -, hne, -⟩ := hpasses
      cases hd : s.noteDenoms l with
      | nil => exact absurd (congrArg (List.map (s.sale l).paidPieces) hd) hne
      | cons d ds => rfl
    have hsale := h.sale
    rw [hne, Bool.not_false, Bool.or_true] at hsale
    have hpresenter := congrArg (fun u : State => u.presenterOpen.set l false) h.frame
    obtain ⟨hother, hmode, hslot⟩ := h.lanes
    simp only [hmem]
    refine ⟨h.noteBox, fun d => ?_, fun d => ?_, h.pieces, hsale, hpresenter, h.inexact, (congrArg State.stores h.frame :),
      h.coinBox, (congrArg State.pool h.frame :), (congrArg State.planner h.frame :), hother, hmode, hslot⟩
    · rw [hcounters]; split <;> rfl
    · rw [hcounters]; split <;> rfl

end Sys2Proof
end

section
/-! PROOF. The completion of a refund and of a make-up (O59). -/

namespace Sys2Proof.Machine

/-- What a make-up's completion writes into its sale, and the next make-up while value is owed (R42). -/
theorem State.nextMakeup_setSale (s : State) (l : Lane) (x : Sale) : (s.setSale l x).nextMakeup l =
    if 0 < x.owed then (s.setSale l x).placeLane l (some .makeup) else s.setSale l x := by
  unfold State.nextMakeup
  rw [State.sale_setSale_self]

/-- A make-up's plan handed back to a sale (R42). -/
theorem State.handBack_makeup {t : State} {l : Lane} {x : Sale} (plan : Plan) (hx : t.sale l = x) :
    let goes := t.setSale l { x with
      shortfall := x.shortfall + plan.shortfall
      coinsCommitted := x.coinsCommitted + plan.coins
      notesCommitted := x.notesCommitted + plan.notes }
    t.handBack (.lane l .makeup) plan =
      if 0 < x.owed then goes.placeLane l (some .makeup) else goes := by
  subst hx
  exact t.nextMakeup_setSale l _

theorem State.handStockChanged_makeup {t : State} {l : Lane} {x : Sale} (n : Nat) (hx : t.sale l = x) :
    let short := t.setSale l { x with shortfall := x.shortfall + n }
    t.handStockChanged (.lane l .makeup) n =
      if 0 < x.owed then short.placeLane l (some .makeup) else short := by
  subst hx
  exact t.nextMakeup_setSale l _

section
variable {s : State} {l : Lane} {w : Work} (hp : s.phase = .running) (hw : s.planner.work = some w)
include hp hw

/-- A lane's request that is neither withdrawn nor refused, by its plan and its check (R91, R92). -/
theorem exec_attemptCompletion_lane {q : LaneRequest} (hjob : w.job = .lane l q) (hdrawn : s.withdrawn w = false)
    (hrefuses : w.refuses (w.plan s.limits) = false) :
    let plan := w.plan s.limits
    (plan.strokes = [] → exec .attemptCompletion s = .next (s.freePlanner.handBack w.job plan).finish) ∧
    (∀ t, plan.strokes ≠ [] → s.reserveAll plan.strokes = some t → plan.strokes.length ≤ s.pool.free.length →
      exec .attemptCompletion s = .next (({ t with
        planner := { s.planner with work := none }
        pool := s.pool.write (.lane l) w.job.origin plan.strokes }).handBack w.job plan).finish) ∧
    (plan.strokes ≠ [] → s.reserveAll plan.strokes = none →
      exec .attemptCompletion s = .next (s.recompute w).finish) := by
  have hspace : s.spaceAllows w.job (w.plan s.limits) = true := by simp only [State.spaceAllows, hjob]
  refine ⟨fun he => ?_, fun t hne ht hroom => ?_, fun hne hnone => ?_⟩
  · rw [exec_attemptCompletion hp hw (State.completeAttempt_empty hdrawn hrefuses he)]
  · rw [exec_attemptCompletion hp hw (State.completeAttempt_laid hdrawn hrefuses hne hspace ht hroom)]
    obtain ⟨v, rfl⟩ : ∃ v, t = { s with stores := v } := ⟨_, (State.reserveAll_some ht).1⟩
    simp only [hjob]
    rfl
  · rw [exec_attemptCompletion hp hw (State.completeAttempt_failed hdrawn hrefuses hne ((if_pos hspace).trans hnone))]

end

end Sys2Proof.Machine
end

section
namespace Sys2Proof
open Machine

/-- Settles O59: a lane's completion by its plan and its check, and what each ending hands back to the sale. -/
theorem refundAndMakeupCompleteByTheirPlan : Obligations.RefundAndMakeupCompleteByTheirPlan := by
  intro s l w hp hw
  refine ⟨fun hjob => ?_, fun hjob => ?_⟩
  · have hplan : w.plan s.limits = w.snap.lanePlan s.limits .refund := by simp only [Work.plan, hjob]
    have hdrawn : s.withdrawn w = false := by simp only [State.withdrawn, hjob]
    have hrefuses : w.refuses (w.plan s.limits) = false := by simp only [Work.refuses, hjob]
    obtain ⟨hempty, hlaid, hfailed⟩ := exec_attemptCompletion_lane hp hw hjob hdrawn hrefuses
    rw [hplan] at hempty hlaid hfailed
    simp only [State.handBack, hjob] at hempty hlaid
    refine ⟨hempty, fun t hne ht hroom => ?_, fun hne hnone => ⟨fun hlt => ?_, fun hle => ?_⟩⟩
    · obtain ⟨v, rfl⟩ : ∃ v, t = { s with stores := v } := ⟨_, (State.reserveAll_some ht).1⟩
      exact hlaid _ hne ht hroom
    · rw [hfailed hne hnone, State.recompute_anew hlt]
    · rw [hfailed hne hnone, State.recompute_last hle]
      simp only [State.handStockChanged, hjob]
      rfl
  · have hplan : w.plan s.limits = w.snap.lanePlan s.limits .makeup := by simp only [Work.plan, hjob]
    have hdrawn : s.withdrawn w = (s.sale l).haltPending := by simp only [State.withdrawn, hjob]
    have hrefuses : w.refuses (w.plan s.limits) = false := by simp only [Work.refuses, hjob]
    refine ⟨fun hhalt => ?_, fun hhalt => ?_⟩
    · rw [exec_attemptCompletion hp hw (State.completeAttempt_withdrawn (hdrawn.trans hhalt))]
      simp only [State.completeWithdrawn, hjob]
      rfl
    · obtain ⟨hempty, hlaid, hfailed⟩ := exec_attemptCompletion_lane hp hw hjob (hdrawn.trans hhalt) hrefuses
      have hfree : s.freePlanner.sale l = s.sale l := rfl
      rw [hplan, hjob] at hempty hlaid
      rw [hplan] at hfailed
      refine ⟨fun he => ?_, fun t hne ht hroom => ?_, fun hne hnone => ⟨fun hlt => ?_, fun hle => ?_⟩⟩
      · rw [hempty he, State.handBack_makeup _ hfree]
        rfl
      · have hlanes : t.lanes = s.lanes := by rw [(State.reserveAll_some ht).1]
        have hsale : ∀ u : State, u.lanes = t.lanes → u.sale l = s.sale l :=
          fun u hu => congrArg (fun v : PerLane LaneControl => (v.get l).sale) (hu.trans hlanes)
        rw [hlaid t hne ht hroom, State.handBack_makeup (x := s.sale l)]
        · rfl
        · exact hsale _ rfl
      · rw [hfailed hne hnone, State.recompute_anew hlt]
      · rw [hfailed hne hnone, State.recompute_last hle]
        rw [hjob, State.handStockChanged_makeup _ hfree]
        rfl

end Sys2Proof
end

section
/-! SUPPORT. The accounts of a sale (R49), of a completion record and of the work in hand: the clauses of
`State.salesFollow` by name, and what they are read off. -/

namespace Sys2Proof.Machine

/-! ### A sale and its record -/

/-- R49's identity of a sale, given what its strokes carry, what its make-up in work asks for and the values of the
denominations. -/
structure Sale.Balanced (x : Sale) (carried asked : Nat) (value : Denom → Nat) : Prop where
  idle : x.state = .idle → x = Sale.idle x.sequence
  untargeted : x.state = .idle ∨ x.state = .tendering → x.target = 0
  unpaid : x.state = .idle ∨ x.state = .tendering ∨ x.state = .planning →
    x.paid = 0 ∧ x.overpay = 0 ∧ x.shortfall = 0 ∧ x.owed = 0
  sum : x.state = .paying ∨ x.state = .presented →
    x.paid + x.shortfall + x.owed + carried + asked = x.target + x.overpay
  settled : x.state = .presented → x.owed = 0
  pieces : x.paid = (allDenoms.map (fun d => x.paidPieces d * value d)).sum

/-- A record that a close wrote (R48, R49). -/
def Completion.Balanced (c : Completion) : Prop :=
  c.outcome ≠ .interrupted →
    c.paid + c.shortfall = c.target + c.overpay ∧
    (c.outcome = .cancelled → c.target = 0 ∧ c.paid = 0 ∧ c.overpay = 0 ∧ c.shortfall = 0)

theorem State.saleAccounts_iff (s : State) (l : Lane) : s.saleAccounts l ↔
    (s.sale l).Balanced (s.carried l) (s.asked l) s.value ∧ ∀ c, s.slot l = some c → c.Balanced :=
  ⟨fun ⟨h1, h2, h3, h4, h5, h6, h7⟩ => ⟨⟨h1, h2, h3, h4, h5, h6⟩, h7⟩,
    fun ⟨⟨h1, h2, h3, h4, h5, h6⟩, h7⟩ => ⟨h1, h2, h3, h4, h5, h6, h7⟩⟩

namespace Sale.Balanced

variable {x : Sale} {carried asked : Nat} {value : Denom → Nat}

/-- An IDLE sale holds nothing, whatever the rest of the part does. -/
theorem of_idle (n : Word16) (carried asked : Nat) (value : Denom → Nat) :
    (Sale.idle n).Balanced carried asked value where
  idle _ := rfl
  untargeted _ := rfl
  unpaid _ := ⟨rfl, rfl, rfl, rfl⟩
  sum h := h.elim nofun nofun
  settled := nofun
  pieces := by simp [Sale.idle, Sale.paidPieces]

/-- Nothing is paid of an IDLE sale, at whatever values. -/
theorem of_state_idle (h : x.Balanced carried asked value) (hx : x.state = .idle) (carried' asked' : Nat)
    (value' : Denom → Nat) : x.Balanced carried' asked' value' := by
  rw [h.idle hx]
  exact of_idle _ _ _ _

/-- A sale before its payout: nothing is paid, and only PLANNING has a target. -/
theorem of_unpaid (hstate : x.state = .tendering ∨ x.state = .planning) (hzero : x.paid = 0 ∧ x.overpay = 0 ∧
    x.shortfall = 0 ∧ x.owed = 0) (htarget : x.state = .tendering → x.target = 0)
    (hpieces : x.paid = (allDenoms.map (fun d => x.paidPieces d * value d)).sum) :
    x.Balanced carried asked value where
  idle h := by rcases hstate with hs | hs <;> rw [hs] at h <;> exact absurd h nofun
  untargeted h := h.elim (fun h => by rcases hstate with hs | hs <;> rw [hs] at h <;> exact absurd h nofun) htarget
  unpaid _ := hzero
  sum h := by rcases hstate with hs | hs <;> rw [hs] at h <;> exact h.elim nofun nofun
  settled h := by rcases hstate with hs | hs <;> rw [hs] at h <;> exact absurd h nofun
  pieces := hpieces

/-- A sale in its payout. -/
theorem of_paying (hstate : x.state = .paying)
    (hsum : x.paid + x.shortfall + x.owed + carried + asked = x.target + x.overpay)
    (hpieces : x.paid = (allDenoms.map (fun d => x.paidPieces d * value d)).sum) :
    x.Balanced carried asked value where
  idle h := absurd (hstate.symm.trans h) nofun
  untargeted h := h.elim (fun h => absurd (hstate.symm.trans h) nofun) (fun h => absurd (hstate.symm.trans h) nofun)
  unpaid h := by rw [hstate] at h; exact absurd h (by simp)
  sum _ := hsum
  settled h := absurd (hstate.symm.trans h) nofun
  pieces := hpieces

/-- A change of what the accounts are not about. -/
theorem congr {y : Sale} (h : x.Balanced carried asked value) (hne : x.state ≠ .idle)
    (hstate : y.state = x.state) (htarget : y.target = x.target) (hpaid : y.paid = x.paid)
    (hover : y.overpay = x.overpay) (hshort : y.shortfall = x.shortfall) (howed : y.owed = x.owed)
    (hpieces : y.pieces = x.pieces) : y.Balanced carried asked value where
  idle hy := absurd (hstate ▸ hy) hne
  untargeted := by rw [hstate, htarget]; exact h.untargeted
  unpaid := by rw [hstate, hpaid, hover, hshort, howed]; exact h.unpaid
  sum := by rw [hstate, htarget, hpaid, hover, hshort, howed]; exact h.sum
  settled := by rw [hstate, howed]; exact h.settled
  pieces := by rw [hpaid, h.pieces]; unfold Sale.paidPieces; rw [hpieces]

end Sale.Balanced

/-! ### The accounts of the part -/

/-- The snapshot of a lane's request in work agrees with its sale and with the tables (R74). -/
structure State.SnapshotAgrees (s : State) (n : Snapshot) (l : Lane) (q : LaneRequest) : Prop where
  target : q ≠ .makeup → n.target = (s.sale l).target
  stores : ∀ k, (n.store k).denom = (s.store k).denom
  denoms : ∀ d, (n.denom d).value = s.value d ∧ (n.denom d).kind = (s.denom d).kind ∧
    (n.denom d).enabled = s.enabled d

/-- The clauses of `State.salesFollow`, with what they rest on. -/
structure State.Accounts (s : State) : Prop where
  lanes : s.laneWorkFollows
  sales : ∀ l, (s.sale l).Balanced (s.carried l) (s.asked l) s.value
  slots : ∀ l c, s.slot l = some c → c.Balanced
  windows : ∀ r ∈ s.pool.records, r.owner ≠ .office → (s.store r.store).channel.runs r = true →
    (s.store r.store).channel.holdsNothing = true → r.delivered = r.count
  work : ∀ w, s.planner.work = some w → ∀ l q, w.job = .lane l q → s.SnapshotAgrees w.snap l q
  fresh : ∀ r ∈ s.pool.records, r.state = .waiting → r.delivered = 0

theorem State.Accounts.salesFollow {s : State} (h : s.Accounts) : s.salesFollow := fun _ =>
  ⟨fun l => (s.saleAccounts_iff l).mpr ⟨h.sales l, h.slots l⟩, h.windows, fun w hw l q hq =>
    have agrees := h.work w hw l q hq
    ⟨agrees.target, agrees.stores, agrees.denoms⟩⟩

theorem State.accounts_of_follow {s : State} (hp : s.phase = .running) (lanes : s.laneWorkFollows)
    (stocked : s.Stocked) (sales : s.salesFollow) : s.Accounts := by
  obtain ⟨accounts, windows, work⟩ := sales hp
  refine ⟨lanes, fun l => ((s.saleAccounts_iff l).mp (accounts l)).1,
    fun l => ((s.saleAccounts_iff l).mp (accounts l)).2, windows, fun w hw l q hq => ?_, fun r hr hw => ?_⟩
  · obtain ⟨target, stores, denoms⟩ := work w hw l q hq
    exact ⟨target, stores, denoms⟩
  · obtain ⟨-, -, hfresh, -⟩ := stocked.records r hr
    exact hfresh hw

/-! ### What the accounts are read off -/

/-- The strokes, the work in hand, and of the tables what gives a stroke its value and a store its stroke. -/
structure State.sameStrokes (s t : State) : Prop where
  records : t.pool.records = s.pool.records
  work : t.planner.work = s.planner.work
  denoms : t.denoms = s.denoms
  stores : ∀ k, (t.store k).denom = (s.store k).denom ∧ (t.store k).channel = (s.store k).channel

theorem State.sameStrokes.of_stores {s t : State} (hrec : t.pool.records = s.pool.records)
    (hwork : t.planner.work = s.planner.work) (hdenoms : t.denoms = s.denoms) (hst : t.stores = s.stores) :
    s.sameStrokes t :=
  ⟨hrec, hwork, hdenoms, fun k => by rw [State.store_congr hst]; exact ⟨rfl, rfl⟩⟩

theorem State.sameStrokes.refl (s : State) : s.sameStrokes s := .of_stores rfl rfl rfl rfl

theorem State.sameBooks.strokes {s t : State} (h : s.sameBooks t) : s.sameStrokes t :=
  ⟨congrArg Pool.records h.pool, congrArg Planner.work h.planner, h.denoms, h.stores⟩

theorem State.value_congr {s t : State} (h : t.denoms = s.denoms) : t.value = s.value := by
  funext d
  unfold State.value State.denom
  rw [h]

theorem State.storeValue_congr {s t : State} {k : StoreId} (hd : t.denoms = s.denoms)
    (hk : (t.store k).denom = (s.store k).denom) : t.storeValue k = s.storeValue k := by
  unfold State.storeValue
  rw [hk, State.value_congr hd]

theorem State.SnapshotAgrees.congr {s t : State} {n : Snapshot} {l : Lane} {q : LaneRequest}
    (h : s.SnapshotAgrees n l q) (htarget : q ≠ .makeup → (t.sale l).target = (s.sale l).target)
    (hd : t.denoms = s.denoms) (hst : ∀ k, (t.store k).denom = (s.store k).denom) : t.SnapshotAgrees n l q where
  target hq := (h.target hq).trans (htarget hq).symm
  stores k := (h.stores k).trans (hst k).symm
  denoms d := by
    have hden : t.denom d = s.denom d := by unfold State.denom; rw [hd]
    unfold State.enabled State.used State.value
    rw [hden]
    exact h.denoms d

section
variable {s t : State} (h : s.sameStrokes t)
include h

theorem State.sameStrokes.carried (l : Lane) : t.carried l = s.carried l := by
  unfold State.carried State.sumStrokes State.strokeValue
  rw [h.records]
  simp only [State.storeValue_congr h.denoms (h.stores _).1]

theorem State.sameStrokes.asked (l : Lane) : t.asked l = s.asked l := by
  unfold State.asked
  rw [h.work]

end

/-- One lane's controller is written. -/
theorem State.Accounts.change {s t : State} {l : Lane} (h : s.Accounts) (strokes : s.sameStrokes t)
    (lanes : t.laneWorkFollows) (others : ∀ m, m ≠ l → t.lane m = s.lane m)
    (own : (t.sale l).Balanced (s.carried l) (s.asked l) s.value) (slot : ∀ c, t.slot l = some c → c.Balanced)
    (target : ∀ q, q ≠ .makeup → s.jobInWork = some (.lane l q) → (t.sale l).target = (s.sale l).target) :
    t.Accounts where
  lanes := lanes
  sales m := by
    rw [strokes.carried, strokes.asked, State.value_congr strokes.denoms]
    by_cases hm : m = l
    · exact hm ▸ own
    · have := h.sales m
      unfold State.sale at this ⊢
      rwa [others m hm]
  slots m c hc := by
    by_cases hm : m = l
    · exact slot c (hm ▸ hc)
    · refine h.slots m c ?_
      unfold State.slot at hc ⊢
      rwa [others m hm] at hc
  windows r hr := by
    rw [(strokes.stores r.store).2]
    exact h.windows r (strokes.records ▸ hr)
  work w hw m q hq := by
    rw [strokes.work] at hw
    refine (h.work w hw m q hq).congr (fun hmake => ?_) strokes.denoms (fun k => (strokes.stores k).1)
    by_cases hm : m = l
    · subst hm
      refine target q hmake ?_
      rw [State.jobInWork, hw]
      exact congrArg some hq
    · unfold State.sale
      rw [others m hm]
  fresh r hr := h.fresh r (strokes.records ▸ hr)

/-- The lanes' controllers stand. -/
theorem State.Accounts.same_lanes {s t : State} (h : s.Accounts) (strokes : s.sameStrokes t)
    (lanes : t.laneWorkFollows) (hlanes : t.lanes = s.lanes) : t.Accounts := by
  have lane : ∀ m, t.lane m = s.lane m := fun m => congrArg (fun v : PerLane LaneControl => v.get m) hlanes
  refine h.change (l := .one) strokes lanes (fun m _ => lane m) ?_ (fun c hc => ?_) ?_
  · have := h.sales .one
    unfold State.sale at this ⊢
    rwa [lane]
  · refine h.slots .one c ?_
    unfold State.slot at hc ⊢
    rwa [lane] at hc
  · intro _ _ _
    unfold State.sale
    rw [lane]

theorem State.Accounts.of_sameBooks {s t : State} (h : s.Accounts) (same : s.sameBooks t) : t.Accounts :=
  h.same_lanes same.strokes (same.keepsLanes.follows h.lanes) same.lanes

end Sys2Proof.Machine
end

section
/-! SUPPORT. The accounts through strokes that give back pieces (R18, R41, R97, R126). -/

namespace Sys2Proof.Machine

/-- The records of a lane. -/
def ofLane (l : Lane) (r : Stroke) : Bool := r.owner == .lane l

/-- The value of some pieces of a lane's strokes. -/
def State.worth (s : State) (l : Lane) (pieces : Stroke → Nat) : Nat :=
  s.sumStrokes (ofLane l) (fun r => pieces r * s.strokeValue r)

/-- The pieces a stroke has not delivered. -/
def Stroke.undelivered (r : Stroke) : Nat := r.count - r.delivered

theorem State.carried_eq (s : State) (l : Lane) : s.carried l = s.worth l Stroke.undelivered := rfl

theorem State.sumStrokes_noStrokes {s : State} {l : Lane} (h : ¬s.hasStrokes l) (pieces : Stroke → Nat) :
    s.sumStrokes (ofLane l) pieces = 0 :=
  sumOver_eq_zero fun r hr ho => absurd ⟨r, hr, eq_of_beq ho⟩ h

theorem State.carried_noStrokes {s : State} {l : Lane} (h : ¬s.hasStrokes l) : s.carried l = 0 :=
  State.sumStrokes_noStrokes h _

namespace Sale.Balanced

variable {x y : Sale} {carried carried' asked : Nat} {value : Denom → Nat}

/-- Pieces that strokes give back go to owed or to shortfall (R41). -/
theorem giveBack (h : x.Balanced carried asked value) (hstate : x.state = .paying) (v : Nat)
    (hcarried : carried' + v = carried) (coins notes : Nat) :
    ({ x with
      owed := x.owed + if x.haltPending then 0 else v
      shortfall := x.shortfall + if x.haltPending then v else 0
      coinsCommitted := coins, notesCommitted := notes } : Sale).Balanced carried' asked value := by
  have hsum := h.sum (.inl hstate)
  refine .of_paying hstate ?_ h.pieces
  dsimp only
  split <;> omega

end Sale.Balanced

/-- Strokes give back pieces, which leave what the lanes' strokes carry. -/
theorem State.Accounts.givesBack {s t : State} {pieces : Stroke → Nat} (h : s.Accounts)
    (gives : s.givesBack t pieces) (lanes : t.laneWorkFollows)
    (kept : ∀ l, t.hasStrokes l → s.hasStrokes l)
    (carried : ∀ l, t.carried l + s.worth l pieces = s.carried l)
    (windows : ∀ r ∈ t.pool.records, r.owner ≠ .office → (t.store r.store).channel.runs r = true →
      (t.store r.store).channel.holdsNothing = true → r.delivered = r.count)
    (fresh : ∀ r ∈ t.pool.records, r.state = .waiting → r.delivered = 0) : t.Accounts := by
  obtain ⟨hstore, -, hlane, -, hrest⟩ := gives
  have hdenoms : t.denoms = s.denoms := by rw [hrest]
  have hwork : t.planner.work = s.planner.work := by rw [hrest]
  refine ⟨lanes, fun l => ?_, fun l c hc => ?_, windows, fun w hw l q hq => ?_, fresh⟩
  · have hsale := congrArg LaneControl.sale (hlane l)
    have hasked : t.asked l = s.asked l := by unfold State.asked; rw [hwork]
    rw [hasked, State.value_congr hdenoms]
    by_cases hs : s.hasStrokes l
    · obtain ⟨r, hr, ho⟩ := hs
      have hbalanced := (h.sales l).giveBack ((h.lanes.lane l).pays r hr ho) _ (carried l)
        ((s.sale l).coinsCommitted - s.sumStrokes (fun r => r.owner == .lane l && r.path == .coin) pieces)
        ((s.sale l).notesCommitted - s.sumStrokes (fun r => r.owner == .lane l && r.path == .note) pieces)
      rw [State.sale, hsale]
      exact hbalanced
    · have hsum (chosen : Stroke → Bool) (p : Stroke → Nat) (hc : ∀ r, chosen r = true → r.owner = .lane l) :
          s.sumStrokes chosen p = 0 := sumOver_eq_zero fun r hr ho => absurd ⟨r, hr, hc r ho⟩ hs
      have hsame : t.sale l = s.sale l := by
        rw [State.sale, hlane l]
        simp only [hsum _ _ (fun r (ho : (r.owner == .lane l) = true) => eq_of_beq ho), hsum _ _ (fun r
          (ho : (r.owner == .lane l && r.path == .coin) = true) => eq_of_beq (Bool.and_eq_true_iff.mp ho).1),
          hsum _ _ (fun r (ho : (r.owner == .lane l && r.path == .note) = true) =>
            eq_of_beq (Bool.and_eq_true_iff.mp ho).1), ite_self, Nat.add_zero, Nat.sub_zero]
      rw [hsame, State.carried_noStrokes (fun ht => hs (kept l ht)), ← State.carried_noStrokes hs]
      exact h.sales l
  · refine h.slots l c ?_
    have hslot := congrArg LaneControl.slot (hlane l)
    exact hslot.symm.trans hc
  · refine (h.work w (hwork ▸ hw) l q hq).congr (fun _ => ?_) hdenoms (fun k => ?_)
    · have htarget := congrArg (fun x : LaneControl => x.sale.target) (hlane l)
      exact htarget
    · rw [hstore]

/-! ### Records that end -/

theorem State.Accounts.endStrokes {s : State} (h : s.Accounts) {how : Stroke → Option (Ending × Nat)}
    (hhow : ∀ r ∈ s.pool.records, r.owner ≠ .office → ∀ x, how r = some x → x.2 = r.undelivered) :
    (s.endStrokes how).Accounts := by
  have gives := s.endStrokes_givesBack how
  obtain ⟨hrec, -⟩ := s.endStrokes_pool how
  have keeps := s.keepsLanes_endStrokes how
  have hchannel : ∀ k, ((s.endStrokes how).store k).channel = (s.store k).channel := fun k => by
    rw [s.store_endStrokes]
  have hvalue : (s.endStrokes how).strokeValue = s.strokeValue := by
    obtain ⟨-, -, -, -, hrest⟩ := gives
    funext r
    exact State.storeValue_congr (by rw [hrest]) (by rw [s.store_endStrokes])
  refine h.givesBack gives (keeps.follows h.lanes) (fun l => (keeps l).strokes) (fun l => ?_) (fun r hr => ?_)
    (fun r hr => h.fresh r (State.mem_endStrokes.mp hr).1)
  · have hsplit := sumOver_split s.pool.records (fun r => (how r).isSome) (ofLane l)
      (fun r => r.undelivered * s.strokeValue r)
    have hgiven : s.worth l (fun r => ((how r).map (·.2)).getD 0) = sumOver s.pool.records (ofLane l)
        (fun r => if (how r).isSome then r.undelivered * s.strokeValue r else 0) := by
      refine sumOver_congr fun r hr => ?_
      by_cases ho : ofLane l r = true
      · cases hx : how r with
        | none => simp [hx]
        | some x =>
          have hlane : r.owner ≠ .office := by rw [eq_of_beq ho]; nofun
          simp [hx, ho, hhow r hr hlane x hx]
      · simp [ho]
    have hkeep : (s.endStrokes how).carried l = sumOver (s.pool.records.filter (fun r => !(how r).isSome))
        (ofLane l) (fun r => r.undelivered * s.strokeValue r) := by
      rw [State.carried_eq, State.worth, State.sumStrokes_eq, hrec, hvalue]
    have hall : s.carried l = sumOver s.pool.records (ofLane l) (fun r => r.undelivered * s.strokeValue r) := rfl
    omega
  · rw [hchannel]
    exact h.windows r (State.mem_endStrokes.mp hr).1

theorem State.Accounts.drops {s : State} (h : s.Accounts) (chosen : Stroke → Bool) :
    (s.endStrokes (dropWhere chosen)).Accounts := by
  refine h.endStrokes fun r hr _ x hx => ?_
  rw [dropWhere_some] at hx
  split at hx
  · rename_i hc
    obtain rfl := Option.some.inj hx
    have hw : r.state = .waiting := eq_of_beq (Bool.and_eq_true_iff.mp hc).1
    rw [Stroke.undelivered, h.fresh r hr hw, Nat.sub_zero]
  · exact absurd hx nofun

/-- A running stroke that ends gives back what it has not delivered: nothing where its window is open (R121). -/
theorem State.Accounts.endsOnStore {s : State} (h : s.Accounts) (linked : s.Linked) {k : StoreId}
    {running : Option SlotId} {released : Bool} (drops : Bool)
    (hrun : running = none ∨
      (running = (s.store k).channel.slot? ∧ released = (s.store k).channel.holdsNothing)) :
    (s.endStrokes (endOnStore running k drops released)).Accounts := by
  refine h.endStrokes fun r hr ho x hx => ?_
  unfold endOnStore at hx
  split at hx
  · rename_i hslot
    obtain rfl := Option.some.inj hx
    obtain ⟨hrunning, rfl⟩ := hrun.resolve_left (fun e => by rw [e] at hslot; cases hslot)
    have hs : (s.store k).channel.slot? = some r.slot := (hrunning ▸ hslot).symm
    obtain ⟨rfl, -⟩ := linked.of_slot hr hs
    by_cases hw : (s.store r.store).channel.holdsNothing = true
    · have hpaid := h.windows r hr ho (by simp [Channel.runs, hs]) hw
      simp [Stroke.undelivered, hw, hpaid]
    · simp [Stroke.undelivered, hw]
  · rw [dropWhere_some] at hx
    split at hx
    · rename_i hc
      obtain rfl := Option.some.inj hx
      have hw : r.state = .waiting := eq_of_beq (Bool.and_eq_true_iff.mp hc).1
      rw [Stroke.undelivered, h.fresh r hr hw, Nat.sub_zero]
    · exact absurd hx nofun

/-! ### A stroke lowered by one piece -/

theorem State.Accounts.lowerStroke {s : State} (h : s.Accounts) (linked : s.Linked) {r : Stroke}
    (hr : r ∈ s.pool.records) (hw : r.state = .waiting) (hpos : r.owner ≠ .office → 0 < r.count) :
    (s.lowerStroke r).Accounts := by
  have hone := linked.filter_slot hr
  have gives := State.lowerStroke_givesBack hone
  have keeps := State.keepsLanes_lowerStroke hr
  have hrec := s.lowerStroke_records r
  have hchannel : ∀ k, ((s.lowerStroke r).store k).channel = (s.store k).channel := fun k => by
    rw [State.store_lowerStroke hone]
  have hvalue : (s.lowerStroke r).strokeValue = s.strokeValue := by
    obtain ⟨-, -, -, -, hrest⟩ := gives
    funext q
    exact State.storeValue_congr (by rw [hrest]) (by rw [State.store_lowerStroke hone])
  refine h.givesBack gives (keeps.follows h.lanes) (fun l => (keeps l).strokes) (fun l => ?_) (fun q hq => ?_)
    (fun q hq => ?_)
  · have hchange := sumOver_change_one linked.nodup hr Stroke.lowered (c := ofLane l) (c' := ofLane l)
      (p := fun q => q.undelivered * s.strokeValue q) (p' := fun q => q.undelivered * s.strokeValue q)
      (fun _ _ _ => rfl)
    have hgiven : s.worth l (fun q => if q.slot = r.slot then 1 else 0) =
        if ofLane l r then s.strokeValue r else 0 := by
      have hslot := sumOver_slot hone (ofLane l) s.strokeValue
      rw [sumOver_single] at hslot
      rw [← hslot]
      exact sumOver_congr fun q _ => by by_cases hq : q.slot = r.slot <;> simp [hq]
    have hafter : (s.lowerStroke r).carried l = sumOver (s.pool.records.map (fun q =>
        if q.slot = r.slot then Stroke.lowered q else q)) (ofLane l) (fun q => q.undelivered * s.strokeValue q) := by
      rw [State.carried_eq, State.worth, State.sumStrokes_eq, hrec, hvalue]
      rfl
    have hbefore : s.carried l = sumOver s.pool.records (ofLane l) (fun q => q.undelivered * s.strokeValue q) := rfl
    rw [hafter, hbefore, hgiven]
    by_cases ho : ofLane l r = true
    · have hlow : ofLane l r.lowered = true := ho
      have hcount : r.undelivered = r.count := by rw [Stroke.undelivered, h.fresh r hr hw, Nat.sub_zero]
      have hless : r.lowered.undelivered + 1 = r.count := by
        have hp := hpos (by rw [eq_of_beq ho]; nofun)
        have : r.lowered.undelivered = r.count - 1 := by
          rw [Stroke.undelivered]
          exact (congrArg (r.count - 1 - ·) (h.fresh r hr hw)).trans (Nat.sub_zero _)
        omega
      have hworth : r.lowered.undelivered * s.strokeValue r + s.strokeValue r =
          r.undelivered * s.strokeValue r := by rw [hcount, ← hless, Nat.succ_mul]
      have hsame : s.strokeValue r.lowered = s.strokeValue r := rfl
      rw [if_pos ho, if_pos hlow, hsame] at hchange
      rw [if_pos ho]
      omega
    · have hlow : ¬ofLane l r.lowered = true := ho
      rw [if_neg ho, if_neg hlow] at hchange
      rw [if_neg ho]
      exact hchange
  · rw [hrec] at hq
    obtain ⟨p, hp, rfl⟩ := List.mem_map.mp hq
    rw [hchannel]
    unfold rewriteSlot
    split
    · rename_i hs
      obtain rfl := eq_of_slot_eq linked.nodup hr hp hs
      intro _ hruns
      exact absurd ((linked.waiting_iff hp).mp hw) (by rw [Bool.not_eq_false]; exact hruns)
    · exact h.windows p hp
  · rw [hrec] at hq
    obtain ⟨p, hp, rfl⟩ := List.mem_map.mp hq
    unfold rewriteSlot
    split
    · exact h.fresh p hp
    · exact h.fresh p hp

end Sys2Proof.Machine
end

section
/-! SUPPORT. The accounts through the stores, the cashboxes and the pieces a channel pays (R12, R16, R40,
R120–R128). -/

namespace Sys2Proof.Machine

/-! ### Sales -/

/-- A sale outside PLANNING has no settle and no refund in work. -/
theorem State.laneWorkFollows.no_target {α : Prop} {s : State} (h : s.laneWorkFollows) {l : Lane}
    (hplan : (s.sale l).state ≠ .planning) {q : LaneRequest} (hq : q ≠ .makeup)
    (hwork : s.jobInWork = some (.lane l q)) : α := by
  cases q with
  | makeup => exact absurd rfl hq
  | settle => exact absurd ((h.lane l).plans (.inl (.inr hwork))) hplan
  | refund => exact absurd ((h.lane l).plans (.inr (.inr hwork))) hplan

/-- A sale's context is written without a change of its state. -/
theorem State.Accounts.modSale {s : State} (h : s.Accounts) {l : Lane} {f : Sale → Sale}
    (hstate : (f (s.sale l)).state = (s.sale l).state)
    (own : (f (s.sale l)).Balanced (s.carried l) (s.asked l) s.value)
    (target : (s.sale l).state = .planning → (f (s.sale l)).target = (s.sale l).target) :
    (s.modSale l f).Accounts := by
  refine h.change (l := l) (.of_stores rfl rfl rfl rfl) ((State.keepsLanes_modSale hstate).follows h.lanes)
    (fun m hm => s.lane_setLane_ne l m _ hm) ?_ (fun c hc => ?_) fun q hq hwork => ?_
  · rw [State.sale_modSale_self]; exact own
  · rw [State.slot_modSale] at hc; exact h.slots l c hc
  · rw [State.sale_modSale_self]
    by_cases hplan : (s.sale l).state = .planning
    · exact target hplan
    · exact h.lanes.no_target hplan hq hwork

/-! ### Stores -/

/-- One store is written: its denomination stands, and no window opens before its stroke is delivered. -/
theorem State.Accounts.modStore {s : State} (h : s.Accounts) {k : StoreId} {f : Store → Store}
    (hd : (f (s.store k)).denom = (s.store k).denom)
    (hwindow : ∀ r ∈ s.pool.records, r.owner ≠ .office → r.store = k →
      (f (s.store k)).channel.runs r = true → (f (s.store k)).channel.holdsNothing = true → r.delivered = r.count) :
    (s.modStore k f).Accounts := by
  have hdenom : ∀ j, ((s.modStore k f).store j).denom = (s.store j).denom := fun j => by
    rw [State.store_modStore]
    split
    · rename_i hj; subst hj; exact hd
    · rfl
  have hcarried : ∀ l, (s.modStore k f).carried l = s.carried l := fun l => by
    have hvalue : (s.modStore k f).strokeValue = s.strokeValue := by
      funext r
      exact State.storeValue_congr rfl (hdenom r.store)
    unfold State.carried
    rw [hvalue]
    rfl
  refine ⟨State.keepsLanes.follows (.of_same rfl rfl rfl) h.lanes, fun l => ?_, h.slots, fun r hr => ?_,
    fun w hw l q hq => (h.work w hw l q hq).congr (fun _ => rfl) rfl hdenom, h.fresh⟩
  · rw [hcarried]
    exact h.sales l
  · rw [State.store_modStore]
    split
    · rename_i hk
      exact fun ho hruns hnothing => hwindow r hr ho hk hruns hnothing
    · exact h.windows r hr

/-- A store whose channel still holds what its stroke has not delivered, or runs none. -/
theorem State.Accounts.modStore_holding {s : State} (h : s.Accounts) {k : StoreId} {f : Store → Store}
    (hd : (f (s.store k)).denom = (s.store k).denom) (hc : (f (s.store k)).channel.holdsNothing = false) :
    (s.modStore k f).Accounts :=
  h.modStore hd fun _ _ _ _ _ hnothing => absurd (hc.symm.trans hnothing) nofun

theorem State.Accounts.modStore_books {s : State} (h : s.Accounts) (k : StoreId) {f : Store → Store}
    (hf : ∀ x, (f x).denom = x.denom ∧ (f x).channel = x.channel) : (s.modStore k f).Accounts :=
  h.of_sameBooks ((State.sameBooks.refl s).modStore k hf)

theorem State.Accounts.modBox {s : State} (h : s.Accounts) (k : Kind) (f : Cashbox → Cashbox) :
    (s.modBox k f).Accounts := h.of_sameBooks ((State.sameBooks.refl s).modBox k f)

theorem State.Accounts.book {s : State} (h : s.Accounts) (c : Counter) (d : Denom) (n : Nat) :
    (s.book c d n).Accounts := h.of_sameBooks ((State.sameBooks.refl s).onlyBooks (s.book_onlyBooks c d n))

theorem State.sameBooks_bookAdjusted (s : State) (d : Denom) (n : Int) : s.sameBooks (s.bookAdjusted d n) :=
  .of_stores (by simp) (by simp) (by simp) (by simp) (by simp)

theorem State.sameBooks_bookStore (s : State) (c : Counter) (k : StoreId) (n : Nat) :
    s.sameBooks (s.bookStore c k n) := .of_stores (by simp) (by simp) (by simp) (by simp) (by simp)

theorem State.sameBooks_bookUnplaced (s : State) (f : Fill) : s.sameBooks (s.bookUnplaced f) :=
  .of_stores (by simp) (by simp) (by simp) (by simp) (by simp)

theorem State.sameBooks_resolveFills (s : State) (k : StoreId) : s.sameBooks (s.resolveFills k) := by
  refine State.sameBooks.modStore ((State.sameBooks.refl s).onlyBooks (State.foldl_bookUnplaced_onlyBooks _ _)) k ?_
  exact fun _ => ⟨rfl, rfl⟩

theorem State.Accounts.markUncertain {s : State} (h : s.Accounts) (k : StoreId) : (s.markUncertain k).Accounts := by
  rw [s.markUncertain_cases]
  split
  · rw [State.dropWaiting, endOnStore_none]
    refine State.Accounts.drops (h.modStore_books k ?_) _
    exact fun _ => ⟨rfl, rfl⟩
  split
  · refine h.modStore_books k ?_
    exact fun _ => ⟨rfl, rfl⟩
  · exact h

theorem State.Accounts.levelReported {s : State} (h : s.Accounts) (k : StoreId) : (s.levelReported k).Accounts := by
  unfold State.levelReported
  split
  · exact h.markUncertain k
  · exact h

/-- CASSETTE_OUT (R9, R127). -/
theorem State.Accounts.pullCassette {s : State} (h : s.Accounts) (linked : s.Linked) (k : StoreId) :
    (s.pullCassette k).Accounts := by
  have hbooks := s.sameBooks_bookStore .removed k (s.store k).physical
  have hstores : (s.bookStore .removed k (s.store k).physical).stores = s.stores := by simp
  have hlinked := linked.of_tables hstores (congrArg Pool.records hbooks.pool)
  have hchan := congrArg Store.channel (State.store_congr hstores k)
  unfold State.pullCassette
  rw [← hchan]
  have hended := (h.of_sameBooks hbooks).endsOnStore hlinked (k := k) true (.inr ⟨rfl, rfl⟩)
  exact (hended.of_sameBooks (State.sameBooks_resolveFills _ k)).modStore_holding rfl rfl

/-! ### Cashboxes -/

/-- The skim that runs into a removed cashbox opens its window: no lane's stroke does (R23, R128). -/
theorem State.Accounts.stopRunningSkim {s : State} (h : s.Accounts) (linked : s.Linked) (k : Kind) :
    (s.stopRunningSkim k).Accounts := by
  cases hr : s.runningSkim k with
  | none => rw [State.stopRunningSkim_none hr]; exact h
  | some r =>
    obtain ⟨hmem, howner, -, hrun⟩ := State.runningSkim_some hr
    cases hc : (s.store r.store).channel with
    | idle => unfold State.stopRunningSkim; rw [hr]; simp only [hc]; exact h
    | afterRun slot ms => rw [State.stopRunningSkim_afterRun hr hc]; exact h
    | driving slot ms =>
      rw [State.stopRunningSkim_driving hr hc]
      refine State.Accounts.modBox (h.modStore rfl fun q hq ho hk hruns _ => ?_) _ _
      have hslot : (s.store r.store).channel.slot? = some r.slot :=
        ((linked.live r hmem).resolve_left (by rw [hrun]; nofun)).2
      have hq' : some slot = some q.slot := eq_of_beq hruns
      have hsame : slot = r.slot := by rw [hc] at hslot; exact Option.some.inj hslot
      obtain rfl := eq_of_slot_eq linked.nodup hmem hq ((Option.some.inj hq').symm.trans hsame)
      exact absurd howner ho

/-- CASHBOX_OUT (R22, R128). -/
theorem State.Accounts.cashboxOut {s : State} (h : s.Accounts) (linked : s.Linked) (k : Kind) :
    (((s.modBox k Cashbox.out).stopRunningSkim k).dropSkims (fun r => r.path == k)).Accounts := by
  have hout : (s.modBox k Cashbox.out).Accounts := h.modBox k _
  exact (hout.stopRunningSkim (linked.of_tables rfl rfl) k).drops _

/-! ### Fills -/

theorem State.Accounts.confirmFill {s : State} (h : s.Accounts) (k : StoreId) (f : Fill) (rest : List Fill) :
    (s.confirmFill k f rest).Accounts := by
  have hfills : (s.modStore k (fun x => { x with fills := rest })).Accounts := by
    refine h.modStore_books k ?_
    exact fun _ => ⟨rfl, rfl⟩
  unfold State.confirmFill
  dsimp only
  split
  · exact hfills
  split
  · refine State.Accounts.book (hfills.modStore_books k ?_) _ _ _
    exact fun _ => ⟨rfl, rfl⟩
  · exact hfills.markUncertain k

theorem State.Accounts.strayEntry {s : State} (h : s.Accounts) (k : StoreId) : (s.strayEntry k).Accounts := by
  unfold State.strayEntry
  split
  · exact h
  split
  · exact h
  split
  · refine State.Accounts.markUncertain (State.Accounts.of_sameBooks (h.modStore_books k ?_)
      (State.sameBooks_bookAdjusted _ _ _)) k
    exact fun _ => ⟨rfl, rfl⟩
  · exact h.markUncertain k

theorem State.Accounts.unbidden {s : State} (h : s.Accounts) (k : StoreId) : (s.unbidden k).Accounts := by
  have counted : (if 0 < (s.store k).physical then
      (s.modStore k (fun x => { x with physical := x.physical - 1 })).bookAdjustedStore k (-1) else s).Accounts := by
    split
    · refine h.of_sameBooks (State.sameBooks.bookAdjustedStore ((State.sameBooks.refl s).modStore k ?_) k _)
      exact fun _ => ⟨rfl, rfl⟩
    · exact h
  unfold State.unbidden
  dsimp only
  split
  · exact counted.markUncertain k
  · exact counted
  · exact counted
  all_goals exact h

/-! ### The ends of a stroke -/

/-- AFTER_RUN_WINDOW_CLOSE (R121). -/
theorem State.Accounts.closeWindow {s : State} (h : s.Accounts) (linked : s.Linked) {k : StoreId} {slot : SlotId}
    {ms : Nat} (hc : (s.store k).channel = .afterRun slot ms) (drops : Bool) :
    ((s.endStrokes (endOnStore (some slot) k drops true)).modStore k Store.ended).Accounts := by
  have hended := h.endsOnStore linked (k := k) (running := some slot) (released := true) drops
    (.inr (by rw [hc]; exact ⟨rfl, rfl⟩))
  exact hended.modStore_holding rfl rfl

/-- STROKE_DEADLINE_EXPIRY (R125). -/
theorem State.Accounts.jam {s : State} (h : s.Accounts) (linked : s.Linked) {k : StoreId} {slot : SlotId}
    {ms : Nat} (hc : (s.store k).channel = .driving slot ms) :
    ((s.endStrokes (endOnStore (some slot) k true false)).modStore k Store.jam).Accounts := by
  have hended := h.endsOnStore linked (k := k) (running := some slot) (released := false) true
    (.inr (by rw [hc]; exact ⟨rfl, rfl⟩))
  exact hended.modStore_holding rfl rfl

end Sys2Proof.Machine
end

section
/-! SUPPORT. The accounts through the pieces a channel pays, counted and over-paid (R40, R118–R124). -/

namespace Sys2Proof.Machine

/-! ### A piece paid to a sale -/

/-- One piece more of a denomination raises the value of the pieces paid by its value. -/
theorem Sale.pieces_payPiece (x : Sale) (d : Denom) (v : Nat) (overPaid : Bool) (value : Denom → Nat) :
    (allDenoms.map (fun e => (x.payPiece d v overPaid).paidPieces e * value e)).sum =
      (allDenoms.map (fun e => x.paidPieces e * value e)).sum + value d := by
  have hself : (x.payPiece d v overPaid).paidPieces d = x.paidPieces d + 1 := Sale.paidPieces_setPieces_self _ _ _
  have hchange := sum_map_change allDenoms_nodup (mem_allDenoms d)
    (f := fun e => (x.payPiece d v overPaid).paidPieces e * value e) (g := fun e => x.paidPieces e * value e)
    (fun e _ he => congrArg (· * value e) (Sale.paidPieces_setPieces_ne _ _ _ _ he))
  simp only [hself, Nat.succ_mul] at hchange
  omega

namespace Sale.Balanced

variable {x : Sale} {carried carried' asked : Nat} {value : Denom → Nat} (h : x.Balanced carried asked value)
  (hstate : x.state = .paying) (d : Denom)
include h hstate

/-- A piece its stroke carried is paid (R40). -/
theorem payPiece (hcarried : carried' + value d = carried) :
    (x.payPiece d (value d) false).Balanced carried' asked value := by
  have hsum := h.sum (.inl hstate)
  refine .of_paying hstate ?_ ?_
  · change x.paid + value d + x.shortfall + x.owed + carried' + asked = x.target + x.overpay
    omega
  · rw [Sale.pieces_payPiece, ← h.pieces]
    rfl

/-- An over-pay piece raises paid and over-pay alike (R40, R122). -/
theorem overPay : (x.payPiece d (value d) true).Balanced carried asked value := by
  have hsum := h.sum (.inl hstate)
  refine .of_paying hstate ?_ ?_
  · change x.paid + value d + x.shortfall + x.owed + carried + asked = x.target + (x.overpay + value d)
    omega
  · rw [Sale.pieces_payPiece, ← h.pieces]
    rfl

end Sale.Balanced

/-! ### A piece of a driving stroke (R120) -/

/-- A stroke one piece on carries one piece less. -/
theorem State.carried_advanced {s t : State} {r : Stroke} (linked : s.Linked) (hr : r ∈ s.pool.records)
    (hlt : r.delivered < r.count)
    (hrec : t.pool.records = s.pool.records.map (rewriteSlot r.slot Stroke.advanced))
    (hvalue : t.strokeValue = s.strokeValue) (l : Lane) :
    t.carried l + (if ofLane l r then s.strokeValue r else 0) = s.carried l := by
  have hchange := sumOver_change_one linked.nodup hr Stroke.advanced (c := ofLane l) (c' := ofLane l)
    (p := fun q => q.undelivered * s.strokeValue q) (p' := fun q => q.undelivered * s.strokeValue q)
    (fun _ _ _ => rfl)
  have hafter : t.carried l = sumOver (s.pool.records.map (fun q =>
      if q.slot = r.slot then Stroke.advanced q else q)) (ofLane l) (fun q => q.undelivered * s.strokeValue q) := by
    rw [State.carried_eq, State.worth, State.sumStrokes_eq, hrec, hvalue]
    rfl
  have hbefore : s.carried l = sumOver s.pool.records (ofLane l) (fun q => q.undelivered * s.strokeValue q) := rfl
  have hsame : ofLane l r.advanced = ofLane l r ∧ s.strokeValue r.advanced = s.strokeValue r := ⟨rfl, rfl⟩
  have hless : r.undelivered = r.advanced.undelivered + 1 := by
    have hadv : r.advanced.undelivered = r.count - (r.delivered + 1) := rfl
    rw [hadv, Stroke.undelivered]
    omega
  rw [hafter, hbefore]
  rw [hsame.1, hsame.2, hless, Nat.succ_mul] at hchange
  split at hchange
  · rename_i ho
    rw [if_pos ho]
    omega
  · rename_i ho
    rw [if_neg ho]
    exact hchange

section
variable {s : State} {r : Stroke} {d : Denom}

/-- A piece of a driving stroke reaches its destination (R40, R120). -/
theorem State.Accounts.countedPiece (h : s.Accounts) (linked : s.Linked) (hr : r ∈ s.pool.records)
    (hrun : r.state = .running) (hlt : r.delivered < r.count)
    (hholds : (s.store r.store).channel.holdsNothing = false) (hd : (s.store r.store).denom = some d)
    {t : State} (ht : (s.modRecord r.slot Stroke.advanced).sameBooks t) : (t.countedPiece r d).Accounts := by
  have hrec : t.pool.records = s.pool.records.map (rewriteSlot r.slot Stroke.advanced) := congrArg Pool.records ht.pool
  have hlane : ∀ m, t.lane m = s.lane m := fun m => congrArg (fun v : PerLane LaneControl => v.get m) ht.lanes
  have hstores : ∀ k, (t.store k).denom = (s.store k).denom ∧ (t.store k).channel = (s.store k).channel := ht.stores
  have hdenoms : t.denoms = s.denoms := ht.denoms
  have hvalue : t.strokeValue = s.strokeValue := by
    funext q
    exact State.storeValue_congr hdenoms (hstores q.store).1
  have hworth : s.strokeValue r = s.value d := by
    unfold State.strokeValue State.storeValue
    rw [hd]
  have hcarried := State.carried_advanced linked hr hlt hrec hvalue
  have keeps : s.keepsLanes t :=
    (s.keepsLanes_modRecord r.slot (f := Stroke.advanced) (fun _ => rfl)).trans ht.keepsLanes
  have hwork : t.planner.work = s.planner.work := congrArg Planner.work ht.planner
  have hwindows : ∀ q ∈ t.pool.records, q.owner ≠ .office → (t.store q.store).channel.runs q = true →
      (t.store q.store).channel.holdsNothing = true → q.delivered = q.count := by
    intro q hq
    rw [hrec] at hq
    obtain ⟨p, hp, rfl⟩ := List.mem_map.mp hq
    rw [(hstores _).2]
    unfold rewriteSlot
    split
    · rename_i hs
      obtain rfl := eq_of_slot_eq linked.nodup hr hp hs
      exact fun _ _ hnothing => absurd (hholds.symm.trans hnothing) nofun
    · exact h.windows p hp
  have hfresh : ∀ q ∈ t.pool.records, q.state = .waiting → q.delivered = 0 := by
    intro q hq
    rw [hrec] at hq
    obtain ⟨p, hp, rfl⟩ := List.mem_map.mp hq
    unfold rewriteSlot
    split
    · rename_i hs
      obtain rfl := eq_of_slot_eq linked.nodup hr hp hs
      exact fun hw => absurd (hrun.symm.trans hw) nofun
    · exact h.fresh p hp
  have hasked : ∀ m, t.asked m = s.asked m := fun m => by unfold State.asked; rw [hwork]
  have hdenomValue := State.value_congr hdenoms
  have hother : ∀ m, ofLane m r = false → (t.sale m).Balanced (t.carried m) (t.asked m) t.value := by
    intro m hm
    have hsame := hcarried m
    rw [hm, if_neg nofun, Nat.add_zero] at hsame
    have hsale := h.sales m
    rw [hsame, hasked, hdenomValue]
    unfold State.sale at hsale ⊢
    rwa [hlane]
  have hslots : ∀ m c, t.slot m = some c → c.Balanced := by
    intro m c hc
    refine h.slots m c ?_
    unfold State.slot at hc ⊢
    rwa [hlane] at hc
  have hagrees : ∀ w, t.planner.work = some w → ∀ m q, w.job = .lane m q → t.SnapshotAgrees w.snap m q := by
    intro w hw m q hq
    refine (h.work w (hwork ▸ hw) m q hq).congr (fun _ => ?_) hdenoms (fun k => (hstores k).1)
    unfold State.sale
    rw [hlane]
  unfold State.countedPiece
  cases ho : r.owner with
  | office =>
    have hnone : ∀ m, ofLane m r = false := fun m => by unfold ofLane; rw [ho]; rfl
    have htables : t.Accounts :=
      ⟨keeps.follows h.lanes, fun m => hother m (hnone m), hslots, hwindows, hagrees, hfresh⟩
    exact (htables.modBox _ _).book _ _ _
  | lane l =>
    refine State.Accounts.book (s := t.modSale l (fun x => x.payPiece d (t.value d) false)) ?_ _ _ _
    have hpays : (s.sale l).state = .paying := (h.lanes.lane l).pays r hr ho
    have hmine : ofLane l r = true := by unfold ofLane; rw [ho]; exact beq_self_eq_true _
    have hsale : t.sale l = s.sale l := congrArg LaneControl.sale (hlane l)
    refine ⟨(keeps.modSale l rfl).follows h.lanes, fun m => ?_, fun m c hc => ?_, hwindows, fun w hw m q hq => ?_,
      hfresh⟩
    · by_cases hm : m = l
      · subst hm
        have hpaid := hcarried m
        rw [hmine, if_pos rfl, hworth] at hpaid
        have hbalanced := (h.sales m).payPiece hpays d hpaid
        rw [← hasked, ← hdenomValue, ← hsale] at hbalanced
        rw [State.sale_modSale_self]
        exact hbalanced
      · rw [State.sale_modSale_ne _ _ _ _ hm]
        refine hother m ?_
        unfold ofLane
        rw [ho]
        exact beq_false_of_ne fun he => hm (Owner.lane.inj he).symm
    · rw [State.slot_modSale] at hc
      exact hslots m c hc
    · refine (hagrees w hw m q hq).congr (fun _ => ?_) rfl (fun _ => rfl)
      by_cases hm : m = l
      · subst hm; rw [State.sale_modSale_self]; rfl
      · rw [State.sale_modSale_ne _ _ _ _ hm]

/-- PIECE_PULSE of a driving stroke: the piece that completes the count opens the window (R120, R121). -/
theorem State.Accounts.drivePiece (h : s.Accounts) (linked : s.Linked) (stocked : s.Stocked)
    (hr : r ∈ s.pool.records) {ms : Nat} (hc : (s.store r.store).channel = .driving r.slot ms)
    (hd : (s.store r.store).denom = some d) : (s.drivePiece r.store r d).Accounts := by
  have hholds : (s.store r.store).channel.holdsNothing = false := by rw [hc]; rfl
  have hrun := (linked.of_slot hr (by rw [hc]; rfl)).2
  obtain ⟨-, -, -, hfit⟩ := stocked.records r hr
  have hlt := (hfit hrun).2 hholds
  have hbooks : (s.modRecord r.slot Stroke.advanced).sameBooks ((s.modRecord r.slot Stroke.advanced).modStore r.store
      (fun x => { x with physical := x.physical - 1, reserved := x.reserved - 1 })) := by
    refine (State.sameBooks.refl _).modStore _ ?_
    exact fun _ => ⟨rfl, rfl⟩
  have hpaid := h.countedPiece linked hr hrun hlt hholds hd hbooks
  have hdrive : s.drivePiece r.store r d = if r.delivered + 1 < r.count then _ else _ := rfl
  rw [hdrive]
  split
  · exact hpaid
  · rename_i hlast
    refine hpaid.modStore rfl fun q hq _ _ hruns _ => ?_
    obtain ⟨-, hpool⟩ := State.countedPiece_same ((s.modRecord r.slot Stroke.advanced).modStore r.store
      (fun x => { x with physical := x.physical - 1, reserved := x.reserved - 1 })) r d
    rw [hpool] at hq
    obtain ⟨p, hp, rfl⟩ := List.mem_map.mp hq
    have hslot : r.slot = (if p.slot = r.slot then Stroke.advanced p else p).slot := Option.some.inj (eq_of_beq hruns)
    have hps : p.slot = r.slot := by
      split at hslot
      · assumption
      · exact hslot.symm
    rw [if_pos hps]
    obtain rfl := eq_of_slot_eq linked.nodup hr hp hps
    change p.delivered + 1 = p.count
    omega

/-- STROKE_START (R118): the stroke that starts has delivered nothing. -/
theorem State.Accounts.startStroke (h : s.Accounts) {slot : SlotId} {k : StoreId} {ms : Nat} :
    ((s.modRecord slot (fun q => { q with state := .running })).modStore k (fun y => y.start slot ms)).Accounts := by
  have hvalues : ∀ l, (s.modRecord slot (fun q => { q with state := .running })).carried l = s.carried l := by
    intro l
    rw [State.carried_eq, State.worth, State.sumStrokes_eq, State.modRecord_records, sumOver_eq_sum_ite,
      List.map_map, State.carried_eq, State.worth, State.sumStrokes_eq, sumOver_eq_sum_ite]
    refine congrArg List.sum (List.map_congr_left fun q _ => ?_)
    simp only [Function.comp, rewriteSlot]
    split <;> rfl
  have hrunning : (s.modRecord slot (fun q => { q with state := .running })).Accounts := by
    refine ⟨State.keepsLanes.follows (s.keepsLanes_modRecord slot (fun _ => rfl)) h.lanes, fun l => ?_, h.slots,
      fun q hq => ?_, fun w hw l q hq => (h.work w hw l q hq).congr (fun _ => rfl) rfl (fun _ => rfl), fun q hq => ?_⟩
    · rw [hvalues]; exact h.sales l
    · rw [State.modRecord_records] at hq
      obtain ⟨p, hp, rfl⟩ := List.mem_map.mp hq
      have hwindow := h.windows p hp
      unfold rewriteSlot
      split
      · exact hwindow
      · exact hwindow
    · rw [State.modRecord_records] at hq
      obtain ⟨p, hp, rfl⟩ := List.mem_map.mp hq
      unfold rewriteSlot
      split
      · exact fun hw => absurd hw nofun
      · exact h.fresh p hp
  exact hrunning.modStore_holding rfl rfl

end

/-! ### An over-pay piece (R122–R124) -/

/-- Inside the event of an over-pay piece: the accounts, with what a stroke that is lowered rests on. -/
structure State.OverPaying (s : State) : Prop where
  accounts : s.Accounts
  linked : s.Linked
  whole : ∀ r ∈ s.pool.records, r.owner ≠ .office → r.state = .waiting → 0 < r.count

namespace State.OverPaying

variable {s : State} (h : s.OverPaying)
include h

theorem same {t : State} (books : s.sameBooks t) (hst : t.stores = s.stores) : t.OverPaying where
  accounts := h.accounts.of_sameBooks books
  linked := h.linked.of_tables hst (congrArg Pool.records books.pool)
  whole := by rw [books.pool]; exact h.whole

theorem modBox (k : Kind) (f : Cashbox → Cashbox) : (s.modBox k f).OverPaying :=
  h.same ((State.sameBooks.refl s).modBox k f) rfl

theorem book (c : Counter) (d : Denom) (n : Nat) : (s.book c d n).OverPaying :=
  h.same ((State.sameBooks.refl s).onlyBooks (s.book_onlyBooks c d n)) (s.book_onlyBooks c d n).stores

theorem bookAdjusted (d : Denom) (n : Int) : (s.bookAdjusted d n).OverPaying :=
  h.same (s.sameBooks_bookAdjusted d n) (by simp)

/-- A skim's stroke is lowered. -/
theorem lowerSkim {r : Stroke} (hr : r ∈ s.pool.records) (hw : r.state = .waiting) (ho : r.owner = .office) :
    (s.lowerStroke r).OverPaying where
  accounts := h.accounts.lowerStroke h.linked hr hw fun hne => absurd ho hne
  linked := h.linked.lowerStroke hr
  whole q hq hne hwait := by
    rw [State.lowerStroke_records] at hq
    obtain ⟨p, hp, rfl⟩ := List.mem_map.mp hq
    unfold rewriteSlot at hne hwait ⊢
    split
    · rename_i hs
      obtain rfl := eq_of_slot_eq h.linked.nodup hr hp hs
      rw [if_pos rfl] at hne
      exact absurd ho hne
    · rename_i hs
      rw [if_neg hs] at hne hwait
      exact h.whole p hp hne hwait

theorem boxOverPay (k : Kind) (d : Denom) : (s.boxOverPay k d).OverPaying := by
  unfold State.boxOverPay
  dsimp only
  split
  · exact h.modBox k _
  split
  · split
    · rename_i r hr
      obtain ⟨hmem, hw, hchosen⟩ := Pool.latest?_some hr
      exact (h.modBox k _).lowerSkim hmem hw (eq_of_beq (Bool.and_eq_true_iff.mp hchosen).1)
    · exact (h.modBox k _).modBox k _
  split
  · exact (h.modBox k _).modBox k _
  · exact h.bookAdjusted d (-1)

theorem overPaySale {l : Lane} (hpays : (s.sale l).state = .paying) (d : Denom) :
    (s.modSale l (fun x => x.payPiece d (s.value d) true)).OverPaying where
  accounts := h.accounts.modSale rfl ((h.accounts.sales l).overPay hpays d) fun _ => rfl
  linked := h.linked.of_tables rfl rfl
  whole := h.whole

theorem overPaidPiece {r : Stroke} (hr : r ∈ s.pool.records) (d : Denom) : (s.overPaidPiece r d).OverPaying := by
  unfold State.overPaidPiece
  cases ho : r.owner with
  | office => exact (h.boxOverPay r.path d).book _ _ _
  | lane l => exact (h.overPaySale ((h.accounts.lanes.lane l).pays r hr ho) d).book _ _ _

theorem absorbDeficit (k : StoreId) : (s.absorbDeficit k).Accounts := by
  unfold State.absorbDeficit
  split
  · split
    · rename_i r hr
      obtain ⟨hmem, hw, -⟩ := Pool.latest?_some hr
      exact h.accounts.lowerStroke h.linked hmem hw fun ho => h.whole r hmem ho hw
    · exact h.accounts
  · exact h.accounts

end State.OverPaying

theorem State.Accounts.overPay {s : State} (h : s.Accounts) (linked : s.Linked) (stocked : s.Stocked) {r : Stroke}
    (hr : r ∈ s.pool.records) (k : StoreId) (d : Denom) : (s.overPay k r d).Accounts := by
  have hpaying : s.OverPaying := ⟨h, linked, fun q hq _ hw => stocked.whole q hq hw⟩
  unfold State.overPay
  split
  · have hpiece : (s.modStore k (fun x => { x with physical := x.physical - 1 })).OverPaying := by
      refine ⟨h.modStore_books k ?_, linked.modStore rfl (.inr rfl), hpaying.whole⟩
      exact fun _ => ⟨rfl, rfl⟩
    exact ((hpiece.overPaidPiece hr d).absorbDeficit k).drops _
  · have hrec : r ∈ (s.bookAdjusted d 1).pool.records := by
      rw [(s.sameBooks_bookAdjusted d 1).pool]; exact hr
    exact (((hpaying.bookAdjusted d 1).overPaidPiece hrec d).accounts.markUncertain k).drops _

end Sys2Proof.Machine
end

section
/-! SUPPORT. The accounts through the changes of a sale's state, the planner's next request and the close of an
event (R31–R48, R73, R74). -/

namespace Sys2Proof.Machine

/-! ### What a lane out of PAYING carries -/

theorem State.asked_eq {s : State} {w : Work} (hw : s.planner.work = some w) (l : Lane) :
    s.asked l = if w.job = .lane l .makeup then w.snap.target else 0 := by
  unfold State.asked
  rw [hw]

theorem State.asked_free {s : State} (hw : s.planner.work = none) (l : Lane) : s.asked l = 0 := by
  unfold State.asked
  rw [hw]

theorem State.asked_of_not_works {s : State} {l : Lane} (hwork : s.jobInWork ≠ some (.lane l .makeup)) :
    s.asked l = 0 := by
  cases hw : s.planner.work with
  | none => exact State.asked_free hw l
  | some w =>
    rw [State.asked_eq hw]
    refine if_neg fun hj => hwork ?_
    rw [State.jobInWork, hw]
    exact congrArg some hj

theorem Sale.presentedOutcome_ne_cancelled (x : Sale) : x.presentedOutcome ≠ .cancelled := by
  rw [Sale.presentedOutcome_eq]
  split
  · nofun
  split
  · nofun
  split <;> nofun

section
variable {s : State} (h : s.laneWorkFollows) {l : Lane}
include h

theorem State.laneWorkFollows.carried (hpay : (s.sale l).state ≠ .paying) : s.carried l = 0 :=
  State.carried_noStrokes fun ⟨r, hr, ho⟩ => hpay ((h.lane l).pays r hr ho)

theorem State.laneWorkFollows.asked (hpay : (s.sale l).state ≠ .paying) : s.asked l = 0 :=
  State.asked_of_not_works fun hwork => hpay ((h.lane l).makesUp (.inr hwork))

end

/-! ### The close of a sale (R48) -/

section
variable {s : State} (h : s.Accounts) {l : Lane}
include h

/-- The record of a sale that closes before its payout. -/
theorem State.Accounts.completion_tendering (hstate : (s.sale l).state = .tendering) (o : SaleOutcome) :
    (s.completion l o).Balanced := by
  intro _
  obtain ⟨hpaid, hover, hshort, -⟩ := (h.sales l).unpaid (.inr (.inl hstate))
  have htarget := (h.sales l).untargeted (.inr hstate)
  unfold State.completion
  dsimp only
  rw [hpaid, hover, hshort, htarget]
  exact ⟨rfl, fun _ => ⟨rfl, rfl, rfl, rfl⟩⟩

/-- The record of a sale that closes from PRESENTED (R49). -/
theorem State.Accounts.completion_presented (hstate : (s.sale l).state = .presented) :
    (s.completion l (s.sale l).presentedOutcome).Balanced := by
  intro _
  have hpay : (s.sale l).state ≠ .paying := by rw [hstate]; nofun
  have hsum := (h.sales l).sum (.inr hstate)
  rw [(h.sales l).settled hstate, h.lanes.carried hpay, h.lanes.asked hpay] at hsum
  exact ⟨hsum, fun hc => absurd hc (s.sale l).presentedOutcome_ne_cancelled⟩

theorem State.Accounts.closeSale (hplan : (s.sale l).state ≠ .planning) (hpay : (s.sale l).state ≠ .paying)
    {o : SaleOutcome} (hrecord : (s.completion l o).Balanced) : (s.closeSale l o).Accounts := by
  have hlane : (s.closeSale l o).lane l = { s.lane l with
      sale := Sale.idle (s.sale l).sequence, slot := some (s.completion l o) } := by rw [s.lane_closeSale, if_pos rfl]
  refine h.change (l := l) (.of_stores (s.closeSale_records l o) (congrArg Planner.work (s.closeSale_planner l o))
    (by simp) (by simp)) (h.lanes.closeSale hplan hpay o) (fun m hm => by rw [s.lane_closeSale, if_neg hm]) ?_
    (fun c hc => ?_) fun q hq hwork => h.lanes.no_target hplan hq hwork
  · rw [State.sale, hlane]
    exact .of_idle _ _ _ _
  · rw [State.slot, hlane] at hc
    exact Option.some.inj hc ▸ hrecord

theorem State.Accounts.closeIfClear : (s.closeIfClear l).Accounts := by
  unfold State.closeIfClear
  split
  · rename_i hc
    have hstate : (s.sale l).state = .presented := eq_of_beq (Bool.and_eq_true_iff.mp hc).1
    exact h.closeSale (by rw [hstate]; nofun) (by rw [hstate]; nofun) (h.completion_presented hstate)
  · exact h

/-! ### The end of a payout (R43) -/

theorem State.Accounts.enterPresented (hover : s.payoutOver l = true) : (s.enterPresented l).Accounts := by
  obtain ⟨hpaying, -, howed, -⟩ := (s.payoutOver_iff l).mp hover
  have hsum := (h.sales l).sum (.inl hpaying)
  have hplan : (s.sale l).state ≠ .planning := by rw [hpaying]; nofun
  refine h.change (l := l) (.of_stores rfl rfl rfl rfl) (h.lanes.enterPresented hover)
    (fun m hm => s.enterPresented_lane_ne hm) ?_ (fun c hc => h.slots l c ?_)
    fun q hq hwork => h.lanes.no_target hplan hq hwork
  · rw [s.enterPresented_sale]
    exact ⟨nofun, fun hx => hx.elim nofun nofun, fun hx => hx.elim nofun fun hx => hx.elim nofun nofun,
      fun _ => hsum, fun _ => howed, (h.sales l).pieces⟩
  · have hslot := congrArg LaneControl.slot (s.lane_setLane_self l { s.lane l with sale :=
      { s.sale l with state := .presented, timer := .running s.limits.presentTimeout } })
    exact hslot.symm.trans hc

theorem State.Accounts.settleSale : (s.settleSale l).Accounts := by
  unfold State.settleSale
  split
  · rename_i hover
    exact (h.enterPresented hover).closeIfClear
  · exact h

end

/-! ### The planner's next request (R73, R74) -/

theorem State.snapshotAgrees_snapshot {s t : State} (job : Job) (n : Nat) {l : Lane} {q : LaneRequest}
    (htarget : q ≠ .makeup → (s.snapshot job n).target = (t.sale l).target) (hd : t.denoms = s.denoms)
    (hst : t.stores = s.stores) : t.SnapshotAgrees (s.snapshot job n) l q where
  target := htarget
  stores k := by
    rw [State.snapshot_store, State.store_congr hst]
    rfl
  denoms d := by
    have hden : t.denom d = s.denom d := by unfold State.denom; rw [hd]
    unfold State.value State.enabled State.used
    rw [State.snapshot_denom, hden]
    exact ⟨rfl, rfl, rfl⟩

/-- A lane's request in work: its snapshot is of the tables as they stand, its target the sale's, or what the sale
owed (R42, R74). -/
theorem State.takeJob_work (s : State) (l : Lane) (r : LaneRequest) : ∃ u : State,
    u.denoms = s.denoms ∧ u.stores = s.stores ∧ (s.takeJob (.lane l r)).planner.work = some
      { job := .lane l r, attempt := 1, stopped := false,
        snap := u.snapshot (.lane l r) (if r = .makeup then (s.sale l).owed else (s.sale l).target) } := by
  cases r with
  | makeup => exact ⟨s.modSale l (fun x => { x with owed := 0 }), rfl, rfl, rfl⟩
  | settle => exact ⟨s, rfl, rfl, rfl⟩
  | refund => exact ⟨s, rfl, rfl, rfl⟩

namespace Sale.Balanced

/-- A make-up takes what the sale owes with it (R42). -/
theorem takeOwed {x : Sale} {carried : Nat} {value : Denom → Nat} (h : x.Balanced carried 0 value)
    (hstate : x.state = .paying) : ({ x with owed := 0 } : Sale).Balanced carried x.owed value := by
  have hsum := h.sum (.inl hstate)
  refine .of_paying hstate ?_ h.pieces
  dsimp only
  omega

end Sale.Balanced

section
variable {s : State} (h : s.Accounts)
include h

theorem State.Accounts.takeNext : s.takeNext.Accounts := by
  have lanes := h.lanes.takeNext
  unfold State.takeNext at lanes ⊢
  split at lanes
  · exact h
  rename_i hfree
  have hasked : ∀ m, s.asked m = 0 := State.asked_free hfree
  split at lanes
  · rename_i job hjob
    cases job with
    | skim q =>
      refine ⟨lanes, fun m => ?_, h.slots, h.windows, fun w hw l q hq => ?_, h.fresh⟩
      · have hnone : (s.takeJob (.skim q)).asked m = 0 :=
          State.asked_of_not_works fun hw => absurd (Option.some.inj hw) nofun
        rw [hnone, ← hasked m]
        exact h.sales m
      · obtain rfl := Option.some.inj hw
        exact absurd hq nofun
    | lane l r =>
      obtain ⟨u, hud, hus, hwork⟩ := s.takeJob_work l r
      obtain ⟨-, -, -, hdenoms, -, hstores, -, -, -, hpool, -⟩ := s.takeJob_frame (.lane l r)
      have strokes : ∀ m, (s.takeJob (.lane l r)).carried m = s.carried m := fun m => by
        unfold State.carried State.sumStrokes State.strokeValue
        simp only [hpool, State.storeValue_congr hdenoms (congrArg Store.denom (State.store_congr hstores _))]
      have hlane := s.takeJob_lane l
      refine ⟨lanes, fun m => ?_, fun m c hc => h.slots m c ?_, ?_, fun w hw m q hq => ?_, ?_⟩
      · rw [strokes, State.asked_eq hwork, State.value_congr hdenoms, State.sale, hlane]
        have hsale := h.sales m
        rw [hasked] at hsale
        by_cases hm : m = l ∧ r = .makeup
        · obtain ⟨rfl, rfl⟩ := hm
          have hpays : (s.sale m).state = .paying := (h.lanes.lane m).makesUp (.inl (State.nextJob_lane hjob))
          rw [if_pos ⟨rfl, rfl⟩, if_pos rfl]
          exact hsale.takeOwed hpays
        · rw [if_neg hm, if_neg fun hj => hm ⟨(Job.lane.inj hj).1.symm, (Job.lane.inj hj).2⟩]
          exact hsale
      · rw [State.slot, hlane] at hc
        split at hc
        · rename_i hm; rw [hm.1]; exact hc
        · exact hc
      · rw [hpool]
        intro q hq
        rw [State.store_congr hstores]
        exact h.windows q hq
      · rw [hwork] at hw
        obtain rfl := Option.some.inj hw
        obtain ⟨rfl, rfl⟩ := Job.lane.inj hq
        refine State.snapshotAgrees_snapshot (s := u) (.lane l r)
          (if r = .makeup then (s.sale l).owed else (s.sale l).target) (fun hmake => ?_)
          (hdenoms.trans hud.symm) (hstores.trans hus.symm)
        have hsale := congrArg LaneControl.sale ((hlane l r).trans (if_neg fun hx => hmake hx.2))
        exact (if_neg hmake).trans (congrArg Sale.target hsale).symm
      · rw [hpool]
        exact h.fresh
  · exact h

/-! ### The close of an event -/

theorem State.Accounts.closeEvent : s.closeEvent.Accounts :=
  h.of_sameBooks (.closeEvent (.refl s))

theorem State.Accounts.settleWork : s.settleWork.Accounts := by
  have hpaths : s.settlePaths.Accounts :=
    h.of_sameBooks (.of_stores (by simp) (by simp) (by simp) (by simp) (by simp))
  have hnext := (hpaths.settleSale (l := .one)).settleSale (l := .two) |>.takeNext
  unfold State.settleWork
  exact hnext.of_sameBooks (.of_stores (by simp) (by simp) (by simp) (by simp) (by simp))

theorem State.Accounts.finish : s.finish.Accounts := h.settleWork.closeEvent

end

end Sys2Proof.Machine
end

section
/-! SUPPORT. The accounts through the operations on a sale (R31–R39, R44–R47, R132). -/

namespace Sys2Proof.Machine

section
variable {s : State} (h : s.Accounts) {l : Lane}
include h

/-- A settle or a refund is placed for a sale that goes to PLANNING (R34, R37, R38). -/
theorem State.Accounts.place {t : State} {f : Sale → Sale} {q : LaneRequest} (hq : q ≠ .makeup)
    (hstate : (s.sale l).state = .tendering ∨ (s.sale l).state = .planning)
    (hwork : ∀ r, s.jobInWork ≠ some (.lane l r)) (hlanes : t.lanes = (s.modSale l f).lanes)
    (hplanning : (f (s.sale l)).state = .planning)
    (same : (f (s.sale l)).paid = (s.sale l).paid ∧ (f (s.sale l)).overpay = (s.sale l).overpay ∧
      (f (s.sale l)).shortfall = (s.sale l).shortfall ∧ (f (s.sale l)).owed = (s.sale l).owed ∧
      (f (s.sale l)).pieces = (s.sale l).pieces)
    (hplan : t.planner = { s.planner with waitingLane := s.planner.waitingLane.set l (some q) })
    (hpool : t.pool = s.pool) (hdenoms : t.denoms = s.denoms) (hstores : t.stores = s.stores) : t.Accounts := by
  have hlane : ∀ m, t.lane m = (s.modSale l f).lane m :=
    fun m => congrArg (fun v : PerLane LaneControl => v.get m) hlanes
  have hsale : t.sale l = f (s.sale l) := (congrArg LaneControl.sale (hlane l)).trans (s.sale_modSale_self l f)
  have hserve : s.mode l = .serve := (h.lanes.lane l).serves (by rcases hstate with hs | hs <;> rw [hs] <;> nofun)
  have hpay : (s.sale l).state ≠ .paying := by rcases hstate with hs | hs <;> rw [hs] <;> nofun
  refine h.change (l := l) (.of_stores (congrArg Pool.records hpool) (by rw [hplan]) hdenoms hstores)
    (h.lanes.place hq hserve hpay hwork hlanes hplanning hplan hpool)
    (fun m hm => (hlane m).trans (s.lane_setLane_ne l m _ hm)) ?_ (fun c hc => h.slots l c ?_)
    (fun r _ hr => absurd hr (hwork r))
  · obtain ⟨hpaid, hover, hshort, howed, hpieces⟩ := same
    rw [hsale]
    refine .of_unpaid (.inr hplanning) ?_ (fun ht => absurd (hplanning.symm.trans ht) nofun) ?_
    · rw [hpaid, hover, hshort, howed]
      exact (h.sales l).unpaid (.inr hstate)
    · unfold Sale.paidPieces
      rw [hpaid, hpieces]
      exact (h.sales l).pieces
  · have hslot : t.slot l = (s.modSale l f).slot l := congrArg LaneControl.slot (hlane l)
    rw [hslot, State.slot_modSale] at hc
    exact hc

/-- The refund of a sale whose settle, if it has one, still waits (R37). -/
theorem State.Accounts.beginRefund (hstate : (s.sale l).state = .tendering ∨ (s.sale l).state = .planning)
    (hwork : ∀ r, s.jobInWork ≠ some (.lane l r)) : (s.beginRefund l).Accounts :=
  h.place (f := fun x => { x with
      targetKind := .refund, target := x.tendered, state := .planning, cancelPending := false })
    (q := .refund) nofun hstate hwork rfl rfl ⟨rfl, rfl, rfl, rfl, rfl⟩ rfl rfl rfl rfl

theorem State.Accounts.beginSettle (hstate : (s.sale l).state = .tendering) : (s.beginSettle l).Accounts := by
  have hplan : (s.sale l).state ≠ .planning := by rw [hstate]; nofun
  have hpay : (s.sale l).state ≠ .paying := by rw [hstate]; nofun
  unfold State.beginSettle
  dsimp only
  generalize roundChange s.limits.roundingUnit ((s.sale l).tendered - (s.sale l).due) = target
  split
  · have hexact : (s.modSale l (fun x =>
        { x with targetKind := .change, target := 0, lastResult := .exact })).Accounts :=
      h.modSale rfl ((h.sales l).congr (by rw [hstate]; nofun) rfl ((h.sales l).untargeted (.inr hstate)).symm
        rfl rfl rfl rfl rfl) fun hp => absurd hp hplan
    have hsale (f : Sale → Sale) : (s.modSale l f).sale l = f (s.sale l) := s.sale_modSale_self l f
    exact hexact.closeSale (by rw [hsale]; exact hplan) (by rw [hsale]; exact hpay)
      (hexact.completion_tendering (by rw [hsale]; exact hstate) _)
  · exact h.place (f := fun x => { x with targetKind := .change, target := target, state := .planning })
      (q := .settle) nofun (.inl hstate) (fun r hr => (h.lanes.lane l).unasked hplan hpay r (.inr hr)) rfl rfl
      ⟨rfl, rfl, rfl, rfl, rfl⟩ rfl rfl rfl rfl

/-! ### A piece credited (R31, R56) -/

theorem State.Accounts.credit (hstate : (s.sale l).state = .tendering) (v : Nat) : (s.credit l v).Accounts := by
  have hcredited : (s.modSale l (fun x => { x with tendered := x.tendered + v })).Accounts :=
    h.modSale rfl ((h.sales l).congr (by rw [hstate]; nofun) rfl rfl rfl rfl rfl rfl rfl) fun _ => rfl
  unfold State.credit
  dsimp only
  split
  · split
    · exact hcredited.beginSettle ((congrArg Sale.state (s.sale_modSale_self l _)).trans hstate)
    · exact hcredited.of_sameBooks (.of_stores rfl rfl rfl rfl rfl)
  · exact hcredited

theorem State.Accounts.creditIfServing (hstate : s.mode l = .serve → (s.sale l).state = .tendering) (v : Nat) :
    (s.creditIfServing l v).Accounts := by
  unfold State.creditIfServing
  split
  · rename_i hm; exact h.credit (hstate hm) v
  · exact h
  · exact h

end

theorem State.sameBooks_adviseSkim (s : State) (l : Lane) (d : Denom) : s.sameBooks (s.adviseSkim l d) := by
  unfold State.adviseSkim
  split
  · exact .of_stores rfl rfl rfl rfl rfl
  · exact .refl s

section
variable {s : State} (h : s.Accounts)
include h

/-- ROUTE_DECISION's changes (R58–R62). -/
theorem State.Accounts.applyRoute (l : Lane) (k : Kind) (code : ClassCode) :
    (s.applyRoute l k (s.route l k code)).Accounts := by
  have htakes := State.laneTakes_of_route (s := s) (l := l) (k := k) (code := code)
  have credits {t : State} (hr : s.route l k code ≠ .refuse) (ht : s.sameBooks t) (v : Nat) :
      (t.creditIfServing l v).Accounts :=
    (h.of_sameBooks ht).creditIfServing
      (fun hm => (ht.keepsLanes l).state.trans (htakes hr ((ht.keepsLanes l).mode ▸ hm))) v
  have self := State.sameBooks.refl s
  cases hr : s.route l k code with
  | refuse => exact h
  | noRoom => exact h.of_sameBooks (.of_stores rfl rfl rfl rfl rfl)
  | store j d =>
    refine credits (by rw [hr]; nofun) (self.modStore j ?_) _
    exact fun _ => ⟨rfl, rfl⟩
  | cashbox d =>
    exact credits (by rw [hr]; nofun)
      (((self.modBox k _).onlyBooks (State.book_onlyBooks _ _ d 1)).trans (State.sameBooks_adviseSkim _ l d)) _

theorem State.Accounts.routeDecision (l : Lane) (k : Kind) (code : ClassCode) (x : Head) :
    ((s.route l k code).close ((s.applyRoute l k (s.route l k code)).setHead l k x)).Accounts := by
  have hset : ((s.applyRoute l k (s.route l k code)).setHead l k x).Accounts :=
    (h.applyRoute l k code).of_sameBooks (.of_stores rfl rfl rfl rfl rfl)
  generalize (s.applyRoute l k (s.route l k code)).setHead l k x = t at hset
  cases s.route l k code with
  | refuse => exact hset.closeEvent
  | noRoom => exact hset.closeEvent
  | store => exact hset.finish
  | cashbox => exact hset.finish

/-! ### Requests on a sale -/

theorem State.Accounts.openSale (l : Lane) (payload : List Byte) : (openSale l payload s).1.Accounts := by
  have lanes := h.lanes.openSale l payload
  unfold Machine.openSale at lanes ⊢
  split
  · rename_i hi lo flags
    dsimp only at lanes
    split
    · exact h
    rename_i hopen
    rw [if_neg hopen] at lanes
    have hidle : (s.sale l).state = .idle := not_not.mp (not_or.mp hopen).2
    split
    · exact h
    rename_i hslot
    rw [if_neg hslot] at lanes
    split
    · exact h
    rename_i auto short hflags
    rw [hflags] at lanes
    dsimp only at lanes
    split
    · exact h
    rename_i hdue
    rw [if_neg hdue] at lanes
    have hsale := s.sale_modSale_self l (fun x => x.opened (numberOf [hi, lo]) auto short)
    have hslot' := s.slot_modSale l l (fun x => x.opened (numberOf [hi, lo]) auto short)
    refine h.change (l := l) (.of_stores rfl rfl rfl rfl) lanes (fun m hm => s.lane_setLane_ne l m _ hm) ?_
      (fun c hc => h.slots l c (hslot'.symm.trans hc))
      fun q hq hwork => h.lanes.no_target (by rw [hidle]; nofun) hq hwork
    have hopened : ((s.sale l).opened (numberOf [hi, lo]) auto short).Balanced (s.carried l) (s.asked l) s.value :=
      .of_unpaid (.inl rfl) ⟨rfl, rfl, rfl, rfl⟩ (fun _ => rfl) (by simp [Sale.opened, Sale.idle, Sale.paidPieces])
    exact hsale ▸ hopened
  · exact h

theorem State.Accounts.settle (l : Lane) (payload : List Byte) : (settle l payload s).1.Accounts := by
  unfold Machine.settle
  split
  · split
    · exact h
    rename_i short _
    split
    · exact h
    rename_i hstate
    have hflag : (s.laneFlag l .settleRefused false).Accounts := h.of_sameBooks (.of_stores rfl rfl rfl rfl rfl)
    have htendering : ((s.laneFlag l .settleRefused false).sale l).state = .tendering := not_not.mp hstate
    dsimp only
    split
    · exact hflag.closeEvent
    · refine State.Accounts.finish ?_
      have hshort := hflag.modSale (l := l) (f := fun x => { x with acceptShort := x.acceptShort || short }) rfl
        ((hflag.sales l).congr (by rw [htendering]; nofun) rfl rfl rfl rfl rfl rfl rfl) fun _ => rfl
      exact hshort.beginSettle ((congrArg Sale.state (State.sale_modSale_self _ l _)).trans htendering)
  · exact h

theorem State.Accounts.cancelSale (l : Lane) : (cancelSale l s).1.Accounts := by
  unfold Machine.cancelSale
  split
  · rename_i hstate
    have hplan : (s.sale l).state ≠ .planning := by rw [hstate]; nofun
    have hpay : (s.sale l).state ≠ .paying := by rw [hstate]; nofun
    split
    · exact (h.closeSale hplan hpay (h.completion_tendering hstate _)).finish
    · exact (h.beginRefund (.inl hstate) fun q hq => (h.lanes.lane l).unasked hplan hpay q (.inr hq)).finish
  · rename_i hstate
    split
    · split
      · rename_i hwaits
        exact (h.beginRefund (.inr hstate) ((h.lanes.lane l).none_works (eq_of_beq hwaits))).finish
      · refine State.Accounts.closeEvent (h.modSale rfl ?_ fun _ => rfl)
        exact (h.sales l).congr (by rw [hstate]; nofun) rfl rfl rfl rfl rfl rfl rfl
    · exact h
  all_goals exact h

theorem State.Accounts.withdrawMakeup (l : Lane) : (s.withdrawMakeup l).Accounts := by
  have lanes := ((State.keepsLanes.refl s).withdrawMakeup l).follows h.lanes
  unfold State.withdrawMakeup at lanes ⊢
  split at lanes
  · rw [if_pos ‹_›]
    exact h.same_lanes (.of_stores rfl rfl rfl rfl) lanes rfl
  · rw [if_neg ‹_›]
    exact h

theorem State.Accounts.haltPayout (l : Lane) : (haltPayout l s).1.Accounts := by
  unfold Machine.haltPayout
  split
  · exact h
  rename_i hstate
  have hpays : (s.sale l).state = .paying := not_not.mp hstate
  split
  · exact h
  · refine State.Accounts.finish (State.Accounts.drops (State.Accounts.withdrawMakeup (h.modSale rfl ?_ ?_) l) _)
    · have hsum := (h.sales l).sum (.inl hpays)
      refine .of_paying hpays ?_ (h.sales l).pieces
      change (s.sale l).paid + ((s.sale l).shortfall + (s.sale l).owed) + 0 + _ + _ =
        (s.sale l).target + (s.sale l).overpay
      omega
    · exact fun _ => rfl

theorem State.Accounts.collect (l : Lane) : (collect l s).1.Accounts := by
  unfold Machine.collect
  split
  · rename_i hstate
    exact (h.closeSale (by rw [hstate]; nofun) (by rw [hstate]; nofun) (h.completion_presented hstate)).finish
  · exact h

theorem State.Accounts.readCompletion (l : Lane) : (readCompletion l s).1.Accounts := by
  have lanes := h.lanes.readCompletion l
  unfold Machine.readCompletion at lanes ⊢
  split
  · rename_i c hc
    rw [hc] at lanes
    refine h.change (l := l) (.of_stores rfl rfl rfl rfl) lanes (fun m hm => s.lane_setLane_ne l m _ hm) ?_
      (fun c hc => ?_) fun _ _ _ => ?_
    · change Sale.Balanced ((s.setSlot l none).sale l) _ _ _
      rw [State.sale_setSlot]
      exact h.sales l
    · exact absurd ((s.slot_setSlot_self l none).symm.trans hc) nofun
    · change ((s.setSlot l none).sale l).target = _
      rw [State.sale_setSlot]
  · exact h

end

end Sys2Proof.Machine
end

section
/-! SUPPORT. The accounts through every request (R37, R47, R143, R150). -/

namespace Sys2Proof.Machine

/-! ### RETRACT NOTES (R47) -/

/-- The retracted pieces of one denomination go from paid to shortfall. -/
theorem Sale.Balanced.retractOne {x : Sale} {carried asked : Nat} {value : Denom → Nat}
    (h : x.Balanced carried asked value) (hstate : x.state = .presented) (d : Denom) :
    (x.retractOne d (value d)).Balanced carried asked value := by
  have hsum := h.sum (.inr hstate)
  have hchange := sum_map_change allDenoms_nodup (mem_allDenoms d)
    (f := fun e => (x.retractOne d (value d)).paidPieces e * value e) (g := fun e => x.paidPieces e * value e)
    (fun e _ he => by rw [Sale.paidPieces_retractOne, if_neg he])
  have hnone : (x.retractOne d (value d)).paidPieces d = 0 := by rw [Sale.paidPieces_retractOne, if_pos rfl]
  simp only [hnone, Nat.zero_mul, Nat.add_zero] at hchange
  rw [← h.pieces] at hchange
  refine ⟨fun hi => absurd (hstate.symm.trans hi) nofun,
    fun hi => hi.elim (fun hi => absurd (hstate.symm.trans hi) nofun) fun hi => absurd (hstate.symm.trans hi) nofun,
    fun hi => ?_, fun _ => ?_, fun _ => h.settled hstate, ?_⟩
  · rcases hi with hi | hi | hi <;> exact absurd (hstate.symm.trans hi) nofun
  · change x.paid - x.paidPieces d * value d + (x.shortfall + x.paidPieces d * value d) + x.owed + carried + asked =
      x.target + x.overpay
    omega
  · change x.paid - x.paidPieces d * value d = _
    omega

section
variable {s : State} (h : s.Accounts)
include h

theorem State.Accounts.retractOne {l : Lane} (hstate : (s.sale l).state = .presented) (d : Denom) :
    (State.retractOne l s d).Accounts := by
  have books : s.sameBooks (s.retractBox l d) :=
    ((State.sameBooks.refl s).modBox _ _).onlyBooks (State.book_onlyBooks _ _ _ _)
  have hbox : (s.retractBox l d).Accounts := h.of_sameBooks books
  have hsale : (s.retractBox l d).sale l = s.sale l := congrArg LaneControl.sale (s.retractBox_lane l d l)
  have own := (hbox.sales l).retractOne (hsale ▸ hstate) d
  rw [hsale, State.value_congr books.denoms] at own
  rw [s.retractOne_eq]
  refine hbox.modSale (l := l) (f := fun _ => (s.sale l).retractOne d (s.value d)) ?_ ?_ fun hp => ?_
  · rw [hsale]; rfl
  · rw [State.value_congr books.denoms]; exact own
  · rw [hsale] at hp
    exact absurd (hstate.symm.trans hp) nofun

omit h in
theorem State.retractOne_state (s : State) (l : Lane) (d : Denom) :
    ((State.retractOne l s d).sale l).state = (s.sale l).state := by
  rw [State.sale, s.retractOne_lane, if_pos rfl]
  rfl

theorem State.Accounts.retract {l : Lane} (hstate : (s.sale l).state = .presented) (ds : List Denom) :
    (ds.foldl (State.retractOne l) s).Accounts := by
  induction ds generalizing s with
  | nil => exact h
  | cons d ds ih => exact ih (h.retractOne hstate d) ((s.retractOne_state l d).trans hstate)

theorem State.Accounts.retractNotes (l : Lane) : (retractNotes l s).1.Accounts := by
  rw [retractNotes_eq]
  split
  · rename_i hpasses
    have hretract := h.retract hpasses.1 (s.noteDenoms l)
    exact State.Accounts.closeEvent (hretract.of_sameBooks (t := s.retracted l) (.of_stores rfl rfl rfl rfl rfl))
  · exact h

/-! ### Modes and timers -/

theorem State.Accounts.changeMode {l : Lane} (hidle : (s.sale l).state = .idle) (m : Mode) :
    (s.enterMode l m).Accounts := by
  have lanes := h.lanes.changeMode hidle m
  unfold State.enterMode at lanes ⊢
  split at lanes
  · rw [if_pos ‹_›]
    exact h
  · rw [if_neg ‹_›]
    have hlanes : (s.changeMode l m).lanes = (s.setMode l m).lanes := rfl
    have hlane : (s.changeMode l m).lane l = { s.lane l with mode := m } := by
      rw [State.lane, hlanes]
      exact s.lane_setLane_self l _
    have hother : ∀ j, j ≠ l → (s.changeMode l m).lane j = s.lane j := fun j hj => by
      rw [State.lane, hlanes]
      exact s.lane_setLane_ne l j _ hj
    have strokes : s.sameStrokes (s.changeMode l m) :=
      .of_stores (by simp [State.changeMode]) (by simp [State.changeMode]) (by simp [State.changeMode])
        (by simp [State.changeMode])
    refine h.change (l := l) strokes lanes hother ?_
      (fun c hc => h.slots l c ?_) fun q hq hwork => h.lanes.no_target (by rw [hidle]; nofun) hq hwork
    · rw [State.sale, hlane]
      exact h.sales l
    · rw [State.slot, hlane] at hc
      exact hc

theorem State.Accounts.setLaneMode (p : Port) (payload : List Byte) : (setLaneMode p payload s).1.Accounts := by
  unfold Machine.setLaneMode
  split
  · unfold setModeFromLane
    split
    · exact h
    split
    · exact h
    split
    · exact h
    · rename_i hidle; exact h.changeMode (not_not.mp hidle) _
  · unfold setModeFromOffice
    split
    · split
      · exact h
      · rename_i hidle; exact h.changeMode (not_not.mp hidle) _
    · exact h
    · exact h
  · exact h

omit h in
theorem Sale.expireTimer_cases (x : Sale) : x.expireTimer = x ∨
    (∃ n, x.timer = .running n) ∧ x.expireTimer = { x with timer := .expired } := by
  unfold Sale.expireTimer
  cases hx : x.timer with
  | running n => exact .inr ⟨⟨n, rfl⟩, rfl⟩
  | stopped => exact .inl rfl
  | expired => exact .inl rfl

theorem State.Accounts.expireTimer (l : Lane) : (s.modSale l Sale.expireTimer).Accounts := by
  rcases (s.sale l).expireTimer_cases with hsame | ⟨⟨n, hrun⟩, hexpired⟩
  · refine h.modSale ?_ ?_ fun _ => ?_
    all_goals rw [hsame]
    exact h.sales l
  · have hbusy : (s.sale l).state ≠ .idle := fun hidle => by
      rw [(h.sales l).idle hidle] at hrun
      exact absurd hrun nofun
    refine h.modSale ?_ ?_ fun _ => ?_
    all_goals rw [hexpired]
    exact (h.sales l).congr hbusy rfl rfl rfl rfl rfl rfl rfl

/-! ### The tables, at closed lanes -/

omit h in
/-- With both sales IDLE the tables are no part of the accounts. -/
theorem State.Accounts.retable {s t : State} (h : s.Accounts) (hidle : ∀ l, (s.sale l).state = .idle)
    (lanes : t.laneWorkFollows) (hlanes : t.lanes = s.lanes) (hrec : t.pool.records = s.pool.records) :
    t.Accounts := by
  have lane : ∀ m, t.lane m = s.lane m := fun m => congrArg (fun v : PerLane LaneControl => v.get m) hlanes
  have hidle' : ∀ l, (t.sale l).state = .idle := fun l => by rw [State.sale, lane]; exact hidle l
  refine ⟨lanes, fun l => ?_, fun l c hc => ?_, fun r hr ho => ?_, fun w hw l q hq => ?_,
    by rw [hrec]; exact h.fresh⟩
  · rw [State.sale, lane]
    exact (h.sales l).of_state_idle (hidle l) _ _ _
  · rw [State.slot, lane] at hc
    exact h.slots l c hc
  · cases hl : r.owner with
    | office => exact absurd hl ho
    | lane l => exact absurd ((hidle' l).symm.trans ((lanes.lane l).pays r hr hl)) nofun
  · have hwork : t.laneAsked l q := State.laneAsked_work hw hq
    exact absurd hwork ((lanes.lane l).unasked (by rw [hidle']; nofun) (by rw [hidle']; nofun) q)

omit h in
theorem State.laneWorkFollows.idle_of_bothClosed {s : State} (h : s.laneWorkFollows) (hclosed : s.bothClosed = true)
    (l : Lane) : (s.sale l).state = .idle := by
  by_contra hbusy
  have hserve := (h.lane l).serves hbusy
  obtain ⟨h1, h2⟩ := Bool.and_eq_true_iff.mp hclosed
  cases l
  · exact absurd (hserve.symm.trans (eq_of_beq h1)) nofun
  · exact absurd (hserve.symm.trans (eq_of_beq h2)) nofun

omit h in
theorem State.writeEntry_frame (s : State) (d : Denom) (v : Nat) (k : Kind) (e : Bool) :
    (s.writeEntry d v k e).lanes = s.lanes ∧ (s.writeEntry d v k e).planner = s.planner ∧
      (s.writeEntry d v k e).pool = s.pool := by
  unfold State.writeEntry
  dsimp only
  split <;> exact ⟨rfl, rfl, rfl⟩

theorem State.Accounts.writeDenomination (payload : List Byte) : (writeDenomination payload s).1.Accounts := by
  unfold Machine.writeDenomination
  split
  · dsimp only
    split
    · exact h
    rename_i hclosed
    rw [Bool.not_eq_true', Bool.not_eq_false] at hclosed
    split
    · split
      · exact h
      split
      · exact h
      split
      · exact h
      split
      · exact h
      · obtain ⟨hlanes, hplan, hpool⟩ := s.writeEntry_frame _ _ _ _
        exact (h.retable (h.lanes.idle_of_bothClosed hclosed)
          (State.keepsLanes.follows (.of_same hlanes hplan hpool) h.lanes) hlanes
          (congrArg Pool.records hpool)).closeEvent
    · exact h
  · exact h

theorem State.Accounts.assignStore (payload : List Byte) : (assignStore payload s).1.Accounts := by
  unfold Machine.assignStore
  split
  · dsimp only
    split
    · exact h
    rename_i hclosed
    rw [Bool.not_eq_true', Bool.not_eq_false] at hclosed
    split
    · split
      · exact h
      split
      · exact h
      split
      · exact h
      split
      · exact h
      · exact (h.retable (h.lanes.idle_of_bothClosed hclosed)
          (((State.keepsLanes.refl s).modStore _ _).follows h.lanes) rfl rfl).closeEvent
    · exact h
  · exact h

theorem State.Accounts.clearCurrency : (clearCurrency s).1.Accounts := by
  unfold Machine.clearCurrency
  split
  · exact h
  rename_i hallowed
  rw [Bool.not_eq_true', Bool.not_eq_false, State.clearAllowed, Bool.and_eq_true_iff, Bool.and_eq_true_iff,
    Bool.and_eq_true_iff] at hallowed
  obtain ⟨⟨⟨hclosed, -⟩, -⟩, -⟩ := hallowed
  split
  · exact h
  · exact State.Accounts.closeEvent (h.retable (t := s.closeTotals.clearTables) (h.lanes.idle_of_bothClosed hclosed)
      (State.keepsLanes.follows (.of_same rfl rfl rfl) h.lanes) rfl rfl)

/-! ### Skims -/

theorem State.Accounts.beginSkim (r : SkimRequest) : (s.beginSkim r).Accounts :=
  State.Accounts.finish (h.same_lanes (.of_stores rfl rfl rfl rfl)
    (State.keepsLanes.follows (.of_frame rfl rfl rfl (.of_same rfl)) h.lanes) rfl)

omit h in
/-- STOP SKIM marks a skim's request alone (R143). -/
theorem Planner.stopSkim_work (p : Planner) : p.stopSkim.work = p.work ∨
    ∃ w r, p.work = some w ∧ w.job = .skim r ∧ p.stopSkim.work = some { w with stopped := true } := by
  unfold Planner.stopSkim
  cases hp : p.work with
  | none => exact .inl rfl
  | some w =>
    cases hj : w.job with
    | lane l q => exact .inl (by simp only [hj])
    | skim r => exact .inr ⟨w, r, rfl, hj, by simp only [hj]⟩

theorem State.Accounts.stopSkimWork : ({ s with planner := s.planner.stopSkim }.placeSkim none).Accounts := by
  have lanes := (State.keepsLanes.refl s).stopSkim.follows h.lanes
  rcases s.planner.stopSkim_work with hsame | ⟨v, r, hv, hjob, hstopped⟩
  · exact h.same_lanes (.of_stores rfl hsame rfl rfl) lanes rfl
  · refine ⟨lanes, fun l => ?_, h.slots, h.windows, fun w hw l q hq => ?_, h.fresh⟩
    · have hbefore : s.asked l = 0 := (State.asked_eq hv l).trans (if_neg (by rw [hjob]; nofun))
      have hafter : ({ s with planner := s.planner.stopSkim }.placeSkim none).asked l = 0 :=
        (State.asked_eq hstopped l).trans (if_neg (by rw [hjob]; nofun))
      rw [hafter, ← hbefore]
      exact h.sales l
    · obtain rfl := Option.some.inj (hstopped.symm.trans hw)
      exact absurd (hjob.symm.trans hq) nofun

theorem State.Accounts.stopSkim : (stopSkim s).1.Accounts := by
  unfold Machine.stopSkim
  split
  · exact (h.stopSkimWork.drops _).finish
  · exact h

/-! ### Every request -/

theorem State.Accounts.performRequest (r : Request) (p : Port) (payload : List Byte) :
    (performRequest r p payload s).1.Accounts := by
  by_cases hr : sparesBooks r = true
  · exact h.of_sameBooks (sameBooks_performRequest s hr p payload)
  cases r with
  | openSale => exact onLane_keeps h (fun l => h.openSale l payload) p
  | settle => exact onLane_keeps h (fun l => h.settle l payload) p
  | cancelSale => exact onLane_keeps h h.cancelSale p
  | haltPayout => exact onLane_keeps h h.haltPayout p
  | collect => exact onLane_keeps h h.collect p
  | retractNotes => exact onLane_keeps h h.retractNotes p
  | readCompletion => exact onLane_keeps h h.readCompletion p
  | setLaneMode => exact h.setLaneMode p payload
  | writeDenomination => exact h.writeDenomination payload
  | assignStore => exact h.assignStore payload
  | clearCurrency => exact h.clearCurrency
  | stopSkim => exact h.stopSkim
  | skimToTarget =>
    unfold Machine.performRequest Machine.skimToTarget
    dsimp only
    split
    · exact h
    · exact h.beginSkim _
  | emptyStore =>
    refine onStore_keeps h (fun k => ?_) payload
    split
    · exact h
    · exact h.beginSkim _
  | _ => exact absurd rfl hr

end

end Sys2Proof.Machine
end

section
/-! SUPPORT. What a lane's plan is worth: its strokes and its shortfall are together its target (R82–R87). -/

namespace Sys2Proof.Machine

/-! ### Counts against the positions of a pass -/

/-- The first counts of a candidate, each within its stock and worth no more than is left of an amount. -/
inductive Keeps : List Stocked → List Nat → Nat → Prop
  | nil (ps : List Stocked) (amount : Nat) : Keeps ps [] amount
  | cons {p : Stocked} {ps : List Stocked} {n : Nat} {ns : List Nat} {amount : Nat} (stock : n ≤ p.stock)
      (worth : n * p.value ≤ amount) (rest : Keeps ps ns (amount - n * p.value)) : Keeps (p :: ps) (n :: ns) amount

/-- A count for each position, within its stock, and what the counts leave of an amount. -/
inductive Fills : List Stocked → List Nat → Nat → Nat → Prop
  | nil (amount : Nat) : Fills [] [] amount amount
  | cons {p : Stocked} {ps : List Stocked} {n : Nat} {ns : List Nat} {amount left : Nat} (stock : n ≤ p.stock)
      (worth : n * p.value ≤ amount) (rest : Fills ps ns (amount - n * p.value) left) :
      Fills (p :: ps) (n :: ns) amount left

/-- A candidate of a pass (R82, R83). -/
def Candidate.Fills (c : Candidate) (ps : List Stocked) (target : Nat) : Prop :=
  Machine.Fills ps c.counts target c.remainder

theorem greedyFill_fills (ps : List Stocked) (target : Nat) (b : Budgets) :
    (greedyFill ps target b).Fills ps target := by
  induction ps generalizing target b with
  | nil => exact .nil target
  | cons p ps ih =>
    refine .cons (Nat.min_le_left _ _) ?_ (ih _ _)
    calc min p.stock (min (target / p.value) (b.of p.kind)) * p.value
        ≤ target / p.value * p.value :=
          Nat.mul_le_mul_right _ (Nat.le_trans (Nat.min_le_right _ _) (Nat.min_le_left _ _))
      _ ≤ target := Nat.div_mul_le_self _ _

theorem Keeps.fillBehind {ps : List Stocked} {kept : List Nat} {target : Nat} (h : Keeps ps kept target) (b : Budgets) :
    (fillBehind ps kept target b).Fills ps target := by
  induction h generalizing b with
  | nil ps target =>
    unfold Machine.fillBehind
    exact greedyFill_fills ps target b
  | cons stock worth _ ih => exact .cons stock worth (ih _)

/-- A retreat keeps the counts up to some position, that position's lowered by one (R83). -/
theorem retreat_some {counts kept : List Nat} (h : retreat counts = some kept) :
    ∃ earlier n later, counts = earlier ++ n :: later ∧ kept = earlier ++ [n - 1] := by
  unfold retreat at h
  cases hd : counts.dropLast.reverse.dropWhile (· == 0) with
  | nil => rw [hd] at h; exact absurd h nofun
  | cons n earlier =>
    rw [hd] at h
    obtain rfl := Option.some.inj h
    obtain ⟨zeros, hz⟩ := List.dropWhile_suffix (l := counts.dropLast.reverse) (· == 0)
    obtain ⟨last, hlast⟩ := List.dropLast_prefix counts
    have hback : counts.dropLast = earlier.reverse ++ n :: zeros.reverse := by
      rw [← List.reverse_reverse counts.dropLast, ← hz, hd]
      simp
    refine ⟨earlier.reverse, n, zeros.reverse ++ last, ?_, List.reverse_cons⟩
    rw [← hlast, hback]
    simp

theorem Fills.keeps {ps : List Stocked} {earlier later : List Nat} {n target left : Nat}
    (h : Fills ps (earlier ++ n :: later) target left) : Keeps ps (earlier ++ [n - 1]) target := by
  induction earlier generalizing ps target with
  | nil =>
    cases h with
    | cons stock worth rest =>
      exact .cons (Nat.le_trans (Nat.sub_le _ _) stock)
        (Nat.le_trans (Nat.mul_le_mul_right _ (Nat.sub_le _ _)) worth) (.nil _ _)
  | cons m earlier ih =>
    cases h with
    | cons stock worth rest => exact .cons stock worth (ih rest)

theorem searchOn_fills {ps : List Stocked} {target : Nat} (b : Budgets) (tries : Nat) {last best : Candidate}
    (hlast : last.Fills ps target) (hbest : best.Fills ps target) :
    (searchOn ps target b tries last best).Fills ps target := by
  induction tries generalizing last best with
  | zero => exact hbest
  | succ tries ih =>
    unfold searchOn
    split
    · exact hbest
    split
    · exact hbest
    · rename_i kept hkept
      obtain ⟨earlier, n, later, hcounts, rfl⟩ := retreat_some hkept
      have hnext : (fillBehind ps (earlier ++ [n - 1]) target b).Fills ps target := by
        unfold Candidate.Fills at hlast
        rw [hcounts] at hlast
        exact hlast.keeps.fillBehind b
      refine ih hnext ?_
      split
      · exact hnext
      · exact hbest

theorem searchPass_fills (ps : List Stocked) (target : Nat) (b : Budgets) :
    (searchPass ps target b).Fills ps target := by
  have hfirst := greedyFill_fills ps target b
  unfold searchPass
  dsimp only
  split
  · exact hfirst
  · exact searchOn_fills b _ hfirst hfirst

/-- A candidate of the comfortable pass is one of the full stock (R79). -/
theorem Fills.of_comfortable {ps : List Position} {counts : List Nat} {target left : Nat}
    (h : Fills (ps.map Position.comfortable) counts target left) : Fills (ps.map Position.full) counts target left := by
  induction ps generalizing counts target with
  | nil => exact h
  | cons p ps ih =>
    cases h with
    | cons stock worth rest => exact .cons (Nat.le_trans stock (Nat.sub_le _ _)) worth (ih rest)

theorem chooseCandidate_fills (ps : List Position) (target : Nat) (b : Budgets) :
    (chooseCandidate ps target b).Fills (ps.map Position.full) target := by
  have hone : (searchPass (ps.map Position.comfortable) target b).Fills (ps.map Position.full) target :=
    Fills.of_comfortable (searchPass_fills _ target b)
  have htwo := searchPass_fills (ps.map Position.full) target b
  unfold chooseCandidate
  dsimp only
  split
  · exact hone
  split
  · exact htwo
  split
  · exact hone
  · exact htwo

/-- The counts of a candidate, position by position. -/
theorem Fills.zip {ps : List Position} {counts : List Nat} {target left : Nat}
    (h : Fills (ps.map Position.full) counts target left) :
    (∀ y ∈ ps.zip counts, y.2 ≤ y.1.free) ∧
      ((ps.zip counts).map (fun y => y.2 * y.1.value)).sum + left = target := by
  induction ps generalizing counts target with
  | nil => cases h with | nil => exact ⟨nofun, Nat.zero_add _⟩
  | cons p ps ih =>
    cases h with
    | cons stock worth rest =>
      rename_i n ns
      obtain ⟨hfree, hsum⟩ := ih rest
      have hvalue : p.full.value = p.value := rfl
      refine ⟨fun y hy => ?_, ?_⟩
      · rcases List.mem_cons.mp hy with rfl | hy
        · exact stock
        · exact hfree y hy
      · rw [List.zip_cons_cons, List.map_cons, List.sum_cons]
        dsimp only
        rw [hvalue] at hsum worth
        omega

/-! ### The strokes of a plan -/

/-- What planned strokes are worth by a snapshot. -/
def Snapshot.worth (n : Snapshot) (xs : List Planned) : Nat := (xs.map (fun x => x.count * n.strokeValue x)).sum

section
variable {n : Snapshot} {excluded : List StoreId}

theorem Snapshot.worth_append (xs ys : List Planned) : n.worth (xs ++ ys) = n.worth xs + n.worth ys := by
  simp [Snapshot.worth]

/-- The strokes of a position are worth its count. -/
theorem Snapshot.worth_allocate {d : Denom} {count : Nat} (h : count ≤ n.freeOf (n.usableStores excluded d)) :
    n.worth (n.allocate (n.usableStores excluded d) count) = count * (n.denom d).value := by
  have hvalue : ∀ x ∈ n.allocate (n.usableStores excluded d) count,
      x.count * n.strokeValue x = x.count * (n.denom d).value := fun x hx => by
    rw [Snapshot.strokeValue_eq (Snapshot.allocate_plannedFrom hx)]
  rw [Snapshot.worth, List.map_congr_left hvalue, List.sum_map_mul_right, Snapshot.allocate_sum, Nat.min_eq_left h]

theorem Snapshot.worth_strokesOf {k : Kind} {ys : List (Position × Nat)}
    (h : ∀ y ∈ ys, y.1 ∈ n.positions excluded ∧ y.2 ≤ y.1.free) :
    n.worth (n.strokesOf excluded k ys) = (ys.map (fun y => if y.1.kind = k then y.2 * y.1.value else 0)).sum := by
  induction ys with
  | nil => rfl
  | cons y ys ih =>
    obtain ⟨p, count⟩ := y
    obtain ⟨hp, hfree⟩ := h _ List.mem_cons_self
    have hpos := ((n.mem_positions excluded).mp hp).1
    have hcount : count ≤ n.freeOf (n.usableStores excluded p.denom) := by
      rw [hpos] at hfree
      exact hfree
    have hvalue : (n.denom p.denom).value = p.value := (congrArg Position.value hpos).symm
    unfold Snapshot.strokesOf
    rw [Snapshot.worth_append, ih fun z hz => h z (List.mem_cons_of_mem _ hz), List.map_cons, List.sum_cons]
    dsimp only
    split
    · rw [Snapshot.worth_allocate hcount, hvalue]
    · rfl

/-- The strokes of both kinds together. -/
theorem sum_map_by_kind (ys : List (Position × Nat)) (g : Position × Nat → Nat) :
    (ys.map (fun y => if y.1.kind = .coin then g y else 0)).sum +
      (ys.map (fun y => if y.1.kind = .note then g y else 0)).sum = (ys.map g).sum := by
  rw [← List.sum_map_add]
  refine congrArg List.sum (List.map_congr_left fun y _ => ?_)
  cases y.1.kind <;> simp

theorem Snapshot.worth_lanePlan (n : Snapshot) (limits : Limits) (r : LaneRequest) :
    n.worth (n.lanePlan limits r).strokes + (n.lanePlan limits r).shortfall = n.target := by
  obtain ⟨hfree, hsum⟩ := (chooseCandidate_fills (n.positions (n.excluded r)) n.target (n.budgets limits r)).zip
  have hcounted : ∀ y ∈ (n.positions (n.excluded r)).zip
      (chooseCandidate (n.positions (n.excluded r)) n.target (n.budgets limits r)).counts,
      y.1 ∈ n.positions (n.excluded r) ∧ y.2 ≤ y.1.free :=
    fun y hy => ⟨(List.of_mem_zip (a := y.1) (b := y.2) hy).1, hfree y hy⟩
  unfold Snapshot.lanePlan
  dsimp only [planWith]
  rw [Snapshot.worth_append, Snapshot.worth_strokesOf hcounted, Snapshot.worth_strokesOf hcounted, sum_map_by_kind]
  exact hsum

end

end Sys2Proof.Machine
end

section
/-! SUPPORT. The accounts through the completion of an attempt (R36, R38, R39, R42, R44, R91–R93). -/

namespace Sys2Proof.Machine

/-- The request in work is over; what strokes it has laid down are its owner's, and none has started. -/
structure State.SetsAside (s t : State) (o : Owner) : Prop where
  lanes : t.lanes = s.lanes
  planner : t.planner = s.freePlanner.planner
  denoms : t.denoms = s.denoms
  stores : ∀ k, (t.store k).denom = (s.store k).denom
  carried : ∀ m, .lane m ≠ o → t.carried m = s.carried m
  strokes : ∀ m, .lane m ≠ o → t.hasStrokes m → s.hasStrokes m
  windows : ∀ r ∈ t.pool.records, r.owner ≠ .office → (t.store r.store).channel.runs r = true →
    (t.store r.store).channel.holdsNothing = true → r.delivered = r.count
  fresh : ∀ r ∈ t.pool.records, r.state = .waiting → r.delivered = 0

/-- A make-up that is over leaves its lane in PAYING; what is still owed is asked for next (R42). -/
theorem State.Accounts.nextMakeup {t : State} (hu : t.Accounts) {l : Lane} (hstate : (t.sale l).state = .paying)
    (hfree : t.planner.work = none) : (t.nextMakeup l).Accounts := by
  have lanes := hu.lanes.nextMakeup hstate fun q hq => by
    rw [State.jobInWork, hfree] at hq
    exact absurd hq nofun
  unfold State.nextMakeup at lanes ⊢
  split at lanes
  · rw [if_pos ‹_›]
    exact hu.same_lanes (.of_stores rfl rfl rfl rfl) lanes rfl
  · rw [if_neg ‹_›]
    exact hu

section
variable {s t : State} (h : s.Accounts)
include h

/-- Nothing is laid down. -/
theorem State.Accounts.setsAside_freePlanner (o : Owner) : s.SetsAside s.freePlanner o where
  lanes := rfl
  planner := rfl
  denoms := rfl
  stores _ := rfl
  carried _ _ := rfl
  strokes _ _ := id
  windows := h.windows
  fresh := h.fresh

variable {w : Work} (hw : s.planner.work = some w)
include hw

/-- An office request that is over leaves the sales as they stood (R71). -/
theorem State.Accounts.skim_over {r : SkimRequest} (hjob : w.job = .skim r) (aside : s.SetsAside t .office) :
    t.Accounts := by
  have lane : ∀ m, t.lane m = s.lane m := fun m => congrArg (fun v : PerLane LaneControl => v.get m) aside.lanes
  have hfree : t.planner.work = none := congrArg Planner.work aside.planner
  refine ⟨h.lanes.skim_over hw hjob aside.lanes aside.planner fun m => aside.strokes m nofun, fun l => ?_,
    fun l c hc => h.slots l c ?_, aside.windows, fun v hv => absurd (hfree.symm.trans hv) nofun, aside.fresh⟩
  · have hasked : s.asked l = 0 := by
      rw [State.asked_eq hw, hjob]
      exact if_neg nofun
    rw [State.asked_free hfree, aside.carried l nofun, State.value_congr aside.denoms, ← hasked, State.sale, lane]
    exact h.sales l
  · rw [State.slot, lane] at hc
    exact hc

section
variable {l : Lane} {q : LaneRequest} (hjob : w.job = .lane l q)
include hjob

/-- The answer to a lane's request writes the lane's sale. -/
theorem State.Accounts.answer (aside : s.SetsAside t (.lane l)) {f : Sale → Sale} {u : State}
    (hlanes : u.lanes = (t.modSale l f).lanes) (hplan : u.planner = t.planner) (hpool : u.pool = t.pool)
    (hdenoms : u.denoms = t.denoms) (hstores : u.stores = t.stores)
    (hstate : t.hasStrokes l → (f (s.sale l)).state = .paying)
    (own : (f (s.sale l)).Balanced (t.carried l) 0 s.value) : u.Accounts := by
  have base : ∀ m, t.lane m = s.lane m := fun m => congrArg (fun v : PerLane LaneControl => v.get m) aside.lanes
  have lane : ∀ m, u.lane m = (t.modSale l f).lane m :=
    fun m => congrArg (fun v : PerLane LaneControl => v.get m) hlanes
  have hsale : t.sale l = s.sale l := congrArg LaneControl.sale (base l)
  have hfree : u.planner.work = none := (congrArg Planner.work hplan).trans (congrArg Planner.work aside.planner)
  have hvalue : u.value = s.value := (State.value_congr hdenoms).trans (State.value_congr aside.denoms)
  have hcarried : ∀ m, u.carried m = t.carried m := fun m => State.sameStrokes.carried
    (s := { t with planner := u.planner }) (.of_stores (congrArg Pool.records hpool) rfl hdenoms hstores) m
  have hrec : ∀ m, m ≠ l → t.hasStrokes m → s.hasStrokes m :=
    fun m hm => aside.strokes m fun ho => hm (Owner.lane.inj ho)
  refine ⟨(h.lanes.answers hw hjob aside.lanes aside.planner hrec).follows hlanes hplan hpool
    (by rw [hsale]; exact hstate), fun m => ?_, fun m c hc => h.slots m c ?_, fun r hr => ?_,
    fun v hv => absurd (hfree.symm.trans hv) nofun, by rw [hpool]; exact aside.fresh⟩
  · have hwritten : u.sale m = (t.modSale l f).sale m := congrArg LaneControl.sale (lane m)
    rw [State.asked_free hfree, hcarried, hvalue, hwritten]
    by_cases hm : m = l
    · subst hm
      rw [State.sale_modSale_self, hsale]
      exact own
    · have hasked : s.asked m = 0 := by
        rw [State.asked_eq hw, hjob]
        exact if_neg fun hx => hm (Job.lane.inj hx).1.symm
      rw [aside.carried m fun ho => hm (Owner.lane.inj ho), ← hasked, State.sale_modSale_ne _ _ _ _ hm,
        State.sale, base]
      exact h.sales m
  · have hslot : u.slot m = (t.modSale l f).slot m := congrArg LaneControl.slot (lane m)
    rw [hslot, State.slot_modSale, State.slot, base] at hc
    exact hc
  · rw [State.store_congr hstores]
    exact aside.windows r (hpool ▸ hr)

end

/-- A request out of PLANNING: nothing is paid of its sale yet, and its strokes carry nothing (R34, R37). -/
theorem State.Accounts.unplanned {l : Lane} {q : LaneRequest} (hjob : w.job = .lane l q) (hq : q ≠ .makeup) :
    (s.sale l).state = .planning ∧ s.carried l = 0 ∧ ((s.sale l).paid = 0 ∧ (s.sale l).overpay = 0 ∧
      (s.sale l).shortfall = 0 ∧ (s.sale l).owed = 0) := by
  have hplanning := h.lanes.planning hw hjob hq
  exact ⟨hplanning, h.lanes.carried (by rw [hplanning]; nofun), (h.sales l).unpaid (.inr (.inr hplanning))⟩

/-- What a plan is handed back with: its strokes carry what it is worth by its snapshot (R36, R39, R42). -/
theorem State.Accounts.handBack {plan : Plan} (aside : s.SetsAside t w.job.owner)
    (hcarried : ∀ l, w.job.owner = .lane l → t.carried l = s.carried l + w.snap.worth plan.strokes)
    (hplan : ∀ l r, w.job = .lane l r → w.snap.worth plan.strokes + plan.shortfall = w.snap.target) :
    (t.handBack w.job plan).Accounts := by
  cases hjob : w.job with
  | skim r =>
    rw [hjob] at aside
    exact h.skim_over hw hjob aside
  | lane l q =>
    rw [hjob] at aside hcarried
    have hworth := hplan l q hjob
    have hcarry := hcarried l rfl
    have own (hq : q ≠ .makeup) : ({ s.sale l with
        lastResult := if plan.shortfall = 0 then .exact else .short
        shortfall := (s.sale l).shortfall + plan.shortfall
        coinsCommitted := plan.coins
        notesCommitted := plan.notes
        state := .paying } : Sale).Balanced (t.carried l) 0 s.value := by
      obtain ⟨-, hnone, hpaid, hover, hshort, howed⟩ := h.unplanned hw hjob hq
      have htarget := (h.work w hw l q hjob).target hq
      refine .of_paying rfl ?_ (h.sales l).pieces
      dsimp only
      omega
    cases q with
    | settle => exact h.answer hw hjob aside (f := _) rfl rfl rfl rfl rfl (fun _ => rfl) (own nofun)
    | refund => exact h.answer hw hjob aside (f := _) rfl rfl rfl rfl rfl (fun _ => rfl) (own nofun)
    | makeup =>
      have hpays := h.lanes.paying hw hjob
      have hasked : s.asked l = w.snap.target := by rw [State.asked_eq hw, if_pos hjob]
      have hsum := (h.sales l).sum (.inl hpays)
      have hover : (t.modSale l (fun x => { x with
          shortfall := x.shortfall + plan.shortfall
          coinsCommitted := x.coinsCommitted + plan.coins
          notesCommitted := x.notesCommitted + plan.notes })).Accounts := by
        refine h.answer hw hjob aside (f := _) rfl rfl rfl rfl rfl (fun _ => hpays)
          (.of_paying hpays ?_ (h.sales l).pieces)
        dsimp only
        omega
      have hsale : t.sale l = s.sale l :=
        congrArg (fun v : PerLane LaneControl => (v.get l).sale) aside.lanes
      refine hover.nextMakeup ?_ (congrArg Planner.work aside.planner)
      rw [State.sale_modSale_self, hsale]
      exact hpays

/-- A settle goes back to TENDERING (R36). -/
theorem State.Accounts.refuseSettle {l : Lane} (hjob : w.job = .lane l .settle) (result : SettleResult) :
    (s.freePlanner.refuseSettle l result).Accounts := by
  obtain ⟨hplanning, -, hzero⟩ := h.unplanned hw hjob nofun
  refine h.answer hw hjob (h.setsAside_freePlanner _) (f := fun x =>
    { x with lastResult := result, target := 0, targetKind := .none, state := .tendering }) rfl rfl rfl rfl rfl ?_
    (.of_unpaid (.inl rfl) hzero (fun _ => rfl) (h.sales l).pieces)
  rintro ⟨r, hr, ho⟩
  exact absurd (hplanning.symm.trans ((h.lanes.lane l).pays r hr ho)) nofun

/-- The target of a make-up that pays nothing goes to shortfall (R42, R44). -/
theorem State.Accounts.makeupShort {l : Lane} (hjob : w.job = .lane l .makeup) :
    (s.freePlanner.modSale l (fun x => { x with shortfall := x.shortfall + w.snap.target })).Accounts ∧
      ((s.freePlanner.modSale l (fun x => { x with shortfall := x.shortfall + w.snap.target })).sale l).state =
        .paying := by
  have hpays := h.lanes.paying hw hjob
  have hasked : s.asked l = w.snap.target := by rw [State.asked_eq hw, if_pos hjob]
  have hsum := (h.sales l).sum (.inl hpays)
  have hcarried : s.freePlanner.carried l = s.carried l := rfl
  constructor
  · refine h.answer hw hjob (h.setsAside_freePlanner _) (f := _) rfl rfl rfl rfl rfl (fun _ => hpays)
      (.of_paying hpays ?_ (h.sales l).pieces)
    dsimp only
    omega
  · rw [State.sale_modSale_self]
    exact hpays

theorem State.Accounts.handStockChanged : (s.freePlanner.handStockChanged w.job w.snap.target).Accounts := by
  cases hjob : w.job with
  | skim r => exact h.skim_over hw hjob (h.setsAside_freePlanner _)
  | lane l q =>
    cases q with
    | settle => exact h.refuseSettle hw hjob _
    | refund =>
      obtain ⟨-, hnone, hpaid, hover, -, howed⟩ := h.unplanned hw hjob nofun
      have hcarried : s.freePlanner.carried l = s.carried l := rfl
      refine h.answer hw hjob (h.setsAside_freePlanner _) (f := _) rfl rfl rfl rfl rfl (fun _ => rfl)
        (.of_paying rfl ?_ (h.sales l).pieces)
      dsimp only
      omega
    | makeup =>
      obtain ⟨hover, hpays⟩ := h.makeupShort hw hjob
      exact hover.nextMakeup hpays rfl

theorem State.Accounts.recompute : (s.recompute w).Accounts := by
  have lanes := h.lanes.recompute hw
  unfold State.recompute at lanes ⊢
  split at lanes
  · rw [if_pos ‹_›]
    refine ⟨lanes, fun l => ?_, h.slots, h.windows, fun v hv l q hq => ?_, h.fresh⟩
    · have hasked : State.asked { s with planner := { s.planner with work := some { w with
          attempt := w.attempt + 1, snap := s.snapshot w.job w.snap.target } } } l = s.asked l := by
        rw [State.asked_eq hw, State.asked_eq rfl]
        dsimp only
        split
        · rename_i hjob; rw [hjob]; rfl
        · rfl
      rw [hasked]
      exact h.sales l
    · obtain rfl := Option.some.inj hv
      have hjob : w.job = .lane l q := hq
      refine s.snapshotAgrees_snapshot w.job w.snap.target (fun hmake => ?_) rfl rfl
      rw [hjob]
      exact (h.work w hw l q hjob).target hmake
  · rw [if_neg ‹_›]
    exact h.handStockChanged hw

theorem State.Accounts.completeWithdrawn (hback : s.withdrawn w = true) :
    (s.freePlanner.completeWithdrawn w).Accounts := by
  unfold State.withdrawn at hback
  unfold State.completeWithdrawn
  cases hjob : w.job with
  | skim r => exact h.skim_over hw hjob (h.setsAside_freePlanner _)
  | lane l q =>
    rw [hjob] at hback
    cases q with
    | settle =>
      obtain ⟨hplanning, -, -⟩ := h.unplanned hw hjob nofun
      have hasked : s.asked l = 0 := h.lanes.asked (by rw [hplanning]; nofun)
      have hfree : s.freePlanner.Accounts :=
        h.answer hw hjob (h.setsAside_freePlanner _) (f := id) (by cases l <;> rfl) rfl rfl rfl rfl
          (fun ⟨r, hr, ho⟩ => (h.lanes.lane l).pays r hr ho) (hasked ▸ h.sales l)
      exact hfree.beginRefund (.inr hplanning) nofun
    | refund => exact absurd hback nofun
    | makeup => exact (h.makeupShort hw hjob).1

theorem State.Accounts.completeRefused (hno : w.refuses (w.plan s.limits) = true) :
    (s.freePlanner.completeRefused w).Accounts := by
  unfold Work.refuses at hno
  unfold State.completeRefused
  cases hjob : w.job with
  | skim r => rw [hjob] at hno; exact absurd hno nofun
  | lane l q =>
    cases q with
    | settle => exact h.refuseSettle hw hjob _
    | refund => rw [hjob] at hno; exact absurd hno nofun
    | makeup => rw [hjob] at hno; exact absurd hno nofun

end

/-- The snapshot of a lane's request values a planned stroke as the store it is on. -/
theorem State.SnapshotAgrees.strokeValue {s : State} {n : Snapshot} {l : Lane} {q : LaneRequest}
    (h : s.SnapshotAgrees n l q) (x : Planned) : n.strokeValue x = s.storeValue x.store := by
  unfold Snapshot.strokeValue State.storeValue
  rw [h.stores]
  cases (s.store x.store).denom with
  | none => rfl
  | some d => exact (h.denoms d).1

/-! ### A plan that is laid down (R91, R95–R97) -/

section
variable {s u : State} (h : s.Accounts) (sound : s.Sound) {plan : Plan} (hres : s.reserveAll plan.strokes = some u)
  (hroom : plan.strokes.length ≤ s.pool.free.length) (job : Job)

/-- What laying down a plan writes of what the accounts are about. -/
theorem State.layDown_books (hres : s.reserveAll plan.strokes = some u)
    (hroom : plan.strokes.length ≤ s.pool.free.length) :
    (u.layDown job plan).pool.records =
      s.pool.records ++ writtenOf job.owner job.origin s.pool.free plan.strokes ∧
    (∀ k, ((u.layDown job plan).store k).denom = (s.store k).denom ∧
      ((u.layDown job plan).store k).channel = (s.store k).channel) ∧
    (u.layDown job plan).lanes = s.lanes ∧ (u.layDown job plan).planner = s.planner ∧
    (u.layDown job plan).denoms = s.denoms := by
  obtain ⟨heq, hst, -, -⟩ := State.reserveAll_some hres
  have hwrite : (u.layDown job plan).pool = u.pool.write job.owner job.origin plan.strokes := by
    cases job <;> rfl
  have hframe : (u.layDown job plan).stores = u.stores ∧ (u.layDown job plan).lanes = u.lanes ∧
      (u.layDown job plan).planner = u.planner ∧ (u.layDown job plan).denoms = u.denoms := by
    cases job <;> exact ⟨rfl, rfl, rfl, rfl⟩
  obtain ⟨hstores, hlanes, hplan, hdenoms⟩ := hframe
  refine ⟨?_, fun k => ?_, hlanes.trans (by rw [heq]), hplan.trans (by rw [heq]), hdenoms.trans (by rw [heq])⟩
  · have hpool : u.pool = s.pool := by rw [heq]
    rw [hwrite, hpool, Pool.write_eq _ _ _ _ hroom]
    rfl
  · rw [State.store_congr hstores, hst]
    exact ⟨rfl, rfl⟩

/-- The strokes of a plan carry its pieces for their owner (R97). -/
theorem State.carried_layDown (hres : s.reserveAll plan.strokes = some u)
    (hroom : plan.strokes.length ≤ s.pool.free.length) (l : Lane) :
    (u.layDown job plan).carried l = s.carried l +
      if job.owner = .lane l then (plan.strokes.map (fun x => x.count * s.storeValue x.store)).sum else 0 := by
  obtain ⟨hrec, hstores, -, -, hdenoms⟩ := s.layDown_books job hres hroom
  have hvalue : (u.layDown job plan).strokeValue = s.strokeValue := by
    funext r
    exact State.storeValue_congr hdenoms (hstores r.store).1
  rw [State.carried_eq, State.worth, State.sumStrokes_eq, hrec, sumOver_append, hvalue]
  refine congrArg₂ (· + ·) rfl ?_
  split
  · rename_i ho
    refine sumOver_writtenOf hroom fun slot _ x _ => ?_
    have hmine : ofLane l (x.record job.owner job.origin slot) = true := beq_iff_eq.mpr ho
    rw [if_pos hmine]
    rfl
  · rename_i ho
    refine sumOver_eq_zero fun r hr hmine => absurd ?_ ho
    obtain ⟨slot, -, x, -, rfl⟩ := mem_writtenOf hr
    exact eq_of_beq hmine

include h sound hres hroom

theorem State.Accounts.setsAside_layDown : s.SetsAside (u.layDown job plan).freePlanner job.owner := by
  obtain ⟨hrec, hstores, hlanes, hplan, hdenoms⟩ := s.layDown_books job hres hroom
  have hpool : u.pool = s.pool := by rw [(State.reserveAll_some hres).1]
  refine ⟨hlanes, by unfold State.freePlanner; dsimp only; rw [hplan], hdenoms, fun k => (hstores k).1,
    fun m hm => ?_, fun m hm => State.hasStrokes_layDown hpool (hpool ▸ hroom) hm, fun r hr => ?_, fun r hr => ?_⟩
  · exact (State.carried_layDown job hres hroom m).trans (by rw [if_neg (Ne.symm hm), Nat.add_zero])
  · change r ∈ (u.layDown job plan).pool.records at hr
    change r.owner ≠ .office → ((u.layDown job plan).store r.store).channel.runs r = true →
      ((u.layDown job plan).store r.store).channel.holdsNothing = true → r.delivered = r.count
    rw [(hstores _).2]
    rw [hrec] at hr
    rcases List.mem_append.mp hr with hr | hr
    · exact h.windows r hr
    · obtain ⟨slot, hf, x, -, rfl⟩ := mem_writtenOf hr
      exact fun _ hruns => absurd (eq_of_beq hruns) (sound.slot_ne_of_free hf x.store)
  · change r ∈ (u.layDown job plan).pool.records at hr
    rw [hrec] at hr
    rcases List.mem_append.mp hr with hr | hr
    · exact h.fresh r hr
    · obtain ⟨slot, -, x, -, rfl⟩ := mem_writtenOf hr
      exact fun _ => rfl

end

/-- ATTEMPT_COMPLETION, up to the close of its event (R91). -/
theorem State.Accounts.completeAttempt {s t : State} (h : s.Accounts) (sound : s.Sound) {w : Work}
    (hw : s.planner.work = some w) (ht : s.completeAttempt w = some t) : t.Accounts := by
  have hplan : ∀ l r, w.job = .lane l r →
      w.snap.worth (w.plan s.limits).strokes + (w.plan s.limits).shortfall = w.snap.target := by
    intro l r hjob
    have hlane : w.plan s.limits = w.snap.lanePlan s.limits r := by simp only [Work.plan, hjob]
    rw [hlane]
    exact w.snap.worth_lanePlan s.limits r
  unfold State.completeAttempt at ht
  dsimp only at ht
  split at ht
  · rename_i hback; cases ht; exact h.completeWithdrawn hw hback
  split at ht
  · rename_i hno; cases ht; exact h.completeRefused hw hno
  split at ht
  · rename_i hempty
    cases ht
    refine h.handBack hw (h.setsAside_freePlanner _) (fun l _ => ?_) hplan
    rw [List.isEmpty_iff.mp hempty]
    rfl
  split at ht
  · cases ht; exact h.recompute hw
  · rename_i u hu
    split at hu
    · split at ht
      · rename_i hroom
        cases ht
        have hpool : u.pool = s.pool := by rw [(State.reserveAll_some hu).1]
        rw [hpool] at hroom
        refine h.handBack hw (h.setsAside_layDown sound hu hroom w.job) (fun l ho => ?_) hplan
        refine (State.carried_layDown w.job hu hroom l).trans ?_
        rw [if_pos ho]
        refine congrArg (s.carried l + ·) (congrArg List.sum (List.map_congr_left fun x _ => ?_))
        cases hjob : w.job with
        | skim r => rw [hjob] at ho; exact absurd ho nofun
        | lane m r => rw [(h.work w hw m r hjob).strokeValue]
      · cases ht
    · cases hu

end Sys2Proof.Machine
end

section
/-! PROOF. The accounts at every event (O13). -/

namespace Sys2Proof.Machine

/-- The accounts of the part while it runs. -/
def State.accounted (s : State) : Prop := s.phase = .running → s.Accounts

/-- What a step is given: the accounts, with the strokes and the stock in step. -/
structure State.Audited (s : State) : Prop where
  sound : s.phase = .running → s.Sound
  accounted : s.accounted

theorem accounts_requestsKeep : RequestsKeep State.Accounts State.accounted where
  portBefore _ _ _ h := h.of_sameBooks (.of_stores rfl rfl rfl rfl rfl)
  portAfter _ _ _ h hp := (h hp).of_sameBooks (.of_stores rfl rfl rfl rfl rfl)
  still _ h _ := h
  restarts _ _ := nofun
  performs _ r p payload h _ := h.performRequest r p payload

/-! ### Start-up -/

theorem startedUp_accounts (r : Retained) (pins : Pins) (q : List Instr) : (startedUp r pins q).Accounts := by
  have hrec : (startedUp r pins q).pool.records = [] := by rw [startedUp_eq]; rfl
  have hfree : (startedUp r pins q).planner.work = none := by rw [startedUp_eq]; rfl
  refine ⟨laneWorkFollows_startedUp r pins q, fun l => ?_, fun l c hc => ?_, by rw [hrec]; nofun,
    fun w hw => absurd (hfree.symm.trans hw) nofun, by rw [hrec]; nofun⟩
  · obtain ⟨-, hsale, -⟩ := startedUp_lane r pins q l
    rw [hsale]
    exact .of_idle _ _ _ _
  · obtain ⟨-, -, hslot⟩ := startedUp_lane r pins q l
    rw [hslot] at hc
    split at hc
    · exact absurd hc nofun
    · obtain rfl := Option.some.inj hc
      exact fun hne => absurd rfl hne

/-! ### The events -/

theorem State.sameBooks_shutPresenter (s : State) (l : Lane) (k : Kind) (occupied : Bool) :
    s.sameBooks (s.shutPresenter l k occupied) := by
  unfold State.shutPresenter
  split
  · exact .of_stores rfl rfl rfl rfl rfl
  · exact .refl s

theorem State.channelStroke_denom {s : State} {k : StoreId} {slot : SlotId} {r : Stroke} {d : Denom}
    (h : s.channelStroke k slot = some (r, d)) : (s.store k).denom = some d := by
  unfold State.channelStroke at h
  split at h
  · rename_i hd
    obtain ⟨-, rfl⟩ := Prod.mk.inj (Option.some.inj h)
    exact hd
  · exact absurd h nofun
  · exact absurd h nofun

variable {s t : State}

/-- An event of the running part that keeps the accounts. -/
theorem State.Audited.event {e : State → State} (h : s.Audited) (keeps : s.Sound → s.Accounts → (e s).Accounts)
    (ht : s.whileRunning e = .next t) : t.accounted :=
  State.whileRunning_keeps (fun hp _ => keeps (h.sound hp) (h.accounted hp)) (fun hp h => absurd h hp) ht

section
variable (h : s.Audited)
include h

/-- A sensor's report alone. -/
theorem State.Audited.withPins (pins : Pins) : ({ s with pins := pins }).Audited where
  sound hp := (h.sound hp).of_same rfl rfl rfl rfl rfl rfl
  accounted hp := (h.accounted hp).of_sameBooks (.of_stores rfl rfl rfl rfl rfl)

theorem State.Audited.managerKeyChange {l : Lane} {turned : Bool}
    (ht : execManagerKeyChange l turned s = .next t) : t.accounted := by
  unfold execManagerKeyChange at ht
  obtain rfl := Host.Outcome.next.inj ht
  exact (h.withPins _).accounted

theorem State.Audited.rehomeComplete {path : Kind} (ht : execRehomeComplete path s = .next t) : t.accounted := by
  unfold execRehomeComplete at ht
  refine h.event (fun _ ha => ?_) ht
  split
  · exact State.Accounts.finish (ha.of_sameBooks (.of_stores rfl rfl rfl rfl rfl))
  · exact ha

theorem State.Audited.headStrobe {l : Lane} {k : Kind} {code : ClassCode}
    (ht : execHeadStrobe l k code s = .next t) : t.accounted := by
  unfold execHeadStrobe at ht
  refine h.event (fun _ ha => ?_) ht
  split
  · exact ha.of_sameBooks (.of_stores rfl rfl rfl rfl rfl)
  · exact ha

theorem State.Audited.routeDecision {l : Lane} {k : Kind} (ht : execRouteDecision l k s = .next t) :
    t.accounted := by
  unfold execRouteDecision at ht
  refine h.event (fun _ ha => ?_) ht
  split
  · exact ha
  · exact ha.routeDecision _ _ _ _

theorem State.Audited.entryPulse {k : StoreId} (ht : execEntryPulse k s = .next t) : t.accounted := by
  unfold execEntryPulse at ht
  refine h.event (fun _ ha => ?_) ht
  split
  · exact (ha.confirmFill _ _ _).finish
  · exact (ha.strayEntry _).finish

theorem State.Audited.routeWindowExpiry {k : StoreId} (ht : execRouteWindowExpiry k s = .next t) :
    t.accounted := by
  unfold execRouteWindowExpiry at ht
  refine h.event (fun _ ha => ?_) ht
  split
  · refine State.Accounts.finish (State.Accounts.markUncertain (State.Accounts.of_sameBooks (ha.modStore_books _ ?_)
      (State.sameBooks_bookUnplaced _ _)) _)
    exact fun _ => ⟨rfl, rfl⟩
  · exact ha

theorem State.Audited.cassetteOut {k : StoreId} (ht : execCassetteOut k s = .next t) : t.accounted := by
  unfold execCassetteOut at ht
  have hpin : (s.setCassettePin k false).Audited := h.withPins _
  refine hpin.event (fun sound ha => ?_) ht
  split
  · exact ha
  · exact (ha.pullCassette sound.linked k).finish

theorem State.Audited.cassetteIn {k : StoreId} (ht : execCassetteIn k s = .next t) : t.accounted := by
  unfold execCassetteIn at ht
  have hpin : (s.setCassettePin k true).Audited := h.withPins _
  refine hpin.event (fun sound ha => ?_) ht
  split
  · refine State.Accounts.closeEvent (ha.modStore_books k ?_)
    exact fun _ => ⟨rfl, rfl⟩
  · exact ha

theorem State.Audited.emptyLevelReport {k : StoreId} (ht : execEmptyLevelReport k s = .next t) :
    t.accounted := by
  unfold execEmptyLevelReport at ht
  split at ht
  · obtain rfl := Host.Outcome.next.inj ht
    exact h.accounted
  · have hpin : (s.setLevelPin k true).Audited := h.withPins _
    exact hpin.event (fun _ ha => (ha.levelReported k).finish) ht

theorem State.Audited.emptyLevelNotEmpty {k : StoreId} (ht : execEmptyLevelNotEmpty k s = .next t) :
    t.accounted := by
  unfold execEmptyLevelNotEmpty at ht
  obtain rfl := Host.Outcome.next.inj ht
  exact (h.withPins _).accounted

/-- PIECE_PULSE (R16, R120, R122). -/
theorem State.Audited.piecePulse {k : StoreId} (ht : execPiecePulse k s = .next t) : t.accounted := by
  unfold execPiecePulse at ht
  refine h.event (fun sound ha => ?_) ht
  split
  · exact (ha.unbidden k).finish
  · rename_i slot ms hc
    split
    · rename_i r d hr
      obtain ⟨hmem, rfl, rfl, -⟩ := sound.channelStroke (by rw [hc]; rfl) hr
      exact (ha.drivePiece sound.linked sound.stocked hmem hc (State.channelStroke_denom hr)).closeEvent
    · exact ha
  · rename_i slot ms hc
    split
    · rename_i r d hr
      obtain ⟨hmem, -⟩ := sound.channelStroke (by rw [hc]; rfl) hr
      exact (ha.overPay sound.linked sound.stocked hmem k d).finish
    · exact ha

theorem State.Audited.afterRunWindowClose {k : StoreId} (ht : execAfterRunWindowClose k s = .next t) :
    t.accounted := by
  unfold execAfterRunWindowClose at ht
  refine h.event (fun sound ha => ?_) ht
  split
  · exact ha
  · exact ha
  · rename_i hc
    exact (ha.closeWindow sound.linked hc _).finish

theorem State.Audited.strokeDeadlineExpiry {k : StoreId} (ht : execStrokeDeadlineExpiry k s = .next t) :
    t.accounted := by
  unfold execStrokeDeadlineExpiry at ht
  refine h.event (fun sound ha => ?_) ht
  split
  · exact ha
  · exact ha
  · rename_i hc
    exact (ha.jam sound.linked hc).finish

theorem State.Audited.cashboxOut {k : Kind} (ht : execCashboxOut k s = .next t) : t.accounted := by
  unfold execCashboxOut at ht
  have hpin : (s.setBoxPin k false).Audited := h.withPins _
  refine hpin.event (fun sound ha => ?_) ht
  exact (ha.cashboxOut sound.linked k).finish

theorem State.Audited.cashboxIn {k : Kind} (ht : execCashboxIn k s = .next t) : t.accounted := by
  unfold execCashboxIn at ht
  have hpin : (s.setBoxPin k true).Audited := h.withPins _
  exact hpin.event (fun _ ha => (ha.modBox k _).closeEvent) ht

theorem State.Audited.strokeStart {path : Kind} (ht : execStrokeStart path s = .next t) : t.accounted := by
  unfold execStrokeStart at ht
  refine h.event (fun _ ha => ?_) ht
  split
  · exact ha
  · split
    · exact State.Accounts.closeEvent (ha.startStroke.of_sameBooks (.of_stores rfl rfl rfl rfl rfl))
    · exact ha

theorem State.Audited.diverterMoveComplete {path : Kind} (ht : execDiverterMoveComplete path s = .next t) :
    t.accounted := by
  unfold execDiverterMoveComplete at ht
  refine h.event (fun _ ha => ?_) ht
  split
  · exact ha
  · rename_i m _
    have hsame := (s.modPath path (fun a => { a with move := none, position := some m.dest })).startMove_frame path
    obtain ⟨-, -, -, hdenoms, -, hst, -, -, hlanes, -, hplan, hpool, -⟩ := hsame
    exact ha.of_sameBooks (.of_stores hlanes hplan hpool hdenoms hst)

theorem State.Audited.chuteSensorChange {l : Lane} {k : Kind} {occupied : Bool}
    (ht : execChuteSensorChange l k occupied s = .next t) : t.accounted := by
  unfold execChuteSensorChange at ht
  have hpin : (s.setChutePin l k occupied).Audited := h.withPins _
  exact hpin.event (fun _ ha => (ha.of_sameBooks (State.sameBooks_shutPresenter _ l k occupied)).closeIfClear.finish) ht

theorem State.Audited.presentTimerExpiry {l : Lane} (ht : execPresentTimerExpiry l s = .next t) :
    t.accounted := by
  unfold execPresentTimerExpiry at ht
  exact h.event (fun _ ha => (ha.expireTimer l).closeEvent) ht

theorem State.Audited.attemptCompletion (ht : execAttemptCompletion s = .next t) : t.accounted := by
  unfold execAttemptCompletion at ht
  split at ht
  · rename_i w hp hw
    split at ht
    · rename_i u hu
      obtain rfl := Host.Outcome.next.inj ht
      exact fun _ => ((h.accounted hp).completeAttempt (h.sound hp) hw hu).finish
    · exact absurd ht nofun
  all_goals
    obtain rfl := Host.Outcome.next.inj ht
    exact h.accounted

theorem exec_accounted (i : Instr) (ht : exec i s = .next t) : t.accounted := by
  have keep := accounts_requestsKeep
  have runs := h.accounted
  have idles : s.phase ≠ .running → s.accounted := fun hne hp => absurd hp hne
  cases i
  case unknownCode => exact keep.unknownCode runs idles ht
  case frameComplete => exact keep.frameComplete runs idles ht
  case interByteGapExpiry => exact keep.interByteGapExpiry runs idles ht
  case replyTransmitEnd => exact keep.replyTransmitEnd runs idles ht
  case byteReceived => exact keep.byteReceived runs idles ht
  case startUp => obtain rfl := Host.Outcome.next.inj ht; exact fun _ => startedUp_accounts _ _ _
  case powerLoss => obtain rfl := Host.Outcome.next.inj ht; exact nofun
  case rehomeComplete => exact h.rehomeComplete ht
  case managerKeyChange => exact h.managerKeyChange ht
  case headStrobe => exact h.headStrobe ht
  case routeDecision => exact h.routeDecision ht
  case entryPulse => exact h.entryPulse ht
  case routeWindowExpiry => exact h.routeWindowExpiry ht
  case cassetteOut => exact h.cassetteOut ht
  case cassetteIn => exact h.cassetteIn ht
  case emptyLevelReport => exact h.emptyLevelReport ht
  case emptyLevelNotEmpty => exact h.emptyLevelNotEmpty ht
  case piecePulse => exact h.piecePulse ht
  case afterRunWindowClose => exact h.afterRunWindowClose ht
  case strokeDeadlineExpiry => exact h.strokeDeadlineExpiry ht
  case cashboxOut => exact h.cashboxOut ht
  case cashboxIn => exact h.cashboxIn ht
  case strokeStart => exact h.strokeStart ht
  case diverterMoveComplete => exact h.diverterMoveComplete ht
  case chuteSensorChange => exact h.chuteSensorChange ht
  case presentTimerExpiry => exact h.presentTimerExpiry ht
  case attemptCompletion => exact h.attemptCompletion ht
  all_goals exact keep.requestArrives runs idles ht

end

end Sys2Proof.Machine

namespace Sys2Proof
open Machine

/-- Settles O13, command by command: a piece moves value from a sale's strokes to paid, a stroke that ends gives
what it has not delivered to owed or shortfall, and a plan's strokes and its shortfall are together its target
(`Snapshot.worth_lanePlan`). -/
theorem saleAccountsKept : Obligations.SaleAccountsKept := by
  rintro s t ⟨partition, lanes, follow, ⟨stock, -⟩, -, sales⟩ hstep
  have hsound : s.phase = .running → s.Sound := fun hp =>
    ⟨partition, lanes, follow, s.stockHeld_iff.mp (stock hp)⟩
  have hs : s.Audited := ⟨hsound, fun hp => State.accounts_of_follow hp lanes (hsound hp).stocked sales⟩
  suffices t.accounted from fun hp => (this hp).salesFollow hp
  unfold step at hstep
  split at hstep
  · obtain rfl := Host.Outcome.next.inj hstep
    exact hs.accounted
  · rename_i c rest _
    have hrest : (s.withPending rest).Audited := ⟨fun hp => (hs.sound hp).of_same rfl rfl rfl rfl rfl rfl,
      fun hp => (hs.accounted hp).of_sameBooks (.of_stores rfl rfl rfl rfl rfl)⟩
    exact exec_accounted hrest c hstep

end Sys2Proof
end

section
/-! PROOF. Events that find nothing to do (O3): each event acts under one case of a field it reads. -/

namespace Sys2Proof.Machine

/-- An event taken while the part runs answers what it makes of the state. -/
theorem State.whileRunning_eq_next {s t : State} {event : State → State} (hp : s.phase = .running)
    (h : event s = t) : s.whileRunning event = .next t := by
  rw [s.whileRunning_running event hp, h]

section
variable {s : State} (hp : s.phase = .running)
include hp

/-- On an EMPTY latch nothing is decided (R54). -/
theorem execRouteDecision_empty {l : Lane} {k : Kind} (h : (s.head l k).latch = none) :
    execRouteDecision l k s = .next s := State.whileRunning_eq_next hp (by simp only [h])

/-- With no fill pending no window runs out (R66). -/
theorem execRouteWindowExpiry_empty {k : StoreId} (h : (s.store k).fills = []) :
    execRouteWindowExpiry k s = .next s := State.whileRunning_eq_next hp (by simp only [h])

/-- A window closes on a channel in AFTER-RUN alone (R121). -/
theorem execAfterRunWindowClose_shut {k : StoreId} (h : ∀ slot ms, (s.store k).channel ≠ .afterRun slot ms) :
    execAfterRunWindowClose k s = .next s := by
  refine State.whileRunning_eq_next hp ?_
  split
  · rfl
  · rfl
  · rename_i hc; exact absurd hc (h _ _)

/-- A deadline runs out on a DRIVING channel alone (R125). -/
theorem execStrokeDeadlineExpiry_stopped {k : StoreId}
    (h : ∀ slot ms, (s.store k).channel ≠ .driving slot ms) : execStrokeDeadlineExpiry k s = .next s := by
  refine State.whileRunning_eq_next hp ?_
  split
  · rfl
  · rfl
  · rename_i hc; exact absurd hc (h _ _)

/-- An AVAILABLE path re-homes no more (R111). -/
theorem execRehomeComplete_available {k : Kind} (h : (s.path k).availability = .available) :
    execRehomeComplete k s = .next s := State.whileRunning_eq_next hp (by simp only [h])

/-- Where no move runs none ends (R117). -/
theorem execDiverterMoveComplete_still {k : Kind} (h : (s.path k).move = none) :
    execDiverterMoveComplete k s = .next s := State.whileRunning_eq_next hp (by simp only [h])

/-- With nothing latched nothing starts (R118). -/
theorem execStrokeStart_unlatched {k : Kind} (h : (s.path k).latch = none) :
    execStrokeStart k s = .next s := State.whileRunning_eq_next hp (by simp only [h])

/-- With no request in work nothing completes (R91). -/
theorem execAttemptCompletion_free (h : s.planner.work = none) : execAttemptCompletion s = .next s := by
  simp only [execAttemptCompletion, hp, h]

/-- A check byte is taken by a receiver that awaits it (R171). -/
theorem execFrameComplete_unawaited {p : Port} {check : Byte}
    (h : ∀ taken, (s.port p).receiver ≠ .check taken) : execFrameComplete p check s = .next s := by
  refine State.whileRunning_eq_next hp ?_
  split
  · rename_i hc; exact absurd hc (h _)
  · rfl
  · rfl
  · rfl

/-- A port that sends no reply ends none (R172). -/
theorem execReplyTransmitEnd_silent {p : Port} (h : (s.port p).sending = none) :
    execReplyTransmitEnd p s = .next s := State.whileRunning_eq_next hp (by simp only [h])

end

end Sys2Proof.Machine

namespace Sys2Proof
open Machine

/-- Settles O3, event by event. -/
theorem eventsThatCannotAriseChangeNothing : Obligations.EventsThatCannotAriseChangeNothing := fun _ hp =>
  ⟨fun _ _ => execRouteDecision_empty hp, fun _ => execRouteWindowExpiry_empty hp,
    fun _ => execAfterRunWindowClose_shut hp, fun _ => execStrokeDeadlineExpiry_stopped hp,
    fun _ => execRehomeComplete_available hp, fun _ => execDiverterMoveComplete_still hp,
    fun _ => execStrokeStart_unlatched hp, execAttemptCompletion_free hp,
    fun _ _ => execFrameComplete_unawaited hp, fun _ => execReplyTransmitEnd_silent hp⟩

end Sys2Proof
end

section
/-! PROOF. The entry of a piece on its way to a store, and the end of its window (O49). -/

namespace Sys2Proof.Machine

section
variable {s : State} {k : StoreId}

theorem execEntryPulse_fill {f : Fill} {rest : List Fill} (hp : s.phase = .running)
    (hf : (s.store k).fills = f :: rest) : execEntryPulse k s = .next (s.confirmFill k f rest).finish :=
  State.whileRunning_eq_next hp (by simp only [hf])

theorem execEntryPulse_stray (hp : s.phase = .running) (hf : (s.store k).fills = []) :
    execEntryPulse k s = .next (s.strayEntry k).finish :=
  State.whileRunning_eq_next hp (by simp only [hf])

theorem execRouteWindowExpiry_fill {f : Fill} {rest : List Fill} (hp : s.phase = .running)
    (hf : (s.store k).fills = f :: rest) : execRouteWindowExpiry k s =
      .next (((s.modStore k (fun x => { x with fills := rest })).bookUnplaced f).markUncertain k).finish :=
  State.whileRunning_eq_next hp (by simp only [hf])

theorem StoreState.countsFill_iff (x : StoreState) :
    x.countsFill = true ↔ x = .ready ∨ x = .uncertain ∨ x = .disabled := by
  cases x <;> decide

theorem StoreState.countsStray_iff (x : StoreState) : x.countsStray = true ↔ x ≠ .jammed ∧ x ≠ .absent := by
  cases x <;> decide

/-- A confirmed fill in a state that counts it (R65): below capacity it is counted and booked, at capacity the
store is marked. -/
theorem State.confirmFill_eq {f : Fill} {rest : List Fill} (hs : (s.store k).state.countsFill = true) :
    s.confirmFill k f rest =
      if (s.store k).physical < (s.store k).capacity then
        (s.setStore k { s.store k with fills := rest, physical := (s.store k).physical + 1 }).book
          f.counter.counter f.denom 1
      else (s.setStore k { s.store k with fills := rest }).markUncertain k := by
  unfold State.confirmFill
  simp only [hs, Bool.not_true, Bool.false_eq_true, if_false, State.modStore_modStore]
  rfl

/-- A stray entry where none is counted (R67). -/
theorem State.strayEntry_uncounted
    (h : (s.store k).denom = none ∨ (s.store k).state = .jammed ∨ (s.store k).state = .absent) :
    s.strayEntry k = s := by
  unfold State.strayEntry
  split
  · rfl
  · rename_i d hd
    have hs : (s.store k).state.countsStray = false := by
      rcases h with hnone | hjam | habs
      · exact absurd (hnone.symm.trans hd) nofun
      · rw [hjam]; rfl
      · rw [habs]; rfl
    simp only [hs, Bool.not_false, if_true]

/-- A stray entry in a state that counts it (R67). -/
theorem State.strayEntry_eq {d : Denom} (hd : (s.store k).denom = some d)
    (hs : (s.store k).state.countsStray = true) :
    s.strayEntry k =
      if (s.store k).physical < (s.store k).capacity then
        ((s.setStore k { s.store k with physical := (s.store k).physical + 1 }).bookAdjusted d
          1).markUncertain k
      else s.markUncertain k := by
  unfold State.strayEntry
  split
  · rename_i hnone; exact absurd (hd.symm.trans hnone) nofun
  · rename_i e he
    obtain rfl : e = d := Option.some.inj (he.symm.trans hd)
    simp only [hs, Bool.not_true, Bool.false_eq_true, if_false]
    rfl

end

end Sys2Proof.Machine

namespace Sys2Proof
open Machine

/-- Settles O49, by the cases of an entry pulse (`State.confirmFill_eq`, `State.strayEntry_eq`). -/
theorem fillIsConfirmedOrExpires : Obligations.FillIsConfirmedOrExpires := by
  refine ⟨fun s k hp => ?_, fun s k f rest hp hf => execRouteWindowExpiry_fill hp hf⟩
  refine ⟨fun f rest hf hs => ?_, fun hf => ⟨fun hno => ?_, fun d hd hjam habs => ?_⟩⟩
  · have hpulse : exec (.entryPulse k) s = _ := execEntryPulse_fill hp hf
    rw [hpulse, State.confirmFill_eq ((StoreState.countsFill_iff _).mpr hs)]
    exact ⟨fun hbelow => by rw [if_pos hbelow], fun hfull => by rw [if_neg (Nat.not_lt.mpr hfull)]⟩
  · have hpulse : exec (.entryPulse k) s = _ := execEntryPulse_stray hp hf
    rw [hpulse, State.strayEntry_uncounted hno]
  · have hpulse : exec (.entryPulse k) s = _ := execEntryPulse_stray hp hf
    rw [hpulse, State.strayEntry_eq hd ((StoreState.countsStray_iff _).mpr ⟨hjam, habs⟩)]
    exact ⟨fun hbelow => by rw [if_pos hbelow], fun hfull => by rw [if_neg (Nat.not_lt.mpr hfull)]⟩

end Sys2Proof
end

section
/-! SUPPORT. The store a route decision chooses (R57, R58): which stores are candidates, and which of them is
taken. -/

namespace Sys2Proof.Machine

/-- An open store of a denomination, as R59 words it. -/
theorem State.openStore_iff (s : State) (d : Denom) (j : StoreId) : s.openStore d j = true ↔
    (s.store j).denom = some d ∧ (s.store j).state = .ready ∧ (s.store j).fill = true ∧
      (s.store j).fills.length < 4 ∧ ∀ p x, (s.path p).latch = some x → x.store ≠ j := by
  rw [← s.startHeld_eq_false j]
  simp only [State.openStore, State.holds, Bool.and_eq_true, beq_iff_eq, decide_eq_true_eq,
    Bool.not_eq_true', and_assoc]
  rfl

theorem State.fillLimit_eq (s : State) (m : Mode) (j : StoreId) (d : Denom) : s.fillLimit m j d =
    if m = .load then (s.store j).capacity else min (s.store j).capacity (s.marks d).high := by
  cases m <;> rfl

/-- A candidate is an open store below its fill limit (R57). -/
theorem State.candidate_iff (s : State) (m : Mode) (d : Denom) (j : StoreId) : s.candidate m d j = true ↔
    s.openStore d j = true ∧ (s.store j).physical + (s.store j).fills.length <
      if m = .load then (s.store j).capacity else min (s.store j).capacity (s.marks d).high := by
  rw [← s.fillLimit_eq]
  simp only [State.candidate, Bool.and_eq_true, decide_eq_true_eq]
  rfl

/-- R58's order of two stores: the lower physical + fill pending, and of equals the lower number. -/
def State.notAfter (s : State) (j i : StoreId) : Prop :=
  (s.store j).expected < (s.store i).expected ∨
    ((s.store j).expected = (s.store i).expected ∧ j.val ≤ i.val)

theorem State.notAfter_antisymm {s : State} {j i : StoreId} (h : s.notAfter j i) (h' : s.notAfter i j) :
    j = i := by
  unfold State.notAfter at h h'
  exact Fin.ext (by omega)

theorem State.lowestOf_eq_none {s : State} {ks : List StoreId} : s.lowestOf ks = none ↔ ks = [] := by
  cases ks with
  | nil => simp [State.lowestOf]
  | cons k ks =>
    refine iff_of_false (fun h => ?_) (List.cons_ne_nil k ks)
    unfold State.lowestOf at h
    split at h
    · exact absurd h nofun
    · split at h <;> exact absurd h nofun

/-- Of stores in ascending number the first in R58's order is taken. -/
theorem State.lowestOf_some {s : State} {ks : List StoreId} (sorted : ks.Pairwise (fun a b => a.val ≤ b.val))
    {j : StoreId} (h : s.lowestOf ks = some j) : j ∈ ks ∧ ∀ i ∈ ks, s.notAfter j i := by
  induction ks generalizing j with
  | nil => exact absurd h nofun
  | cons k ks ih =>
    obtain ⟨hk, sorted⟩ := List.pairwise_cons.mp sorted
    unfold State.lowestOf at h
    split at h
    · rename_i hnone
      obtain rfl := Option.some.inj h
      obtain rfl := State.lowestOf_eq_none.mp hnone
      simp [State.notAfter]
    · rename_i j' hj'
      obtain ⟨hmem, hlow⟩ := ih sorted hj'
      split at h
      · rename_i hle
        obtain rfl := Option.some.inj h
        refine ⟨List.mem_cons_self, fun i hi => ?_⟩
        rcases List.mem_cons.mp hi with rfl | hi
        · exact .inr ⟨rfl, le_rfl⟩
        · have hji := hlow i hi
          have hki := hk i hi
          unfold State.notAfter at hji ⊢
          omega
      · rename_i hgt
        obtain rfl := Option.some.inj h
        refine ⟨List.mem_cons_of_mem _ hmem, fun i hi => ?_⟩
        rcases List.mem_cons.mp hi with rfl | hi
        · exact .inl (Nat.lt_of_not_le hgt)
        · exact hlow i hi

theorem allStores_sorted : allStores.Pairwise (fun a b => a.val ≤ b.val) := by decide

/-- Step 4 chooses the candidate that comes first (R58). -/
theorem State.chosenStore_eq_some {s : State} {m : Mode} {d : Denom} {j : StoreId}
    (hj : s.candidate m d j = true) (hfirst : ∀ i, s.candidate m d i = true → s.notAfter j i) :
    s.chosenStore m d = some j := by
  have hmem : j ∈ allStores.filter (s.candidate m d) := List.mem_filter.mpr ⟨mem_allStores j, hj⟩
  cases hc : s.chosenStore m d with
  | none => exact absurd (State.lowestOf_eq_none.mp hc) (List.ne_nil_of_mem hmem)
  | some i =>
    obtain ⟨hi, hlow⟩ := State.lowestOf_some (allStores_sorted.filter _) hc
    rw [State.notAfter_antisymm (hlow j hmem) (hfirst i (List.mem_filter.mp hi).2)]

/-- Step 4 chooses none where no store is a candidate. -/
theorem State.chosenStore_eq_none {s : State} {m : Mode} {d : Denom}
    (h : ∀ j, s.candidate m d j ≠ true) : s.chosenStore m d = none :=
  State.lowestOf_eq_none.mpr (List.filter_eq_nil_iff.mpr fun j _ => h j)

end Sys2Proof.Machine
end

section
/-! PROOF. The route decision (O48): the route of a latched report, step by step, and what each leaves. -/

namespace Sys2Proof.Machine

/-! ### The strobe and the latch (R52, R53) -/

section
variable {s : State} {l : Lane} {k : Kind} {code : ClassCode} (hp : s.phase = .running)
include hp

theorem execHeadStrobe_empty (h : (s.head l k).latch = none) : execHeadStrobe l k code s =
    .next (s.setHead l k { latch := some code, answer := none }) :=
  State.whileRunning_eq_next hp (by simp only [h])

theorem execHeadStrobe_full (h : (s.head l k).latch ≠ none) : execHeadStrobe l k code s = .next s := by
  obtain ⟨held, hheld⟩ := Option.ne_none_iff_exists'.mp h
  exact State.whileRunning_eq_next hp (by simp only [hheld])

/-- ROUTE_DECISION on a FULL latch: the route's changes, its answer driven and the latch emptied. -/
theorem execRouteDecision_full {r : Route} (hlatch : (s.head l k).latch = some code)
    (hr : s.route l k code = r) : execRouteDecision l k s =
      .next (r.close ((s.applyRoute l k r).setHead l k { latch := none, answer := some r.answer })) := by
  subst hr
  exact State.whileRunning_eq_next hp (by simp only [hlatch])

end

/-! ### The ordered steps (R54–R60) -/

/-- Steps 2 and 3 (R56). -/
theorem State.laneTakes_iff (s : State) (l : Lane) (v : Nat) : s.laneTakes l v = true ↔
    s.mode l = .load ∨
      (s.mode l = .serve ∧ (s.sale l).state = .tendering ∧ (s.sale l).tendered + v ≤ 131071) := by
  unfold State.laneTakes
  cases s.mode l with
  | closed => simp
  | load => simp
  | serve =>
    simp only [Bool.and_eq_true, beq_iff_eq, decide_eq_true_eq, reduceCtorEq, true_and, false_or]
    rfl

section
variable {s : State} {l : Lane} {k : Kind} {code : ClassCode}

theorem State.route_rejected (h : s.translate k code = none) : s.route l k code = .refuse := by
  simp only [State.route, h]

section
variable {d : Denom} (hd : s.translate k code = some d)
include hd

theorem State.route_disabled (he : s.enabled d = false) : s.route l k code = .refuse := by
  simp only [State.route, hd, he, Bool.not_false, if_true]

theorem State.route_barred (ht : s.laneTakes l (s.value d) = false) : s.route l k code = .refuse := by
  simp only [State.route, hd, ht, Bool.not_false, if_true, ite_self]

section
variable (he : s.enabled d = true) (ht : s.laneTakes l (s.value d) = true)
include he ht

/-- Step 4 (R57, R58). -/
theorem State.route_store {j : StoreId} (hj : s.chosenStore (s.mode l) d = some j) :
    s.route l k code = .store j d := by
  simp only [State.route, hd, he, ht, hj, Bool.not_true, Bool.false_eq_true, if_false]

/-- Step 5 (R60). -/
theorem State.route_box (hj : s.chosenStore (s.mode l) d = none) (hroom : 0 < s.space k) :
    s.route l k code = .cashbox d := by
  simp only [State.route, hd, he, ht, hj, hroom, Bool.not_true, Bool.false_eq_true, if_false, if_true]

/-- Step 6 (R60). -/
theorem State.route_noRoom (hj : s.chosenStore (s.mode l) d = none) (hroom : s.space k = 0) :
    s.route l k code = .noRoom := by
  simp only [State.route, hd, he, ht, hj, hroom, Bool.not_true, Bool.false_eq_true, if_false, lt_irrefl]

end
end

end

/-! ### What a route carries with it (R58–R62) -/

theorem State.creditIfServing_eq (s : State) (l : Lane) (v : Nat) :
    s.creditIfServing l v = if s.mode l = .serve then s.credit l v else s := by
  unfold State.creditIfServing
  cases s.mode l <;> rfl

theorem Mode.counter_eq (m : Mode) : m.counter = if m = .load then .loaded else .accepted := by
  cases m <;> rfl

theorem routeWindowMs_eq (k : Kind) : Config.routeWindowMs k = if k = .coin then 120 else 600 := by
  cases k <;> rfl

/-- The condition of SKIM_ADVISED at a piece that no store can take (R59). -/
def State.advises (s : State) (l : Lane) (d : Denom) : Bool :=
  s.mode l == .serve && allStores.any (s.openStore d)

theorem State.advises_iff (s : State) (l : Lane) (d : Denom) :
    s.advises l d = true ↔ s.mode l = .serve ∧ ∃ j, s.openStore d j = true := by
  simp only [State.advises, Bool.and_eq_true, beq_iff_eq, List.any_eq_true, mem_allStores, true_and]

theorem State.adviseSkim_eq (s : State) (l : Lane) (d : Denom) : s.adviseSkim l d =
    s.officeFlag .skimAdvised (s.officeNotices.flags.skimAdvised || s.advises l d) := by
  have hdef : s.adviseSkim l d = if s.advises l d = true then s.officeFlag .skimAdvised true else s := rfl
  rw [hdef]
  cases s.advises l d with
  | false => rw [Bool.or_false]; rfl
  | true => rw [Bool.or_true]; rfl

/-- A piece put in the cashbox of its kind and booked (R60, R62). -/
def State.boxPiece (s : State) (k : Kind) (c : FillCounter) (d : Denom) : State :=
  (s.modBox k (fun b => b.setCount d (b.countOf d + 1))).book c.counter d 1

section
variable (s : State) (k : Kind) (c : FillCounter) (d : Denom)

theorem State.boxPiece_onlyBooks :
    (s.modBox k (fun b => b.setCount d (b.countOf d + 1))).onlyBooks (s.boxPiece k c d) :=
  State.book_onlyBooks _ _ _ _

/-- The booking does not see the cashbox. -/
theorem State.boxPiece_totals : (s.boxPiece k c d).totals = (s.book c.counter d 1).totals :=
  (State.bookAll_congr [⟨c.counter, d, 1⟩] (s := s)
    (t := s.modBox k (fun b => b.setCount d (b.countOf d + 1))) rfl rfl).1

theorem State.inexactFollows_boxPiece :
    s.inexactFollows (s.boxPiece k c d) (4294967295 < (s.counters d).get c.counter + 1) := by
  obtain ⟨hinexact, hflag⟩ :=
    (s.modBox k (fun b => b.setCount d (b.countOf d + 1))).book_inexact c.counter d 1
  refine ⟨hinexact, hflag, ?_⟩
  obtain ⟨_, _, _, h⟩ := s.boxPiece_onlyBooks k c d
  rw [h]
  rfl

/-- What a piece in the cashbox leaves: SKIM_ADVISED by R59 beside the booking. -/
theorem State.adviseSkim_boxPiece (l : Lane) : (s.boxPiece k c d).adviseSkim l d =
    (s.boxPiece k c d).officeFlag .skimAdvised
      (s.officeNotices.flags.skimAdvised || s.advises l d) := by
  rw [State.adviseSkim_eq]
  obtain ⟨_, _, _, h⟩ := s.boxPiece_onlyBooks k c d
  rw [h]
  rfl

/-- Without the advice the booking stands alone. -/
theorem State.boxPiece_unadvised (v : Bool) : ((s.boxPiece k c d).officeFlag .skimAdvised v).officeFlag
    .skimAdvised s.officeNotices.flags.skimAdvised = s.boxPiece k c d := by
  obtain ⟨_, _, _, h⟩ := s.boxPiece_onlyBooks k c d
  rw [h]
  rfl

end

section
variable (s : State) (l : Lane) (k : Kind) (d : Denom)

theorem State.applyRoute_store (j : StoreId) : s.applyRoute l k (.store j d) =
    let t := s.setStore j { s.store j with fills := (s.store j).fills ++
      [{ denom := d, counter := (s.mode l).counter, windowMs := Config.routeWindowMs k }] }
    if s.mode l = .serve then t.credit l (s.value d) else t :=
  State.creditIfServing_eq _ l (s.value d)

theorem State.applyRoute_cashbox : s.applyRoute l k (.cashbox d) =
    let u := (s.boxPiece k (s.mode l).counter d).adviseSkim l d
    if s.mode l = .serve then u.credit l (s.value d) else u := by
  have hmode : ((s.boxPiece k (s.mode l).counter d).adviseSkim l d).mode l = s.mode l := by
    rw [State.adviseSkim_boxPiece]
    obtain ⟨_, _, _, h⟩ := s.boxPiece_onlyBooks k (s.mode l).counter d
    rw [h]
    rfl
  have hcredit := ((s.boxPiece k (s.mode l).counter d).adviseSkim l d).creditIfServing_eq l (s.value d)
  rw [hmode] at hcredit
  exact hcredit

end

end Sys2Proof.Machine

namespace Sys2Proof
open Machine

/-- Settles O48: the latch by its two states, and a latched report by the step that decides its route, with
R57 to R59 in the model's words (`State.candidate_iff`, `State.openStore_iff`). -/
theorem reportIsLatchedAndRouted : Obligations.ReportIsLatchedAndRouted := by
  refine ⟨fun s l k code hp => ⟨execHeadStrobe_empty hp, execHeadStrobe_full hp⟩,
    fun s l k code hp hlatch => ?_⟩
  have hrun {r : Route} (hr : s.route l k code = r) : exec (.routeDecision l k) s = _ :=
    execRouteDecision_full hp hlatch hr
  refine ⟨fun hentry => ?_, fun d hd he => ?_⟩
  · rcases hentry with hnone | ⟨d, hd, he⟩
    · exact hrun (State.route_rejected hnone)
    · exact hrun (State.route_disabled hd he)
  simp only [← State.openStore_iff, ← State.candidate_iff, ← State.laneTakes_iff, ← Mode.counter_eq,
    ← routeWindowMs_eq]
  refine ⟨fun hbarred => ?_, fun hin j hj hfirst => ?_, fun hin hnone hroom => ?_, fun hin hnone hfull => ?_⟩
  · exact hrun (State.route_barred hd (Bool.eq_false_of_not_eq_true hbarred))
  · rw [hrun (State.route_store hd he hin (State.chosenStore_eq_some hj hfirst)), State.applyRoute_store]
    rfl
  · refine ⟨(s.boxPiece k (s.mode l).counter d).adviseSkim l d, ?_, ?_⟩
    · rw [hrun (State.route_box hd he hin (State.chosenStore_eq_none hnone) hroom), State.applyRoute_cashbox]
      rfl
    · have hbooks := s.boxPiece_onlyBooks k (s.mode l).counter d
      rw [State.adviseSkim_boxPiece, ← State.advises_iff, ← Bool.or_eq_true]
      refine ⟨hbooks.boxes, s.boxPiece_totals k _ d, Iff.rfl, ?_, ?_⟩
      · rw [State.boxPiece_unadvised]
        exact s.inexactFollows_boxPiece k _ d
      · obtain ⟨_, _, _, h⟩ := hbooks
        rw [h]
        rfl
  · exact hrun (State.route_noRoom hd he hin (State.chosenStore_eq_none hnone) hfull)

end Sys2Proof
end

section
/-! PROOF. The request the planner takes next, and the snapshot it plans from (O23). -/

namespace Sys2Proof.Machine

/-! ### The next request (R73) -/

/-- The request that waits in a lane's slot is of some class. -/
def State.laneWaits (s : State) (isClass : LaneRequest → Bool) (l : Lane) : Prop :=
  ∃ r, s.planner.waitingLane.get l = some r ∧ isClass r = true

/-- The lane chosen among those of a class: the one not last served before the other (R73). -/
theorem State.laneWaiting_eq (s : State) (isClass : LaneRequest → Bool) [DecidablePred (s.laneWaits isClass)] :
    s.laneWaiting isClass =
      if s.laneWaits isClass s.planner.lastServed.other then some s.planner.lastServed.other
      else if s.laneWaits isClass s.planner.lastServed then some s.planner.lastServed else none := by
  have hwaits : ∀ l, (match s.planner.waitingLane.get l with
      | some r => isClass r
      | none => false) = true ↔ s.laneWaits isClass l := fun l => by
    unfold State.laneWaits
    cases s.planner.waitingLane.get l <;> simp
  have hother : s.planner.lastServed.other.other = s.planner.lastServed := by
    cases s.planner.lastServed <;> rfl
  unfold State.laneWaiting
  simp only [hother]
  exact if_congr (hwaits _) rfl (if_congr (hwaits _) rfl rfl)

section
variable {s : State} {isClass : LaneRequest → Bool}

theorem State.laneWaiting_eq_none (h : ∀ l, ¬s.laneWaits isClass l) : s.laneWaiting isClass = none := by
  classical
  rw [s.laneWaiting_eq isClass, if_neg (h _), if_neg (h _)]

/-- A waiting lane is chosen where the other does not wait or was served last. -/
theorem State.laneWaiting_eq_some {l : Lane} (hl : s.laneWaits isClass l)
    (hturn : ¬s.laneWaits isClass l.other ∨ s.planner.lastServed = l.other) : s.laneWaiting isClass = some l := by
  classical
  rw [s.laneWaiting_eq isClass]
  have hcases : s.planner.lastServed = l ∨ s.planner.lastServed = l.other := by
    cases l <;> cases s.planner.lastServed <;> decide
  rcases hcases with hlast | hlast
  · have hother : ¬s.laneWaits isClass l.other := hturn.resolve_right (by rw [hlast]; cases l <;> decide)
    rw [hlast, if_neg hother, if_pos hl]
  · have hself : s.planner.lastServed.other = l := by rw [hlast]; cases l <;> rfl
    rw [hself, if_pos hl]

end

section
variable {s : State}

theorem State.laneWaits_makeup (l : Lane) :
    s.laneWaits (· == .makeup) l ↔ s.planner.waitingLane.get l = some .makeup := by
  simp [State.laneWaits]

theorem State.laneWaits_first (l : Lane) : s.laneWaits (· != .makeup) l ↔
    s.planner.waitingLane.get l = some .settle ∨ s.planner.waitingLane.get l = some .refund := by
  unfold State.laneWaits
  constructor
  · rintro ⟨r, hr, hclass⟩
    cases r with
    | settle => exact .inl hr
    | refund => exact .inr hr
    | makeup => exact absurd hclass (by decide)
  · rintro (h | h)
    · exact ⟨_, h, rfl⟩
    · exact ⟨_, h, rfl⟩

theorem State.laneWaits_empty (h : ∀ l, s.planner.waitingLane.get l = none) (isClass : LaneRequest → Bool)
    (l : Lane) : ¬s.laneWaits isClass l := by
  rintro ⟨r, hr, -⟩
  rw [h l] at hr
  exact absurd hr nofun

theorem State.nextJob_makeup {l : Lane} (h : s.laneWaiting (· == .makeup) = some l) :
    s.nextJob = some (.lane l .makeup) := by
  simp only [State.nextJob, h]

theorem State.nextJob_first {l : Lane} {r : LaneRequest} (hmakeup : s.laneWaiting (· == .makeup) = none)
    (h : s.laneWaiting (· != .makeup) = some l) (hr : s.planner.waitingLane.get l = some r) :
    s.nextJob = some (.lane l r) := by
  simp only [State.nextJob, hmakeup, h, hr, Option.map_some]

theorem State.nextJob_skim (h : ∀ l, s.planner.waitingLane.get l = none) :
    s.nextJob = s.planner.waitingSkim.map .skim := by
  simp only [State.nextJob, State.laneWaiting_eq_none (State.laneWaits_empty h _)]

theorem State.takeNext_working (h : s.planner.work ≠ none) : s.takeNext = s := by
  obtain ⟨w, hw⟩ := Option.ne_none_iff_exists'.mp h
  simp only [State.takeNext, hw]

theorem State.takeNext_some {job : Job} (hfree : s.planner.work = none) (h : s.nextJob = some job) :
    s.takeNext = s.takeJob job := by
  simp only [State.takeNext, hfree, h]

theorem State.takeNext_none (h : s.nextJob = none) : s.takeNext = s := by
  cases hw : s.planner.work with
  | some w => exact State.takeNext_working (by rw [hw]; nofun)
  | none => simp only [State.takeNext, hw, h]

end

/-! ### The snapshot (R74) -/

/-- The busy stores are those that carry a live stroke of the owner, on either path (R74, R88). -/
theorem State.mem_busyStores (s : State) (o : Owner) (k : StoreId) :
    k ∈ s.busyStores o ↔ ∃ q ∈ s.pool.records, q.owner = o ∧ q.store = k := by
  simp [State.busyStores, and_assoc]

theorem State.snapStore_eq (s : State) (k : StoreId) : s.snapStore k =
    { state := (s.store k).state, denom := (s.store k).denom, pay := (s.store k).pay
      free := if (s.store k).state = .ready ∨ (s.store k).state = .paying
        then (s.store k).physical - (s.store k).reserved else 0 } :=
  congrArg (SnapStore.mk _ _ _) (s.store k).free_eq

theorem State.snapDenom_eq (s : State) (d : Denom) : s.snapDenom d =
    { value := (s.denom d).value, kind := (s.denom d).kind
      enabled := (s.denom d).enabled && (s.denom d).value != 0
      low := s.active[d].low, target := s.active[d].target } :=
  congrArg (SnapDenom.mk _ _ · _ _) (Bool.and_comm _ _)

end Sys2Proof.Machine

namespace Sys2Proof
open Machine

/-- Settles O23: the snapshot field by field, and the next request by its class and the lane's turn
(`State.laneWaiting_eq_some`). -/
theorem plannerTakesByClassAndTurn : Obligations.PlannerTakesByClassAndTurn := by
  refine ⟨fun s job target => ⟨fun k => ?_, fun d => ?_, s.snapshot_space job target, ?_⟩, fun s =>
    ⟨State.takeNext_working, fun hfree => ⟨fun l hl hturn => ?_, fun l r hnone hl hr hturn => ?_,
      fun q hnone hq => ?_, fun hnone hq => ?_⟩⟩⟩
  · rw [s.snapshot_store, s.snapStore_eq]
  · rw [s.snapshot_denom, s.snapDenom_eq]
  · rintro l r rfl
    exact ⟨rfl, rfl, rfl, rfl, s.mem_busyStores (.lane l)⟩
  · simp only [← State.laneWaits_makeup] at hl hturn
    exact State.takeNext_some hfree (State.nextJob_makeup (State.laneWaiting_eq_some hl hturn))
  · simp only [← State.laneWaits_makeup] at hnone
    simp only [← State.laneWaits_first] at hl hturn
    rw [State.takeNext_some hfree (State.nextJob_first (State.laneWaiting_eq_none hnone)
      (State.laneWaiting_eq_some hl hturn) hr)]
    cases r with
    | settle => rfl
    | refund => rfl
    | makeup => exact absurd ((State.laneWaits_makeup l).mpr hr) (hnone l)
  · rw [State.takeNext_some hfree ((State.nextJob_skim hnone).trans (congrArg _ hq))]
    rfl
  · exact State.takeNext_none ((State.nextJob_skim hnone).trans (congrArg _ hq))

end Sys2Proof
end

section
/-! PROOF. Rounded change (R77), and a piece credited to a sale (O26). -/

namespace Sys2Proof.Machine

/-! ### Rounding (R77) -/

theorem roundChange_down {u c : Nat} (h : 2 * (c % u) < u) : roundChange u c = c - c % u := if_pos h

theorem roundChange_up {u c : Nat} (h : u ≤ 2 * (c % u)) : roundChange u c = c - c % u + u :=
  if_neg (Nat.not_lt.mpr h)

theorem roundChange_one (c : Nat) : roundChange 1 c = c := by
  rw [roundChange_down] <;> simp [Nat.mod_one]

/-- No change within a sale's range is rounded out of it: the range ends at a multiple of each unit. -/
theorem roundChange_le {u c : Nat} (hu : u = 1 ∨ u = 5 ∨ u = 10) (hc : c ≤ 131070) :
    roundChange u c ≤ 131070 := by
  unfold roundChange
  rcases hu with rfl | rfl | rfl <;> split <;> omega

/-! ### A credited piece (R33, R61) -/

/-- A settle of a sale with its due, as R34 and R35 give it. -/
theorem State.beginSettle_eq (s : State) (l : Lane) :
    let target := roundChange s.limits.roundingUnit ((s.sale l).tendered - (s.sale l).due)
    s.beginSettle l = if target = 0 then
        (s.setSale l { s.sale l with targetKind := .change, target := 0, lastResult := .exact }).closeSale l .paid
      else ((s.setSale l { s.sale l with targetKind := .change, target := target, state := .planning }).laneFlag l
        .tenderReached false).placeLane l (some .settle) := rfl

/-- A credited piece raises tendered, and the one that brings it to the due acts. -/
theorem State.credit_eq (s : State) (l : Lane) (v : Nat) :
    let t := s.setSale l { s.sale l with tendered := (s.sale l).tendered + v }
    s.credit l v =
      if (s.sale l).tendered < (s.sale l).due ∧ (s.sale l).due ≤ (s.sale l).tendered + v then
        if (s.sale l).autoSettle = true then t.beginSettle l else t.laneFlag l .tenderReached true
      else t := rfl

end Sys2Proof.Machine

namespace Sys2Proof
open Machine

/-- Settles O26, by the remainder of the change and by whether an addition reaches the due. -/
theorem changeIsRoundedAndCreditActsAtTheDue : Obligations.ChangeIsRoundedAndCreditActsAtTheDue := by
  refine ⟨⟨fun u c => roundChange_down, fun u c => roundChange_up, roundChange_one, by decide, by decide,
    by decide, by decide, by decide, by decide, fun u c => roundChange_le⟩, fun s l v => ?_⟩
  dsimp only
  rw [s.credit_eq l v]
  refine ⟨fun hstays => if_neg hstays, fun hreaches hnotifies => ?_, fun hreaches hsettles => ?_⟩
  · rw [if_pos hreaches, if_neg (Bool.not_eq_true _ ▸ hnotifies)]
  · rw [if_pos hreaches, if_pos hsettles, State.beginSettle_eq, State.sale_setSale_self]
    exact ⟨fun hzero => if_pos hzero, fun hsome => if_neg hsome⟩

end Sys2Proof
end

section
/-! PROOF. WRITE LIMITS (O41): every setting clamped, and the cashboxes' capacities raised to what they hold. -/

namespace Sys2Proof.Machine

/-- The limits and the cashboxes as WRITE LIMITS leaves them while both lanes are CLOSED (R81). -/
def State.limited (s : State) (limits : Limits) (coins notes : Nat) : State :=
  { s with
    limits := limits
    boxes :=
      { coin := { s.box .coin with capacity := (s.box .coin).heldCapacity .coin coins }
        note := { s.box .note with capacity := (s.box .note).heldCapacity .note notes } } }

theorem State.limitBytes_closeEvent (s : State) : s.closeEvent.limitBytes = s.limitBytes := by
  simp only [State.limitBytes, State.box, State.closeEvent_limits, State.closeEvent_boxes]

theorem State.limited_eq (s : State) (limits : Limits) (coins notes : Nat) :
    ({ s with limits := limits }.modBox .coin (fun b => { b with capacity := b.heldCapacity .coin coins })).modBox
      .note (fun b => { b with capacity := b.heldCapacity .note notes }) = s.limited limits coins notes := rfl

theorem writeLimits_open {s : State} (h : s.bothClosed = false) (coins notes u t1 t0 c1 c0 n1 n0 : Byte) :
    writeLimits [coins, notes, u, t1, t0, c1, c0, n1, n0] s = (s, refuse .state) := by
  simp [writeLimits, h]

/-- WRITE LIMITS while both lanes are CLOSED: what it writes, and the reply with the values as held. -/
theorem writeLimits_closed {s : State} (h : s.bothClosed = true) (coins notes u t1 t0 c1 c0 n1 n0 : Byte) :
    let t := s.limited
      { coinLimit := clampTo 1 60 coins.toNat, noteLimit := clampTo 1 30 notes.toNat
        roundingUnit := nearestUnit u.toNat
        presentTimeout := clampTo 10 300 (t1.toNat * 256 + t0.toNat) }
      (c1.toNat * 256 + c0.toNat) (n1.toNat * 256 + n0.toNat)
    writeLimits [coins, notes, u, t1, t0, c1, c0, n1, n0] s = (t.closeEvent, answer t.limitBytes) := by
  simp only [writeLimits, h, Bool.not_true, Bool.false_eq_true, if_false, numberOf_two, State.limited_eq,
    State.limitBytes_closeEvent]

end Sys2Proof.Machine

namespace Sys2Proof
open Machine

/-- Settles O41, by the modes of the lanes and the clamps of each value (`writeLimits_closed`). -/
theorem writeLimitsClampsEveryValue : Obligations.WriteLimitsClampsEveryValue := by
  intro s coins notes u t1 t0 c1 c0 n1 n0 ht
  have hrun : exec (.writeLimits .office [coins, notes, u, t1, t0, c1, c0, n1, n0]) s =
      (writeLimits [coins, notes, u, t1, t0, c1, c0, n1, n0] s).1.answered .office 0x2B
        (writeLimits [coins, notes, u, t1, t0, c1, c0, n1, n0] s).2 :=
    office_performed .writeLimits _ s ht rfl rfl (by decide)
  dsimp only
  rw [hrun, ← s.bothClosed_iff]
  refine ⟨fun hopen => ?_, fun h1 h2 => ?_⟩
  · rw [writeLimits_open (Bool.eq_false_of_not_eq_true hopen)]
  · rw [writeLimits_closed (s.bothClosed_iff.mpr ⟨h1, h2⟩)]
    rfl

end Sys2Proof
end

section
/-! SUPPORT. The candidates of a pass as the rules word them (R82, R83): greedy fills, retreats and the best of
those made. -/

namespace Sys2Proof.Machine

/-! ### What counts are worth, and the pieces they take of a budget -/

theorem worthOf_cons (p : Stocked) (ps : List Stocked) (count : Nat) (counts : List Nat) :
    worthOf (p :: ps) (count :: counts) = count * p.value + worthOf ps counts := by
  simp [worthOf]

theorem countedOf_cons (k : Kind) (p : Stocked) (ps : List Stocked) (count : Nat) (counts : List Nat) :
    countedOf k (p :: ps) (count :: counts) = (if p.kind = k then count else 0) + countedOf k ps counts := by
  by_cases h : p.kind = k <;> simp [countedOf, h]

theorem Budgets.of_less (b : Budgets) (j k : Kind) (count : Nat) :
    (b.less j count).of k = b.of k - if j = k then count else 0 := by
  cases j <;> cases k <;> rfl

/-- The stocks of a pass are worth the whole stock of R83's first step. -/
theorem worthOf_stocks (ps : List Stocked) : worthOf ps (ps.map (·.stock)) = stockValue ps := by
  induction ps with
  | nil => rfl
  | cons p ps ih =>
    rw [List.map_cons, worthOf_cons, ih]
    simp [stockValue]

theorem Fills.length_eq {ps : List Stocked} {counts : List Nat} {amount left : Nat}
    (h : Fills ps counts amount left) : counts.length = ps.length := by
  induction h with
  | nil => rfl
  | cons _ _ _ ih => exact congrArg (· + 1) ih

theorem Fills.left_eq {ps : List Stocked} {counts : List Nat} {amount left : Nat}
    (h : Fills ps counts amount left) : left = amount - worthOf ps counts := by
  induction h with
  | nil => rfl
  | cons _ _ _ ih => rw [worthOf_cons, ← Nat.sub_sub]; exact ih

/-! ### Greedy fills (R82) -/

/-- A fill of positions is its first count, greedy where the fill begins there, and a fill of the others. -/
theorem isFill_cons {p : Stocked} {ps : List Stocked} {target : Nat} {b : Budgets} {start count : Nat}
    {counts : List Nat} : isFill (p :: ps) target b start (count :: counts) ↔
      (start = 0 → count = min p.stock (min (target / p.value) (b.of p.kind))) ∧
      isFill ps (target - count * p.value) (b.less p.kind count) (start - 1) counts := by
  have hbehind : ∀ i (q : Stocked),
      min q.stock (min ((target - worthOf (p :: ps) ((count :: counts).take (i + 1))) / q.value)
        (b.of q.kind - countedOf q.kind (p :: ps) ((count :: counts).take (i + 1)))) =
      min q.stock (min ((target - count * p.value - worthOf ps (counts.take i)) / q.value)
        ((b.less p.kind count).of q.kind - countedOf q.kind ps (counts.take i))) := fun i q => by
    rw [List.take_succ_cons, worthOf_cons, countedOf_cons, Budgets.of_less, Nat.sub_sub, Nat.sub_sub]
  constructor
  · rintro ⟨hlength, hcounts⟩
    refine ⟨fun hstart => ?_, Nat.succ.inj hlength, fun i q hi hq => ?_⟩
    · exact Option.some.inj (hcounts 0 p (Nat.le_of_eq hstart) rfl)
    · rw [← hbehind]
      exact hcounts (i + 1) q (by omega) hq
  · rintro ⟨hfirst, hlength, hcounts⟩
    refine ⟨congrArg (· + 1) hlength, fun i q hi hq => ?_⟩
    cases i with
    | zero =>
      obtain rfl := Option.some.inj hq
      exact congrArg some (hfirst (Nat.le_zero.mp hi))
    | succ i =>
      rw [hbehind]
      exact hcounts i q (by omega) hq

theorem greedyFill_isFill (ps : List Stocked) (target : Nat) (b : Budgets) :
    isFill ps target b 0 (greedyFill ps target b).counts := by
  induction ps generalizing target b with
  | nil => exact ⟨rfl, fun _ _ _ h => absurd h (by simp)⟩
  | cons p ps ih => exact isFill_cons.mpr ⟨fun _ => rfl, ih _ _⟩

theorem greedyFill_counted (k : Kind) (ps : List Stocked) (target : Nat) (b : Budgets) :
    countedOf k ps (greedyFill ps target b).counts ≤ b.of k := by
  induction ps generalizing target b with
  | nil => exact Nat.zero_le _
  | cons p ps ih =>
    unfold greedyFill
    dsimp only
    rw [countedOf_cons]
    refine (Nat.add_le_add_left (ih _ _) _).trans ?_
    rw [Budgets.of_less]
    split
    · rename_i hk
      subst hk
      omega
    · omega

theorem fillBehind_isFill {ps : List Stocked} {kept : List Nat} (h : kept.length ≤ ps.length) (target : Nat)
    (b : Budgets) : isFill ps target b kept.length (fillBehind ps kept target b).counts := by
  induction kept generalizing ps target b with
  | nil => unfold fillBehind; exact greedyFill_isFill ps target b
  | cons count kept ih =>
    cases ps with
    | nil => exact absurd h (Nat.not_succ_le_zero _)
    | cons p ps => exact isFill_cons.mpr ⟨nofun, ih (Nat.le_of_succ_le_succ h) _ _⟩

theorem fillBehind_keeps {ps : List Stocked} {kept : List Nat} (h : kept.length ≤ ps.length) (target : Nat)
    (b : Budgets) : ∃ behind, (fillBehind ps kept target b).counts = kept ++ behind := by
  induction kept generalizing ps target b with
  | nil => exact ⟨_, rfl⟩
  | cons count kept ih =>
    cases ps with
    | nil => exact absurd h (Nat.not_succ_le_zero _)
    | cons p ps =>
      obtain ⟨behind, hbehind⟩ := ih (Nat.le_of_succ_le_succ h) (target - count * p.value) (b.less p.kind count)
      exact ⟨behind, congrArg (count :: ·) hbehind⟩

theorem fillBehind_counted {k : Kind} {ps : List Stocked} {kept : List Nat} {b : Budgets}
    (h : countedOf k ps kept ≤ b.of k) (target : Nat) :
    countedOf k ps (fillBehind ps kept target b).counts ≤ b.of k := by
  induction kept generalizing ps target b with
  | nil => unfold fillBehind; exact greedyFill_counted k ps target b
  | cons count kept ih =>
    cases ps with
    | nil => exact Nat.zero_le _
    | cons p ps =>
      rw [countedOf_cons] at h
      unfold fillBehind
      dsimp only
      rw [countedOf_cons]
      have hbehind := ih (ps := ps) (b := b.less p.kind count) (by rw [Budgets.of_less]; omega)
        (target - count * p.value)
      rw [Budgets.of_less] at hbehind
      omega

/-! ### Retreats (R83) -/

/-- A retreat lowers the last count above 0 before the last position. -/
theorem retreat_eq_some {counts kept : List Nat} (h : retreat counts = some kept) : ∃ earlier n zeros,
    counts.dropLast = earlier ++ n :: zeros ∧ n ≠ 0 ∧ (∀ m ∈ zeros, m = 0) ∧ kept = earlier ++ [n - 1] := by
  unfold retreat at h
  cases hd : counts.dropLast.reverse.dropWhile (· == 0) with
  | nil => rw [hd] at h; exact absurd h nofun
  | cons n earlier =>
    rw [hd] at h
    obtain rfl := Option.some.inj h
    obtain ⟨zeros, hzeros, hsplit⟩ :
        ∃ zeros, (∀ m ∈ zeros, m = 0) ∧ zeros ++ n :: earlier = counts.dropLast.reverse :=
      ⟨_, fun m hm => by simpa using List.mem_takeWhile_imp hm, hd ▸ List.takeWhile_append_dropWhile⟩
    refine ⟨earlier.reverse, n, zeros.reverse, ?_, fun hn => ?_, fun m hm => hzeros m (List.mem_reverse.mp hm),
      List.reverse_cons⟩
    · rw [← List.reverse_reverse counts.dropLast, ← hsplit]
      simp
    · have hhead := List.dropWhile_get_zero_not (· == 0) counts.dropLast.reverse (by rw [hd]; simp)
      exact hhead (by simp [hd, hn])

theorem retreat_eq_none {counts : List Nat} (h : retreat counts = none) : ∀ m ∈ counts.dropLast, m = 0 := by
  unfold retreat at h
  cases hd : counts.dropLast.reverse.dropWhile (· == 0) with
  | nil => exact fun m hm => beq_iff_eq.mp (List.dropWhile_eq_nil_iff.mp hd m (List.mem_reverse.mpr hm))
  | cons n earlier => rw [hd] at h; exact absurd h nofun

/-- A candidate within its stock, its target and its budgets. -/
structure Candidate.Fits (c : Candidate) (ps : List Stocked) (target : Nat) (b : Budgets) : Prop where
  fills : c.Fills ps target
  counted : ∀ k, countedOf k ps c.counts ≤ b.of k

section
variable {c : Candidate} {ps : List Stocked} {target : Nat} {b : Budgets}

theorem Candidate.Fits.remainder_eq (h : c.Fits ps target b) : c.remainder = target - worthOf ps c.counts :=
  h.fills.left_eq

theorem greedyFill_fits (ps : List Stocked) (target : Nat) (b : Budgets) :
    (greedyFill ps target b).Fits ps target b :=
  ⟨greedyFill_fills ps target b, fun k => greedyFill_counted k ps target b⟩

theorem countedOf_lowered (k : Kind) (ps : List Stocked) (earlier later : List Nat) (n : Nat) :
    countedOf k ps (earlier ++ [n - 1]) ≤ countedOf k ps (earlier ++ n :: later) := by
  induction ps generalizing earlier with
  | nil => exact Nat.zero_le _
  | cons p ps ih =>
    cases earlier with
    | nil =>
      rw [List.nil_append, List.nil_append, countedOf_cons, countedOf_cons]
      have hnil : countedOf k ps [] = 0 := by simp [countedOf]
      split <;> omega
    | cons m earlier =>
      rw [List.cons_append, List.cons_append, countedOf_cons, countedOf_cons]
      exact Nat.add_le_add_left (ih earlier) _

/-- The candidate made after a retreat fits too, and is one retreat further (R83, step 3). -/
theorem Candidate.Fits.retreat (h : c.Fits ps target b) {kept : List Nat} (hkept : retreat c.counts = some kept) :
    (fillBehind ps kept target b).Fits ps target b ∧
      isRetreat ps target b c.counts (fillBehind ps kept target b).counts := by
  obtain ⟨earlier, n, zeros, hfront, hn, hzeros, rfl⟩ := retreat_eq_some hkept
  obtain ⟨last, hlast⟩ := List.dropLast_prefix c.counts
  have hcounts : c.counts = earlier ++ n :: (zeros ++ last) := by rw [← hlast, hfront]; simp
  have hlength : (earlier ++ n :: zeros).length = ps.length - 1 := by
    rw [← hfront, List.length_dropLast, h.fills.length_eq]
  rw [List.length_append, List.length_cons] at hlength
  have hshort : (earlier ++ [n - 1]).length ≤ ps.length := by simp; omega
  obtain ⟨behind, hbehind⟩ := fillBehind_keeps hshort target b
  have hfill := fillBehind_isFill hshort target b
  rw [List.length_append] at hfill
  refine ⟨⟨?_, fun k => fillBehind_counted (.trans ?_ (h.counted k)) target⟩,
    earlier.length, by omega, ?_, fun i hi hj => ?_, ?_, ?_, hfill⟩
  · have hfills := h.fills
    unfold Candidate.Fills at hfills
    rw [hcounts] at hfills
    exact hfills.keeps.fillBehind b
  · rw [hcounts]
    exact countedOf_lowered k ps earlier _ n
  · rw [hcounts]
    simpa using hn
  · obtain ⟨m, hm⟩ : ∃ m, zeros[i - earlier.length - 1]? = some m :=
      ⟨_, List.getElem?_eq_getElem (by omega)⟩
    have hi' : i - earlier.length = i - earlier.length - 1 + 1 := by omega
    rw [hcounts, List.getElem?_append_right (by omega), hi', List.getElem?_cons_succ,
      List.getElem?_append_left (by omega), hm, hzeros m (List.mem_of_getElem? hm)]
  · rw [hbehind, hcounts]
    simp
  · rw [hbehind, hcounts]
    simp

end

/-- The counts of the candidates that the retreats make after one, at most so many of them (R83). -/
inductive Retreats (ps : List Stocked) (target : Nat) (b : Budgets) : Nat → List Nat → List (List Nat) → Prop
  | spent (last : List Nat) : Retreats ps target b 0 last []
  | nothingLeft {tries : Nat} {last : List Nat} (left : target - worthOf ps last = 0) :
      Retreats ps target b tries last []
  | noPieces {tries : Nat} {last : List Nat} (empty : ∀ i < ps.length - 1, last[i]? = some 0) :
      Retreats ps target b tries last []
  | step {tries : Nat} {last next : List Nat} {made : List (List Nat)} (left : target - worthOf ps last ≠ 0)
      (retreats : isRetreat ps target b last next) (rest : Retreats ps target b tries next made) :
      Retreats ps target b (tries + 1) last (next :: made)

section
variable {ps : List Stocked} {target : Nat} {b : Budgets} {tries : Nat} {last : List Nat} {made : List (List Nat)}

theorem Retreats.length_le (h : Retreats ps target b tries last made) : made.length ≤ tries := by
  induction h with
  | spent | nothingLeft | noPieces => exact Nat.zero_le _
  | step _ _ _ ih => exact Nat.succ_le_succ ih

theorem Retreats.steps (h : Retreats ps target b tries last made) :
    ∀ x ∈ (last :: made).zip made, target - worthOf ps x.1 ≠ 0 ∧ isRetreat ps target b x.1 x.2 := by
  induction h with
  | spent | nothingLeft | noPieces => exact nofun
  | step left retreats _ ih =>
    intro x hx
    rcases List.mem_cons.mp hx with rfl | hx
    · exact ⟨left, retreats⟩
    · exact ih x hx

theorem Retreats.ends (h : Retreats ps target b tries last made) : ∀ z, (last :: made).getLast? = some z →
    target - worthOf ps z = 0 ∨ made.length = tries ∨ ∀ i < ps.length - 1, z[i]? = some 0 := by
  induction h with
  | spent => exact fun _ _ => .inr (.inl rfl)
  | nothingLeft left => intro z hz; obtain rfl := Option.some.inj hz; exact .inl left
  | noPieces empty => intro z hz; obtain rfl := Option.some.inj hz; exact .inr (.inr empty)
  | step _ _ _ ih =>
    intro z hz
    rw [List.getLast?_cons_cons] at hz
    exact (ih z hz).imp_right (Or.imp_left (congrArg (· + 1)))

end

/-! ### The best of those made (R83) -/

/-- The better of two candidates, the first at a tie. -/
def Candidate.better (best next : Candidate) : Candidate := if next.remainder < best.remainder then next else best

section
variable {ps : List Stocked} {target : Nat} {b : Budgets}

/-- The search goes through the retreats and holds the best candidate of them. -/
theorem searchOn_retreats (tries : Nat) {last : Candidate} (h : last.Fits ps target b) (best : Candidate) :
    ∃ made : List Candidate, Retreats ps target b tries last.counts (made.map (·.counts)) ∧
      (∀ c ∈ made, c.Fits ps target b) ∧ searchOn ps target b tries last best = made.foldl .better best := by
  induction tries generalizing last best with
  | zero => exact ⟨[], .spent _, nofun, rfl⟩
  | succ tries ih =>
    unfold searchOn
    split
    · rename_i hleft
      exact ⟨[], .nothingLeft (h.remainder_eq ▸ hleft), nofun, rfl⟩
    · rename_i hleft
      split
      · rename_i hnone
        refine ⟨[], .noPieces fun i hi => ?_, nofun, rfl⟩
        have hlength : last.counts.dropLast.length = ps.length - 1 := by
          rw [List.length_dropLast, h.fills.length_eq]
        have hmem : i < last.counts.dropLast.length := by omega
        rw [← retreat_eq_none hnone _ (List.getElem_mem hmem), List.getElem_dropLast]
        exact List.getElem?_eq_getElem _
      · rename_i kept hkept
        obtain ⟨hfits, hretreat⟩ := h.retreat hkept
        obtain ⟨made, hmade, hall, hsearch⟩ := ih hfits (best.better (fillBehind ps kept target b))
        refine ⟨fillBehind ps kept target b :: made, .step (h.remainder_eq ▸ hleft) hretreat hmade, ?_, hsearch⟩
        exact List.forall_mem_cons.mpr ⟨hfits, hall⟩

theorem isBest_singleton (counts : List Nat) : isBest ps target [counts] counts :=
  ⟨fun _ h => Nat.le_of_eq (by rw [List.mem_singleton.mp h]), by simp⟩

/-- One made before the others that leaves more is not the best. -/
theorem isBest_cons_of_lt {best first : List Nat} {made : List (List Nat)} (h : isBest ps target made best)
    (hlt : target - worthOf ps best < target - worthOf ps first) : isBest ps target (first :: made) best := by
  obtain ⟨hleast, hfind⟩ := h
  refine ⟨List.forall_mem_cons.mpr ⟨Nat.le_of_lt hlt, hleast⟩, ?_⟩
  rw [List.find?_cons_of_neg (by simpa using Nat.ne_of_gt hlt)]
  exact hfind

/-- One made after another that leaves no more is not the best. -/
theorem isBest_insert_of_le {best first next : List Nat} {made : List (List Nat)}
    (h : isBest ps target (first :: made) best) (hle : target - worthOf ps first ≤ target - worthOf ps next) :
    isBest ps target (first :: next :: made) best := by
  obtain ⟨hleast, hfind⟩ := h
  obtain ⟨hfirst, hmade⟩ := List.forall_mem_cons.mp hleast
  have hfirst : target - worthOf ps best ≤ target - worthOf ps first := hfirst
  refine ⟨List.forall_mem_cons.mpr ⟨hfirst, List.forall_mem_cons.mpr ⟨hfirst.trans hle, hmade⟩⟩, ?_⟩
  by_cases heq : target - worthOf ps first = target - worthOf ps best
  · rw [List.find?_cons_of_pos (by simpa using heq)] at hfind ⊢
    exact hfind
  · rw [List.find?_cons_of_neg (by simpa using heq)] at hfind ⊢
    rw [List.find?_cons_of_neg (by simp; omega)]
    exact hfind

/-- The best candidate held through those made is the best of them. -/
theorem foldl_better_isBest {first : Candidate} {made : List Candidate} (hfirst : first.Fits ps target b)
    (hmade : ∀ c ∈ made, c.Fits ps target b) : (made.foldl .better first).Fits ps target b ∧
      isBest ps target ((first :: made).map (·.counts)) (made.foldl .better first).counts := by
  induction made generalizing first with
  | nil => exact ⟨hfirst, isBest_singleton _⟩
  | cons next made ih =>
    obtain ⟨hnext, hmade⟩ := List.forall_mem_cons.mp hmade
    have hbetter : first.better next = if next.remainder < first.remainder then next else first := rfl
    rw [List.foldl_cons, hbetter]
    split
    · rename_i hlt
      obtain ⟨hfits, hbest⟩ := ih hnext hmade
      refine ⟨hfits, isBest_cons_of_lt hbest ?_⟩
      rw [hnext.remainder_eq, hfirst.remainder_eq] at hlt
      exact Nat.lt_of_le_of_lt (hbest.1 _ List.mem_cons_self) hlt
    · rename_i hge
      obtain ⟨hfits, hbest⟩ := ih hfirst hmade
      refine ⟨hfits, isBest_insert_of_le hbest ?_⟩
      rw [← hfirst.remainder_eq, ← hnext.remainder_eq]
      exact Nat.not_lt.mp hge

end

/-- A pass yields the best of its candidates (R83). -/
theorem searchPass_isBest (ps : List Stocked) (target : Nat) (b : Budgets) :
    (searchPass ps target b).Fits ps target b ∧ ∃ made, isPass ps target b made ∧
      isBest ps target made (searchPass ps target b).counts := by
  have hfirst := greedyFill_fits ps target b
  have hfill := greedyFill_isFill ps target b
  unfold searchPass
  dsimp only
  split
  · rename_i hshort
    rw [← worthOf_stocks] at hshort
    exact ⟨hfirst, [(greedyFill ps target b).counts], ⟨⟨_, rfl, hfill⟩, fun _ => rfl,
      fun h => absurd hshort (Nat.not_lt.mpr h)⟩, isBest_singleton _⟩
  · rename_i henough
    rw [← worthOf_stocks] at henough
    obtain ⟨made, hmade, hall, hsearch⟩ := searchOn_retreats Config.maxRetreats hfirst (greedyFill ps target b)
    rw [hsearch]
    obtain ⟨hfits, hbest⟩ := foldl_better_isBest hfirst hall
    refine ⟨hfits, _, ⟨⟨_, rfl, hfill⟩, fun h => absurd h henough,
      fun _ => ⟨?_, hmade.steps, fun z hz => ?_⟩⟩, hbest⟩
    · exact Nat.succ_le_succ hmade.length_le
    · exact (hmade.ends z hz).imp_right (Or.imp_left (congrArg (· + 1)))

end Sys2Proof.Machine
end

section
/-! PROOF. A lane plan is the best candidate of its two passes, laid out over its stores (O57). -/

namespace Sys2Proof.Machine

/-! ### The order of the positions (R78) -/

/-- One position may stand before another: a larger value, or one value and not a coin before a note (R78). -/
def Position.leads (p q : Position) : Prop :=
  q.value < p.value ∨ (q.value = p.value ∧ ¬(p.kind = .coin ∧ q.kind = .note))

theorem Position.leads_of_before {x y : Position} (h : x.before y = true) : x.leads y := by
  simp only [Position.before, Bool.or_eq_true, Bool.and_eq_true, decide_eq_true_eq, beq_iff_eq] at h
  exact h.imp_right fun ⟨hvalue, hnote⟩ =>
    ⟨hvalue.symm, fun ⟨hcoin, _⟩ => absurd (hnote.symm.trans hcoin) nofun⟩

theorem Position.leads_of_not_before {x y : Position} (h : ¬x.before y = true) : y.leads x := by
  simp only [Position.before, Bool.or_eq_true, Bool.and_eq_true, decide_eq_true_eq, beq_iff_eq, not_or,
    not_and] at h
  obtain ⟨hle, hnote⟩ := h
  rcases Nat.lt_or_eq_of_le (Nat.not_lt.mp hle) with hlt | heq
  · exact .inl hlt
  · exact .inr ⟨heq, fun hkinds => hnote heq hkinds.2⟩

theorem Position.before_leads {x y z : Position} (h : x.before y = true) (h' : y.leads z) : x.leads z := by
  simp only [Position.before, Bool.or_eq_true, Bool.and_eq_true, decide_eq_true_eq, beq_iff_eq] at h
  unfold Position.leads at *
  rcases h with hlt | ⟨heq, hnote⟩
  · exact .inl (by omega)
  · refine h'.imp (fun hlt => by omega) fun ⟨heq', _⟩ => ⟨heq'.trans heq.symm, fun ⟨hcoin, _⟩ => ?_⟩
    exact absurd (hnote.symm.trans hcoin) nofun

theorem insertPosition_leads {x : Position} {ys : List Position} (h : ys.Pairwise Position.leads) :
    (insertPosition x ys).Pairwise Position.leads := by
  induction ys with
  | nil => exact List.pairwise_singleton ..
  | cons y ys ih =>
    obtain ⟨hy, hys⟩ := List.pairwise_cons.mp h
    unfold insertPosition
    split
    · rename_i hbefore
      exact List.pairwise_cons.mpr ⟨List.forall_mem_cons.mpr ⟨Position.leads_of_before hbefore,
        fun z hz => Position.before_leads hbefore (hy z hz)⟩, h⟩
    · rename_i hafter
      refine List.pairwise_cons.mpr ⟨fun z hz => ?_, ih hys⟩
      rcases List.mem_cons.mp ((insertPosition_perm x ys).mem_iff.mp hz) with rfl | hz
      · exact Position.leads_of_not_before hafter
      · exact hy z hz

/-! ### The candidate chosen (R84) -/

/-- The pieces of a kind in the counts of some positions, on either stock. -/
theorem countedOf_positions {stocked : Position → Stocked} (hkind : ∀ p, (stocked p).kind = p.kind) (k : Kind)
    (ps : List Position) (counts : List Nat) : countedOf k (ps.map stocked) counts =
      ((ps.zip counts).map (fun y => if y.1.kind = k then y.2 else 0)).sum := by
  induction ps generalizing counts with
  | nil => rfl
  | cons p ps ih =>
    cases counts with
    | nil => simp [countedOf]
    | cons count counts =>
      rw [List.map_cons, countedOf_cons, ih, hkind]
      rfl

/-- The better pass by what each leaves, the first where it leaves nothing or no more (R84). -/
theorem chooseCandidate_eq (ps : List Position) (target : Nat) (b : Budgets) :
    let one := searchPass (ps.map Position.comfortable) target b
    let two := searchPass (ps.map Position.full) target b
    let left1 := target - worthOf (ps.map Position.comfortable) one.counts
    let left2 := target - worthOf (ps.map Position.full) two.counts
    chooseCandidate ps target b =
      if left1 = 0 then one else if left2 = 0 then two else if left1 ≤ left2 then one else two := by
  dsimp only
  rw [← (searchPass_isBest (ps.map Position.comfortable) target b).1.remainder_eq,
    ← (searchPass_isBest (ps.map Position.full) target b).1.remainder_eq]
  rfl

/-- The counts of the candidate chosen, by the best of each pass (R83, R84). -/
theorem chooseCandidate_isBest {ps : List Position} {comfortable full : List Stocked}
    (hcomfortable : comfortable = ps.map Position.comfortable) (hfull : full = ps.map Position.full) (target : Nat)
    (b : Budgets) : ∃ (one two : List (List Nat)) (best1 best2 : List Nat),
      isPass comfortable target b one ∧ isBest comfortable target one best1 ∧
      isPass full target b two ∧ isBest full target two best2 ∧
      (chooseCandidate ps target b).counts =
        if target - worthOf comfortable best1 = 0 then best1
        else if target - worthOf full best2 = 0 then best2
        else if target - worthOf comfortable best1 ≤ target - worthOf full best2 then best1 else best2 := by
  subst hcomfortable hfull
  obtain ⟨-, one, hone, hbest1⟩ := searchPass_isBest (ps.map Position.comfortable) target b
  obtain ⟨-, two, htwo, hbest2⟩ := searchPass_isBest (ps.map Position.full) target b
  refine ⟨one, two, _, _, hone, hbest1, htwo, hbest2, ?_⟩
  rw [chooseCandidate_eq]
  simp only [apply_ite Candidate.counts]

/-- The candidate chosen stays within the budgets (R80). -/
theorem chooseCandidate_counted (ps : List Position) (target : Nat) (b : Budgets) (k : Kind) :
    ((ps.zip (chooseCandidate ps target b).counts).map (fun y => if y.1.kind = k then y.2 else 0)).sum ≤ b.of k := by
  have hone := (searchPass_isBest (ps.map Position.comfortable) target b).1.counted k
  have htwo := (searchPass_isBest (ps.map Position.full) target b).1.counted k
  rw [countedOf_positions (fun _ => rfl)] at hone htwo
  rw [chooseCandidate_eq]
  split
  · exact hone
  split
  · exact htwo
  split
  · exact hone
  · exact htwo

/-! ### The strokes of counted positions -/

section
variable {n : Snapshot} {excluded : List StoreId}

/-- Counts of a plan's positions, each within its stock. -/
def Snapshot.covers (n : Snapshot) (excluded : List StoreId) (counts : List Nat) : Prop :=
  counts.length = (n.positions excluded).length ∧ ∀ y ∈ (n.positions excluded).zip counts, y.2 ≤ y.1.free

section
variable {counts : List Nat} (h : n.covers excluded counts)
include h

theorem Snapshot.covers.counted : n.counted excluded ((n.positions excluded).zip counts) := by
  have hsorted : (((n.positions excluded).zip counts).map Prod.fst).Pairwise
      (fun p q => p.denom ≠ q.denom ∧ q.value ≤ p.value) := by
    rw [List.map_fst_zip (Nat.le_of_eq h.1.symm)]
    exact List.pairwise_and_iff.mpr
      ⟨List.pairwise_map.mp (n.positions_nodup excluded), n.positions_sorted excluded⟩
  exact ⟨fun y hy => (List.of_mem_zip (a := y.1) (b := y.2) hy).1, List.pairwise_map.mp hsorted⟩

theorem Snapshot.covers.le_freeStock {y : Position × Nat} (hy : y ∈ (n.positions excluded).zip counts) :
    y.2 ≤ n.freeStock excluded y.1.denom := by
  have hfree : y.1.free = n.freeStock excluded y.1.denom := by
    rw [← n.freeOf_usableStores]
    exact congrArg Position.free ((n.mem_positions excluded).mp (h.counted.1 y hy)).1
  exact hfree ▸ h.2 y hy

end

/-- Of distinct denominations one adds its own share alone. -/
theorem sum_at_denom {ys : List (Position × Nat)} (distinct : ys.Pairwise (fun a b => a.1.denom ≠ b.1.denom))
    {y : Position × Nat} (hy : y ∈ ys) :
    (ys.map (fun z => if z.1.denom = y.1.denom then z.2 else 0)).sum = y.2 := by
  induction ys with
  | nil => cases hy
  | cons x ys ih =>
    obtain ⟨hx, distinct⟩ := List.pairwise_cons.mp distinct
    rw [List.map_cons, List.sum_cons]
    rcases List.mem_cons.mp hy with rfl | hy
    · rw [if_pos rfl, sum_map_eq_zero (fun z hz => if_neg (hx z hz).symm), Nat.add_zero]
    · rw [if_neg (hx y hy), ih distinct hy, Nat.zero_add]

/-- The strokes of both kinds take of each denomination the count of its position. -/
theorem Snapshot.covers.planned {counts : List Nat} (h : n.covers excluded counts) :
    let counted := (n.positions excluded).zip counts
    ((n.positions excluded).map (·.denom)).map
      (n.planned (n.strokesOf excluded .coin counted ++ n.strokesOf excluded .note counted)) = counts := by
  intro counted
  have happ : ∀ xs ys d, n.planned (xs ++ ys) d = n.planned xs d + n.planned ys d := fun xs ys d => by
    simp [Snapshot.planned]
  have hone : ∀ y ∈ counted, n.planned (n.strokesOf excluded .coin counted ++
      n.strokesOf excluded .note counted) y.1.denom = y.2 := fun y hy => by
    rw [happ, Snapshot.planned_strokesOf, Snapshot.planned_strokesOf]
    simp only [ite_and]
    rw [sum_map_by_kind, List.map_congr_left (fun z hz => ?_),
      sum_at_denom (h.counted.2.imp And.left) hy]
    split
    · rename_i hd
      rw [← hd, Nat.min_eq_left (h.le_freeStock hz)]
    · rfl
  calc ((n.positions excluded).map (·.denom)).map (n.planned _)
      = (counted.map Prod.fst).map (fun p => n.planned _ p.denom) := by
        rw [List.map_fst_zip (Nat.le_of_eq h.1.symm), List.map_map]; rfl
    _ = counted.map Prod.snd := by rw [List.map_map]; exact List.map_congr_left hone
    _ = counts := List.map_snd_zip (Nat.le_of_eq h.1)

section
variable (kinds : ∀ k d, (n.store k).denom = some d → (n.denom d).kind = storeKind k)
include kinds

theorem Snapshot.strokesOf_kind {k : Kind} {ys : List (Position × Nat)} (hy : n.counted excluded ys)
    {x : Planned} (hx : x ∈ n.strokesOf excluded k ys) : storeKind x.store = k := by
  obtain ⟨y, hmem, rfl, hx'⟩ := Snapshot.mem_strokesOf.mp hx
  rw [← kinds _ _ (Snapshot.allocate_plannedFrom hx').denom]
  exact (congrArg Position.kind ((n.mem_positions excluded).mp (hy.1 y hmem)).1).symm

/-- The pieces of a kind in the strokes of both kinds are those of its positions at most. -/
theorem Snapshot.piecesOf_strokesOf_le {ys : List (Position × Nat)} (hy : n.counted excluded ys) (k : Kind) :
    piecesOf k (n.strokesOf excluded .coin ys ++ n.strokesOf excluded .note ys) ≤
      (ys.map (fun y => if y.1.kind = k then y.2 else 0)).sum := by
  have hkind : ∀ j, (n.strokesOf excluded j ys).filter (fun x => storeKind x.store == k) =
      if j = k then n.strokesOf excluded j ys else [] := fun j => by
    split
    · rename_i hj
      exact List.filter_eq_self.mpr fun x hx => by simp [Snapshot.strokesOf_kind kinds hy hx, hj]
    · rename_i hj
      exact List.filter_eq_nil_iff.mpr fun x hx => by simp [Snapshot.strokesOf_kind kinds hy hx, hj]
  have hpieces : piecesOf k (n.strokesOf excluded .coin ys ++ n.strokesOf excluded .note ys) =
      ((n.strokesOf excluded k ys).map (·.count)).sum := by
    unfold piecesOf
    rw [List.filter_append, hkind, hkind]
    cases k <;> simp
  rw [hpieces, Snapshot.count_strokesOf]
  refine List.sum_le_sum fun y _ => ?_
  split
  · exact Nat.min_le_left _ _
  · exact Nat.le_refl _

end

/-! ### The denominations of a plan (R78, R79) -/

/-- The denominations planned from, in the order of the positions. -/
def Snapshot.planDenoms (n : Snapshot) (excluded : List StoreId) : List Denom :=
  (n.positions excluded).map (·.denom)

theorem Snapshot.mem_planDenoms {d : Denom} :
    d ∈ n.planDenoms excluded ↔ ∃ k, n.plannedFrom excluded d k := by
  simp only [Snapshot.planDenoms, List.mem_map, ← n.mem_usableStores]
  constructor
  · rintro ⟨p, hp, rfl⟩
    exact List.exists_mem_of_ne_nil _ ((n.mem_positions excluded).mp hp).2
  · rintro ⟨k, hk⟩
    exact ⟨n.position excluded d, (n.mem_positions excluded).mpr ⟨rfl, List.ne_nil_of_mem hk⟩, rfl⟩

theorem Snapshot.planDenoms_sorted (n : Snapshot) (excluded : List StoreId) :
    (n.planDenoms excluded).Pairwise (fun d e => (n.denom e).value < (n.denom d).value ∨
      ((n.denom e).value = (n.denom d).value ∧ ¬((n.denom d).kind = .coin ∧ (n.denom e).kind = .note))) := by
  have hleads : ∀ xs : List Position, (xs.foldr insertPosition []).Pairwise Position.leads := fun xs => by
    induction xs with
    | nil => exact .nil
    | cons x xs ih => exact insertPosition_leads ih
  have hsorted : (n.positions excluded).Pairwise Position.leads := by
    rw [Snapshot.positions_eq]
    exact hleads _
  refine List.pairwise_map.mpr (hsorted.imp_of_mem fun hp hq h => ?_)
  rw [((n.mem_positions excluded).mp hp).1, ((n.mem_positions excluded).mp hq).1] at h
  exact h

/-- The positions with a stock each are the denominations planned from with theirs. -/
theorem Snapshot.stocked_planDenoms (stock : Denom → Nat) {stocked : Position → Stocked}
    (hstocked : ∀ d, stocked (n.position excluded d) =
      { value := (n.denom d).value, kind := (n.denom d).kind, stock := stock d }) :
    (n.planDenoms excluded).map (fun d => (⟨(n.denom d).value, (n.denom d).kind, stock d⟩ : Stocked)) =
      (n.positions excluded).map stocked := by
  rw [Snapshot.planDenoms, List.map_map]
  refine List.map_congr_left fun p hp => ?_
  rw [((n.mem_positions excluded).mp hp).1]
  exact (hstocked p.denom).symm

theorem Snapshot.comfortable_planDenoms (n : Snapshot) (excluded : List StoreId) :
    (n.planDenoms excluded).map (fun d =>
      (⟨(n.denom d).value, (n.denom d).kind, n.freeStock excluded d - (n.denom d).low⟩ : Stocked)) =
      (n.positions excluded).map Position.comfortable :=
  Snapshot.stocked_planDenoms _ fun d => by rw [← n.freeOf_usableStores]; rfl

theorem Snapshot.full_planDenoms (n : Snapshot) (excluded : List StoreId) :
    (n.planDenoms excluded).map (fun d =>
      (⟨(n.denom d).value, (n.denom d).kind, n.freeStock excluded d⟩ : Stocked)) =
      (n.positions excluded).map Position.full :=
  Snapshot.stocked_planDenoms _ fun d => by rw [← n.freeOf_usableStores]; rfl

end

theorem Snapshot.excluded_eq (n : Snapshot) (r : LaneRequest) :
    n.excluded r = if r = .makeup then n.busy else [] := by cases r <;> rfl

theorem Snapshot.budgets_eq (n : Snapshot) (limits : Limits) (r : LaneRequest) : n.budgets limits r =
    { coins := limits.coinLimit - if r = .makeup then n.coinsCommitted else 0
      notes := limits.noteLimit - if r = .makeup then n.notesCommitted else 0 } := by cases r <;> rfl

end Sys2Proof.Machine

namespace Sys2Proof
open Machine

/-- Settles O57: each pass is the best of its candidates (`searchPass_isBest`), and the counts of the one chosen
are laid out over the stores of their positions (`Snapshot.laidOut_strokesOf`). -/
theorem lanePlanIsTheBestOfItsSearch : Obligations.LanePlanIsTheBestOfItsSearch := by
  intro n limits r _ kinds
  dsimp only
  rw [← n.excluded_eq r, ← n.budgets_eq limits r]
  have hfills := chooseCandidate_fills (n.positions (n.excluded r)) n.target (n.budgets limits r)
  have hcovers : n.covers (n.excluded r)
      (chooseCandidate (n.positions (n.excluded r)) n.target (n.budgets limits r)).counts :=
    ⟨hfills.length_eq.trans (List.length_map _), hfills.zip.1⟩
  have hpieces := fun k => (Snapshot.piecesOf_strokesOf_le kinds hcovers.counted k).trans
    (chooseCandidate_counted (n.positions (n.excluded r)) n.target (n.budgets limits r) k)
  refine ⟨?_, Snapshot.laidOut_strokesOf kinds hcovers.counted hcovers.counted, n.worth_lanePlan limits r,
    piecesOf_coin _, piecesOf_note _, (hpieces .coin).trans_eq (congrArg Budgets.coins (n.budgets_eq limits r)),
    (hpieces .note).trans_eq (congrArg Budgets.notes (n.budgets_eq limits r))⟩
  obtain ⟨one, two, best1, best2, hone, hbest1, htwo, hbest2, hchosen⟩ :=
    chooseCandidate_isBest (n.comfortable_planDenoms (n.excluded r)) (n.full_planDenoms (n.excluded r)) n.target
      (n.budgets limits r)
  refine ⟨n.planDenoms (n.excluded r), one, two, best1, best2, fun d => Snapshot.mem_planDenoms,
    n.positions_nodup (n.excluded r), n.planDenoms_sorted (n.excluded r), hone, hbest1, htwo, hbest2,
    .trans ?_ (congrArg (n.target - worthOf _ ·) hchosen), hcovers.planned.trans hchosen⟩
  rw [n.full_planDenoms]
  exact hfills.left_eq

end Sys2Proof
end

section
/-! SUPPORT. The forty slots (R95), the places of the records and the running strokes: the clauses of
`State.strokesFollow` by name, and what an event may do to the records without ending or starting a running
stroke. -/

namespace Sys2Proof.Machine

/-! ### Slots, places and running strokes -/

/-- A record but for its figures: its slot, owner, path, store, destination and state. -/
def Stroke.place (r : Stroke) : Stroke := { r with count := 0, delivered := 0, origin := .main }

def State.places (s : State) : List Stroke := s.pool.records.map Stroke.place

/-- The running strokes, by their places. -/
def State.running (s : State) : List Stroke := s.places.filter (fun p => p.state == .running)

/-- The slots of the pool, free and taken (R95). -/
def State.slots (s : State) : List SlotId := s.pool.free ++ s.pool.records.map (·.slot)

theorem State.slotsPartition_iff (s : State) : s.slotsPartition ↔ s.slots.Perm freeSlots := Iff.rfl

theorem State.mem_places {s : State} {p : Stroke} : p ∈ s.places ↔ ∃ r ∈ s.pool.records, r.place = p :=
  List.mem_map

theorem State.mem_running {s : State} {p : Stroke} :
    p ∈ s.running ↔ ∃ r ∈ s.pool.records, r.state = .running ∧ r.place = p := by
  rw [State.running, List.mem_filter, State.mem_places]
  constructor
  · rintro ⟨⟨r, hr, rfl⟩, hs⟩; exact ⟨r, hr, eq_of_beq hs, rfl⟩
  · rintro ⟨r, hr, hs, rfl⟩; exact ⟨⟨r, hr, rfl⟩, beq_iff_eq.mpr hs⟩

theorem State.running_sub_places {s : State} {p : Stroke} (h : p ∈ s.running) : p ∈ s.places :=
  (List.mem_filter.mp h).1

/-- The running strokes are the places of the running records. -/
theorem State.running_eq (s : State) :
    s.running = (s.pool.records.filter (fun r => r.state == .running)).map Stroke.place := List.filter_map

theorem State.slots_eq (s : State) : s.slots = s.pool.free ++ s.places.map (·.slot) := by
  rw [State.places, List.map_map]; rfl

theorem State.places_nodup {s : State} (h : s.slots.Nodup) : s.places.Nodup :=
  .of_map (·.slot) (List.nodup_append.mp (s.slots_eq ▸ h)).2.1

theorem State.records_nodup {s : State} (h : s.slotsPartition) : (s.pool.records.map (·.slot)).Nodup :=
  (List.nodup_append.mp h.nodup).2.1

/-! ### The clauses of the agreement -/

/-- Running strokes, grants and channels agree, and a path runs one stroke at a time: `State.strokesFollow` but for
the latches, which an event puts right at its close. -/
structure State.Runs (s : State) : Prop where
  live : ∀ p ∈ s.places, p.state = .waiting ∨ p.state = .running
  granted : ∀ p ∈ s.running, (s.path p.path).grant.owner? = some p.owner
  driven : ∀ p ∈ s.running, (s.store p.store).channel.slot? = some p.slot
  channels : ∀ k slot, (s.store k).channel.slot? = some slot →
    (s.store k).state = .paying ∧ ∃ p ∈ s.running, p.slot = slot ∧ p.store = k
  single : ∀ k, (s.running.filter (fun p => p.path == k)).length ≤ 1

/-- The latch of a path names a WAITING record of the chain the path is granted to, and is empty while a stroke
of the path runs (R104). -/
structure State.LatchFollows (s : State) (k : Kind) : Prop where
  names : ∀ x, (s.path k).latch = some x → ∃ p ∈ s.places, p.latch = x ∧ p.path = k ∧ p.state = .waiting ∧
    (s.path k).grant.owner? = some p.owner
  rests : ∀ p ∈ s.running, p.path = k → (s.path k).latch = none

/-- The running records of a path and their places. -/
theorem State.running_of_path (s : State) (k : Kind) : s.running.filter (fun p => p.path == k) =
    (s.pool.records.filter (fun r => r.path == k && r.state == .running)).map Stroke.place := by
  rw [s.running_eq, List.filter_map, List.filter_filter]; rfl

theorem State.strokesFollow_iff (s : State) : s.strokesFollow ↔ s.Runs ∧ ∀ k, s.LatchFollows k := by
  constructor
  · rintro ⟨live, channels, latches, single⟩
    have run : ∀ r ∈ s.pool.records, r.state = .running →
        (s.path r.path).grant.owner? = some r.owner ∧ (s.store r.store).channel.slot? = some r.slot := by
      intro r hr hs
      rcases live r hr with hw | ⟨-, hg, hc⟩
      · exact absurd (hw.symm.trans hs) nofun
      · exact ⟨hg, hc⟩
    refine ⟨⟨fun p hp => ?_, fun p hp => ?_, fun p hp => ?_, fun k slot hs => ?_, fun k => ?_⟩,
      fun k => ⟨fun x hx => ?_, fun p hp hk => ?_⟩⟩
    · obtain ⟨r, hr, rfl⟩ := State.mem_places.mp hp; exact (live r hr).imp_right (·.1)
    · obtain ⟨r, hr, hs, rfl⟩ := State.mem_running.mp hp; exact (run r hr hs).1
    · obtain ⟨r, hr, hs, rfl⟩ := State.mem_running.mp hp; exact (run r hr hs).2
    · obtain ⟨hpay, r, hr, hslot, hstore, hrun⟩ := channels k slot hs
      exact ⟨hpay, r.place, State.mem_running.mpr ⟨r, hr, hrun, rfl⟩, hslot, hstore⟩
    · rw [s.running_of_path, List.length_map]; exact (single k).1
    · obtain ⟨r, hr, hl, hrest⟩ := latches k x hx
      exact ⟨r.place, State.mem_places.mpr ⟨r, hr, rfl⟩, hl, hrest⟩
    · obtain ⟨r, hr, hs, rfl⟩ := State.mem_running.mp hp
      refine (single k).2 (List.ne_nil_of_mem (a := r) (List.mem_filter.mpr ⟨hr, ?_⟩))
      exact Bool.and_eq_true_iff.mpr ⟨beq_iff_eq.mpr hk, beq_iff_eq.mpr hs⟩
  · rintro ⟨h, latches⟩
    have mem : ∀ r ∈ s.pool.records, r.place ∈ s.places := fun r hr => State.mem_places.mpr ⟨r, hr, rfl⟩
    refine ⟨fun r hr => ?_, fun k slot hs => ?_, fun k x hx => ?_, fun k => ⟨?_, fun hne => ?_⟩⟩
    · refine (h.live _ (mem r hr)).imp_right fun hs => ?_
      have hrun : r.place ∈ s.running := State.mem_running.mpr ⟨r, hr, hs, rfl⟩
      exact ⟨hs, h.granted r.place hrun, h.driven r.place hrun⟩
    · obtain ⟨hpay, p, hp, hslot, hstore⟩ := h.channels k slot hs
      obtain ⟨r, hr, hrun, rfl⟩ := State.mem_running.mp hp
      exact ⟨hpay, r, hr, hslot, hstore, hrun⟩
    · obtain ⟨p, hp, hl, hrest⟩ := (latches k).names x hx
      obtain ⟨r, hr, rfl⟩ := State.mem_places.mp hp
      exact ⟨r, hr, hl, hrest⟩
    · have := h.single k; rwa [s.running_of_path, List.length_map] at this
    · obtain ⟨r, hr⟩ := List.exists_mem_of_ne_nil _ hne
      obtain ⟨hr, hk⟩ := List.mem_filter.mp hr
      obtain ⟨hk, hs⟩ := Bool.and_eq_true_iff.mp hk
      exact (latches k).rests _ (State.mem_running.mpr ⟨r, hr, eq_of_beq hs, rfl⟩) (eq_of_beq hk)

/-! ### What leaves the running strokes -/

/-- The records stand at their places, and the grants, the latches and the channels as they stood. -/
structure State.keepsPlaces (s t : State) : Prop where
  pending : t.pending = s.pending
  free : t.pool.free = s.pool.free
  places : t.places = s.places
  paths : ∀ k, (t.path k).grant = (s.path k).grant ∧ (t.path k).latch = (s.path k).latch
  stores : ∀ k, (t.store k).channel.slot? = (s.store k).channel.slot? ∧
    ((s.store k).state = .paying → (t.store k).state = .paying)

/-- The running strokes run on, under their grants and on their channels; WAITING records may come and go, each
slot being free or taken once. -/
structure State.keepsRunning (s t : State) : Prop where
  pending : t.pending = s.pending
  slots : t.slots.Perm s.slots
  live : ∀ p ∈ t.places, p.state = .waiting ∨ p ∈ s.places
  running : t.running = s.running
  grants : ∀ k, (t.path k).grant = (s.path k).grant
  stores : ∀ k, (t.store k).channel.slot? = (s.store k).channel.slot? ∧
    ((s.store k).state = .paying → (t.store k).state = .paying)

theorem State.path_congr {s t : State} (h : t.paths = s.paths) (k : Kind) : t.path k = s.path k :=
  congrArg (fun v : PerKind Arbiter => v.get k) h

theorem State.places_congr {s t : State} (h : t.pool = s.pool) : t.places = s.places :=
  congrArg (fun p : Pool => p.records.map Stroke.place) h

namespace State.keepsPlaces

variable {s t u : State}

theorem refl (s : State) : s.keepsPlaces s := ⟨rfl, rfl, rfl, fun _ => ⟨rfl, rfl⟩, fun _ => ⟨rfl, id⟩⟩

theorem trans (h : s.keepsPlaces t) (h' : t.keepsPlaces u) : s.keepsPlaces u where
  pending := h'.pending.trans h.pending
  free := h'.free.trans h.free
  places := h'.places.trans h.places
  paths k := ⟨(h'.paths k).1.trans (h.paths k).1, (h'.paths k).2.trans (h.paths k).2⟩
  stores k := ⟨(h'.stores k).1.trans (h.stores k).1, (h'.stores k).2 ∘ (h.stores k).2⟩

/-- What writes none of these tables. -/
theorem of_tables (hpending : t.pending = s.pending) (hpool : t.pool = s.pool) (hpaths : t.paths = s.paths)
    (hst : t.stores = s.stores) : s.keepsPlaces t where
  pending := hpending
  free := congrArg Pool.free hpool
  places := State.places_congr hpool
  paths k := by rw [State.path_congr hpaths]; exact ⟨rfl, rfl⟩
  stores k := by rw [State.store_congr hst]; exact ⟨rfl, id⟩

theorem slots (h : s.keepsPlaces t) : t.slots = s.slots := by
  rw [t.slots_eq, s.slots_eq, h.free, h.places]

theorem running (h : s.keepsPlaces t) : t.running = s.running := by rw [State.running, h.places]; rfl

theorem keepsRunning (h : s.keepsPlaces t) : s.keepsRunning t where
  pending := h.pending
  slots := .of_eq h.slots
  live _ hp := .inr (h.places ▸ hp)
  running := h.running
  grants k := (h.paths k).1
  stores := h.stores

theorem latchFollows (h : s.keepsPlaces t) {k : Kind} (hs : s.LatchFollows k) : t.LatchFollows k := by
  obtain ⟨hgrant, hlatch⟩ := h.paths k
  refine ⟨fun x hx => ?_, fun p hp hk => ?_⟩
  · rw [h.places, hgrant]; exact hs.names x (hlatch ▸ hx)
  · rw [hlatch]; exact hs.rests p (h.running ▸ hp) hk

end State.keepsPlaces

theorem State.keepsRunning.trans {s t u : State} (h : s.keepsRunning t) (h' : t.keepsRunning u) :
    s.keepsRunning u where
  pending := h'.pending.trans h.pending
  slots := h'.slots.trans h.slots
  live p hp := (h'.live p hp).elim .inl (h.live p)
  running := h'.running.trans h.running
  grants k := (h'.grants k).trans (h.grants k)
  stores k := ⟨(h'.stores k).1.trans (h.stores k).1, (h'.stores k).2 ∘ (h.stores k).2⟩

/-- A further change that leaves the records at their places. -/
theorem State.keepsRunning.then {s t u : State} (h : s.keepsRunning t) (h' : t.keepsPlaces u) :
    s.keepsRunning u := h.trans h'.keepsRunning

theorem State.Runs.keeps {s t : State} (h : s.Runs) (hk : s.keepsRunning t) : t.Runs where
  live p hp := (hk.live p hp).elim .inl (h.live p)
  granted p hp := by rw [hk.grants]; exact h.granted p (hk.running ▸ hp)
  driven p hp := by rw [(hk.stores _).1]; exact h.driven p (hk.running ▸ hp)
  channels k slot hs := by
    rw [(hk.stores k).1] at hs
    obtain ⟨hpay, hrun⟩ := h.channels k slot hs
    exact ⟨(hk.stores k).2 hpay, hk.running ▸ hrun⟩
  single k := hk.running ▸ h.single k

theorem State.keepsPlaces.follows {s t : State} (h : s.keepsPlaces t) (hs : s.strokesFollow) :
    t.strokesFollow := by
  obtain ⟨hruns, hlatches⟩ := s.strokesFollow_iff.mp hs
  exact t.strokesFollow_iff.mpr ⟨hruns.keeps h.keepsRunning, fun k => h.latchFollows (hlatches k)⟩

end Sys2Proof.Machine
end

section
/-! SUPPORT. The boundaries of the paths put the latches right (R104, R113–R117), and the close of an event. -/

namespace Sys2Proof.Machine

/-! ### Small changes that leave the records at their places -/

theorem State.places_modPath (s : State) (k : Kind) {f : Arbiter → Arbiter}
    (hf : (f (s.path k)).grant = (s.path k).grant ∧ (f (s.path k)).latch = (s.path k).latch) :
    s.keepsPlaces (s.modPath k f) where
  pending := rfl
  free := rfl
  places := rfl
  paths j := by
    by_cases hj : j = k
    · subst hj; rw [State.path_modPath_self]; exact hf
    · rw [State.path_modPath_ne _ _ _ _ hj]; exact ⟨rfl, rfl⟩
  stores _ := ⟨rfl, id⟩

theorem State.places_reopenRuns (s : State) (l : Lane) : s.keepsPlaces (s.reopenRuns l) :=
  (s.places_modPath .coin ⟨rfl, rfl⟩).trans (State.places_modPath _ .note ⟨rfl, rfl⟩)

theorem State.places_clearTallies (s : State) (o : Owner) : s.keepsPlaces (s.clearTallies o) :=
  ⟨rfl, rfl, rfl, fun _ => ⟨rfl, rfl⟩, fun _ => ⟨rfl, id⟩⟩

theorem State.places_closeSale (s : State) (l : Lane) (o : SaleOutcome) : s.keepsPlaces (s.closeSale l o) := by
  refine .trans (.trans (.of_tables ?_ ?_ ?_ ?_) (State.places_clearTallies _ _)) (State.places_reopenRuns _ l) <;>
    rfl

theorem State.places_closeIfClear (s : State) (l : Lane) : s.keepsPlaces (s.closeIfClear l) := by
  unfold State.closeIfClear
  split
  · exact s.places_closeSale l _
  · exact .refl s

theorem State.places_settleSale (s : State) (l : Lane) : s.keepsPlaces (s.settleSale l) := by
  unfold State.settleSale
  split
  · exact .trans (t := s.enterPresented l) (.of_tables rfl rfl rfl rfl) (State.places_closeIfClear _ l)
  · exact .refl s

theorem State.places_startMove (s : State) (k : Kind) : s.keepsPlaces (s.startMove k) := by
  unfold State.startMove
  split
  · exact .refl s
  split
  · exact s.places_modPath k ⟨rfl, rfl⟩
  · exact .refl s

theorem State.places_closeEvent (s : State) : s.keepsPlaces s.closeEvent := .of_tables rfl rfl rfl rfl

theorem State.keepsPlaces.closeEvent {s t : State} (h : s.keepsPlaces t) : s.keepsPlaces t.closeEvent :=
  h.trans t.places_closeEvent

/-- Behind the paths' boundaries the close of an event leaves the records at their places. -/
theorem State.places_finish (s : State) : s.settlePaths.keepsPlaces s.finish := by
  have hsales := (s.settlePaths.places_settleSale .one).trans (State.places_settleSale _ .two)
  have hnext : ∀ u : State, u.keepsPlaces u.takeNext.switchIfQuiet := fun u =>
    .of_tables (by simp) (by simp) (by simp) (by simp)
  exact (hsales.trans (hnext _)).closeEvent

/-! ### The boundary of a path -/

theorem State.Runs.modPath {s : State} (h : s.Runs) {k : Kind} {f : Arbiter → Arbiter}
    (hf : ∀ p ∈ s.running, p.path = k → (f (s.path k)).grant.owner? = some p.owner) : (s.modPath k f).Runs where
  live := h.live
  granted p hp := by
    by_cases hk : p.path = k
    · rw [hk, State.path_modPath_self]; exact hf p hp hk
    · rw [State.path_modPath_ne _ _ _ _ hk]; exact h.granted p hp
  driven := h.driven
  channels := h.channels
  single := h.single

theorem State.pathRunning_iff (s : State) (k : Kind) :
    s.pathRunning k = true ↔ ∃ p ∈ s.running, p.path = k := by
  simp only [State.pathRunning, List.any_eq_true, Bool.and_eq_true, beq_iff_eq]
  constructor
  · rintro ⟨r, hr, hk, hs⟩; exact ⟨r.place, State.mem_running.mpr ⟨r, hr, hs, rfl⟩, hk⟩
  · rintro ⟨p, hp, hk⟩
    obtain ⟨r, hr, hs, rfl⟩ := State.mem_running.mp hp
    exact ⟨r, hr, hk, hs⟩

theorem State.chain_ne_nil_of_running {s : State} {p : Stroke} (hp : p ∈ s.running) :
    s.pool.chain p.owner p.path ≠ [] := by
  obtain ⟨r, hr, -, rfl⟩ := State.mem_running.mp hp
  exact List.ne_nil_of_mem (State.mem_chain.mpr ⟨hr, rfl, rfl⟩)

/-- The head of a chain of a path on which nothing runs is a WAITING record (R99, R104). -/
theorem State.Runs.headLatch {s : State} (h : s.Runs) {o : Owner} {k : Kind} (hidle : ∀ p ∈ s.running, p.path ≠ k)
    {x : Latch} (hx : s.headLatch o k = some x) :
    ∃ p ∈ s.places, p.latch = x ∧ p.path = k ∧ p.state = .waiting ∧ p.owner = o := by
  obtain ⟨r, hr, rfl⟩ := Option.map_eq_some_iff.mp hx
  obtain ⟨hr, ho, hk⟩ := State.mem_chain.mp (List.mem_of_head? hr)
  have hplace : r.place ∈ s.places := State.mem_places.mpr ⟨r, hr, rfl⟩
  refine ⟨r.place, hplace, rfl, hk, (h.live _ hplace).resolve_right fun hs => ?_, ho⟩
  exact hidle _ (State.mem_running.mpr ⟨r, hr, hs, rfl⟩) hk

/-- On a path whose grant is over nothing runs (R114, R115). -/
theorem State.Runs.idle_of_grantOver {s : State} (h : s.Runs) {k : Kind} (hover : s.grantOver k = true) :
    ∀ p ∈ s.running, p.path ≠ k := by
  rintro p hp rfl
  have howner := h.granted p hp
  unfold State.grantOver at hover
  split at hover
  · exact absurd hover nofun
  · rename_i l hgrant
    have hchain := (Bool.and_eq_true_iff.mp hover).1
    rw [hgrant] at howner
    rw [State.chainEmpty, List.isEmpty_iff] at hchain
    exact State.chain_ne_nil_of_running hp (Option.some.inj howner ▸ hchain)
  · rw [if_pos ((s.pathRunning_iff _).mpr ⟨p, hp, rfl⟩)] at hover
    exact absurd hover nofun

/-- A path that holds no grant runs nothing. -/
theorem State.Runs.idle_of_ungranted {s : State} (h : s.Runs) {k : Kind} (hgrant : (s.path k).grant = .none) :
    ∀ p ∈ s.running, p.path ≠ k := by
  rintro p hp rfl
  have howner := h.granted p hp
  rw [hgrant] at howner
  exact absurd howner nofun

/-- A path on which nothing runs, with its latch at the head of the chain it is granted to. -/
theorem State.Runs.latchHead {s : State} (h : s.Runs) {k : Kind} {f : Arbiter → Arbiter}
    (hidle : ∀ p ∈ s.running, p.path ≠ k)
    (hf : ∀ x, (f (s.path k)).latch = some x →
      ∃ o, (f (s.path k)).grant.owner? = some o ∧ s.headLatch o k = some x) :
    (s.modPath k f).Runs ∧ (s.modPath k f).LatchFollows k := by
  refine ⟨h.modPath fun p hp hk => absurd hk (hidle p hp), fun x hx => ?_, fun p hp hk => absurd hk (hidle p hp)⟩
  rw [State.path_modPath_self] at hx ⊢
  obtain ⟨o, howner, hhead⟩ := hf x hx
  obtain ⟨p, hp, hl, hk, hw, rfl⟩ := h.headLatch hidle hhead
  exact ⟨p, hp, hl, hk, hw, howner⟩

/-- The review of a grant leaves the latch with the chain (R104, R114, R115). -/
theorem State.Runs.reviewGrant {s : State} (h : s.Runs) (k : Kind) :
    (s.reviewGrant k).Runs ∧ (s.reviewGrant k).LatchFollows k := by
  unfold State.reviewGrant
  split
  · rename_i hover
    exact h.latchHead (h.idle_of_grantOver hover) nofun
  · by_cases hrun : s.pathRunning k = true
    · have hlatch : s.grantLatch k = none := by
        unfold State.grantLatch
        split
        · rfl
        · exact if_pos hrun
      rw [hlatch]
      refine ⟨h.modPath fun p hp hk => hk ▸ h.granted p hp, fun x hx => ?_, fun p hp hk => ?_⟩
      · rw [State.path_modPath_self] at hx; exact absurd hx nofun
      · rw [State.path_modPath_self]
    · refine h.latchHead (fun p hp hk => hrun ((s.pathRunning_iff k).mpr ⟨p, hp, hk⟩)) fun x hx => ?_
      have hx : s.grantLatch k = some x := hx
      unfold State.grantLatch at hx
      split at hx
      · exact absurd hx nofun
      · rename_i o howner
        exact ⟨o, howner, (if_neg hrun).symm.trans hx⟩

/-- A grant decision latches the head of the chain it chooses (R104, R113). -/
theorem State.Runs.decideGrant {s : State} (h : s.Runs) {k : Kind} (hl : s.LatchFollows k) :
    (s.decideGrant k).Runs ∧ (s.decideGrant k).LatchFollows k := by
  unfold State.decideGrant
  split
  · rename_i hfree
    have hidle := h.idle_of_ungranted (eq_of_beq (Bool.and_eq_true_iff.mp hfree).2)
    split
    · exact h.latchHead hidle fun x hx => ⟨_, rfl, hx⟩
    split
    · exact ⟨h, hl⟩
    · exact h.latchHead hidle fun x hx => ⟨_, rfl, hx⟩
  · exact ⟨h, hl⟩

theorem State.Runs.settlePath {s : State} (h : s.Runs) (k : Kind) :
    (s.settlePath k).Runs ∧ (s.settlePath k).LatchFollows k := by
  obtain ⟨hruns, hlatch⟩ := h.reviewGrant k
  obtain ⟨hruns, hlatch⟩ := hruns.decideGrant hlatch
  have hmove := ((s.reviewGrant k).decideGrant k).places_startMove k
  exact ⟨hruns.keeps hmove.keepsRunning, hmove.latchFollows hlatch⟩

/-- The arbiters do not touch each other (R110). -/
theorem State.path_settlePath_ne (s : State) {j k : Kind} (h : j ≠ k) :
    (s.settlePath k).path j = s.path j := by
  have hreview : (s.reviewGrant k).path j = s.path j := by
    unfold State.reviewGrant
    split <;> exact s.path_modPath_ne _ _ _ h
  have hdecide : ∀ u : State, (u.decideGrant k).path j = u.path j := by
    intro u
    unfold State.decideGrant
    split
    · split
      · exact u.path_modPath_ne _ _ _ h
      split
      · rfl
      · exact u.path_modPath_ne _ _ _ h
    · rfl
  have hmove : ∀ u : State, (u.startMove k).path j = u.path j := by
    intro u
    unfold State.startMove
    split
    · rfl
    split
    · exact u.path_modPath_ne _ _ _ h
    · rfl
  exact (hmove _).trans ((hdecide _).trans hreview)

/-- A path's latch is read off the records and the path. -/
theorem State.LatchFollows.congr {s t : State} {k : Kind} (h : s.LatchFollows k) (hplaces : t.places = s.places)
    (hpath : t.path k = s.path k) : t.LatchFollows k where
  names x hx := by rw [hplaces, hpath]; exact h.names x (hpath ▸ hx)
  rests p hp hk := by
    rw [hpath]
    exact h.rests p (by rwa [State.running, hplaces] at hp) hk

theorem State.Runs.settlePaths {s : State} (h : s.Runs) : s.settlePaths.strokesFollow := by
  obtain ⟨hruns, hcoin⟩ := h.settlePath .coin
  obtain ⟨hruns, hnote⟩ := hruns.settlePath .note
  refine State.strokesFollow_iff _ |>.mpr ⟨hruns, fun k => ?_⟩
  cases k with
  | note => exact hnote
  | coin =>
    refine hcoin.congr (State.places_congr ?_) (State.path_settlePath_ne _ nofun)
    obtain ⟨-, -, -, -, -, -, -, -, -, -, -, hpool, -⟩ := (s.settlePath .coin).settlePath_frame .note
    exact hpool

theorem State.Runs.finish {s : State} (h : s.Runs) : s.finish.strokesFollow :=
  s.places_finish.follows h.settlePaths

/-! ### What an event leaves -/

/-- An event leaves the queue alone, the slots split between the free list and the records, and the running
strokes, channels, latches and grants in agreement. -/
structure State.keepsFollow (s t : State) : Prop where
  pending : t.pending = s.pending
  partition : s.slotsPartition → t.slotsPartition
  follow : s.slotsPartition → s.laneWorkFollows → s.strokesFollow → t.strokesFollow

theorem State.keepsPlaces.event {s t : State} (h : s.keepsPlaces t) : s.keepsFollow t where
  pending := h.pending
  partition hs := (h.slots ▸ hs : t.slots.Perm freeSlots)
  follow _ _ hs := h.follows hs

theorem State.slots_finish (s : State) : s.finish.slots = s.slots := by
  obtain ⟨hrec, hfree⟩ := s.finish_records
  rw [State.slots, hrec, hfree]; rfl

theorem State.keepsFollow.of_runs {s t : State} (hpending : t.pending = s.pending) (hslots : t.slots.Perm s.slots)
    (hruns : s.slotsPartition → s.Runs → t.Runs) : s.keepsFollow t.finish where
  pending := t.finish_frame.1.trans hpending
  partition hs := (t.slots_finish ▸ hslots.trans hs : t.finish.slots.Perm freeSlots)
  follow hpart _ hs := (hruns hpart (s.strokesFollow_iff.mp hs).1).finish

theorem State.keepsRunning.finish {s t : State} (h : s.keepsRunning t) : s.keepsFollow t.finish :=
  .of_runs h.pending h.slots fun _ hs => hs.keeps h

end Sys2Proof.Machine
end

section
/-! SUPPORT. Records that end, that are lowered and that are written, and what the events of the stores, the
channels and the intake leave of the running strokes. -/

namespace Sys2Proof.Machine

/-! ### Tables and records -/

theorem State.places_modStore (s : State) (k : StoreId) {f : Store → Store}
    (hc : (f (s.store k)).channel.slot? = (s.store k).channel.slot?)
    (hp : (s.store k).state = .paying → (f (s.store k)).state = .paying) : s.keepsPlaces (s.modStore k f) where
  pending := rfl
  free := rfl
  places := rfl
  paths _ := ⟨rfl, rfl⟩
  stores j := by
    by_cases hj : j = k
    · subst hj; rw [State.store_modStore_self]; exact ⟨hc, hp⟩
    · rw [State.store_modStore_ne _ _ _ _ hj]; exact ⟨rfl, id⟩

theorem State.places_book (s : State) (c : Counter) (d : Denom) (n : Nat) : s.keepsPlaces (s.book c d n) :=
  .of_tables (by simp) (by simp) (by simp) (by simp)

theorem State.places_bookAdjusted (s : State) (d : Denom) (n : Int) : s.keepsPlaces (s.bookAdjusted d n) :=
  .of_tables (by simp) (by simp) (by simp) (by simp)

theorem State.places_bookAdjustedStore (s : State) (k : StoreId) (n : Int) :
    s.keepsPlaces (s.bookAdjustedStore k n) := .of_tables (by simp) (by simp) (by simp) (by simp)

theorem State.places_bookStore (s : State) (c : Counter) (k : StoreId) (n : Nat) :
    s.keepsPlaces (s.bookStore c k n) := .of_tables (by simp) (by simp) (by simp) (by simp)

theorem State.places_bookUnplaced (s : State) (f : Fill) : s.keepsPlaces (s.bookUnplaced f) :=
  .of_tables (by simp) (by simp) (by simp) (by simp)

theorem State.places_modBox (s : State) (k : Kind) (f : Cashbox → Cashbox) : s.keepsPlaces (s.modBox k f) :=
  .of_tables rfl rfl rfl rfl

theorem State.places_modSale (s : State) (l : Lane) (f : Sale → Sale) : s.keepsPlaces (s.modSale l f) :=
  .of_tables rfl rfl rfl rfl

/-- A record's figures are no part of its place. -/
theorem State.places_modRecord (s : State) (slot : SlotId) {f : Stroke → Stroke} (hf : ∀ r, (f r).place = r.place) :
    s.keepsPlaces (s.modRecord slot f) where
  pending := rfl
  free := rfl
  places := by
    rw [State.places, State.modRecord_records, List.map_map]
    refine List.map_congr_left fun r _ => ?_
    rw [Function.comp_apply, rewriteSlot]
    split
    · exact hf r
    · rfl
  paths _ := ⟨rfl, rfl⟩
  stores _ := ⟨rfl, id⟩

theorem State.places_release (s : State) (r : Stroke) (n : Nat) : s.keepsPlaces (s.release r n) where
  pending := by simp
  free := by simp
  places := State.places_congr (by simp)
  paths k := by rw [State.path_congr (t := s.release r n) (s := s) (by simp)]; exact ⟨rfl, rfl⟩
  stores k := by
    obtain ⟨hst, -⟩ := s.release_givesBackOf r (fun _ => n)
    rw [hst]; exact ⟨rfl, id⟩

theorem State.places_lowerStroke (s : State) (r : Stroke) : s.keepsPlaces (s.lowerStroke r) :=
  (s.places_modRecord r.slot (f := fun x => { x with count := x.count - 1 }) fun _ => rfl).trans
    (State.places_release _ r 1)

/-! ### Records that end -/

/-- The slots of the records that end go on the free list (R95, R101). -/
theorem State.slots_endStrokes (s : State) (how : Stroke → Option (Ending × Nat)) :
    (s.endStrokes how).slots.Perm s.slots := by
  obtain ⟨hrec, hfree⟩ := s.endStrokes_pool how
  have hsplit := (List.filter_append_perm (fun r => (how r).isSome) s.pool.records).map (·.slot)
  rw [List.map_append] at hsplit
  calc (s.endStrokes how).slots
      = (sortSlots ((s.pool.records.filter (fun r => (how r).isSome)).map (·.slot)) ++ s.pool.free) ++
          (s.pool.records.filter (fun r => !(how r).isSome)).map (·.slot) := by rw [State.slots, hrec, hfree]
    _ |>.Perm ((s.pool.free ++ (s.pool.records.filter (fun r => (how r).isSome)).map (·.slot)) ++
          (s.pool.records.filter (fun r => !(how r).isSome)).map (·.slot)) :=
        (((sortSlots_perm _).append_right _).trans List.perm_append_comm).append_right _
    _ |>.Perm s.slots := by rw [List.append_assoc]; exact hsplit.append_left _

theorem State.running_endStrokes (s : State) (how : Stroke → Option (Ending × Nat)) : (s.endStrokes how).running =
    (s.pool.records.filter (fun r => r.state == .running && !(how r).isSome)).map Stroke.place := by
  rw [State.running_eq, (s.endStrokes_pool how).1, List.filter_filter]

theorem State.mem_places_endStrokes {s : State} {how : Stroke → Option (Ending × Nat)} {p : Stroke}
    (h : p ∈ (s.endStrokes how).places) : p ∈ s.places := by
  obtain ⟨r, hr, rfl⟩ := State.mem_places.mp h
  exact State.mem_places.mpr ⟨r, (State.mem_endStrokes.mp hr).1, rfl⟩

/-- An event that drops WAITING records leaves the running ones. -/
theorem State.running_drops (s : State) (chosen : Stroke → Bool) :
    s.keepsRunning (s.endStrokes (dropWhere chosen)) where
  pending := (s.endStrokes_frame _).1
  slots := s.slots_endStrokes _
  live _ hp := .inr (State.mem_places_endStrokes hp)
  running := by
    rw [s.running_endStrokes, s.running_eq]
    refine congrArg _ (List.filter_congr fun r _ => ?_)
    cases hs : r.state <;> simp [dropWhere, hs]
  grants k := congrArg Arbiter.grant (State.path_congr (by simp) k)
  stores k := by rw [s.store_endStrokes]; exact ⟨rfl, id⟩

theorem State.running_markUncertain (s : State) (k : StoreId) : s.keepsRunning (s.markUncertain k) := by
  rw [s.markUncertain_cases]
  split
  · rename_i hready
    have hmark := s.places_modStore k (f := fun x => { x with state := .uncertain }) rfl
      fun hp => absurd (hready.symm.trans hp) nofun
    rw [State.dropWaiting, endOnStore_none]
    exact hmark.keepsRunning.trans (State.running_drops _ _)
  split
  · exact (s.places_modStore k rfl id).keepsRunning
  · exact (State.keepsPlaces.refl s).keepsRunning

theorem State.running_levelReported (s : State) (k : StoreId) : s.keepsRunning (s.levelReported k) := by
  unfold State.levelReported
  split
  · exact s.running_markUncertain k
  · exact (State.keepsPlaces.refl s).keepsRunning

/-! ### Cashboxes -/

theorem State.places_stopRunningSkim (s : State) (k : Kind) : s.keepsPlaces (s.stopRunningSkim k) := by
  unfold State.stopRunningSkim
  split
  · exact .refl s
  split
  · rename_i hchannel
    refine (s.places_modStore _ ?_ ?_).trans (State.places_release _ _ _)
    · rw [hchannel]; rfl
    · exact id
  · exact .refl s
  · exact .refl s

/-! ### Fills -/

theorem State.running_confirmFill (s : State) (k : StoreId) (f : Fill) (rest : List Fill) :
    s.keepsRunning (s.confirmFill k f rest) := by
  have htaken : s.keepsPlaces (s.modStore k (fun x => { x with fills := rest })) :=
    s.places_modStore k rfl id
  unfold State.confirmFill
  dsimp only
  split
  · exact htaken.keepsRunning
  split
  · exact ((htaken.trans (State.places_modStore _ k rfl id)).trans (State.places_book _ _ _ _)).keepsRunning
  · exact htaken.keepsRunning.trans (State.running_markUncertain _ k)

theorem State.running_strayEntry (s : State) (k : StoreId) : s.keepsRunning (s.strayEntry k) := by
  unfold State.strayEntry
  split
  · exact (State.keepsPlaces.refl s).keepsRunning
  split
  · exact (State.keepsPlaces.refl s).keepsRunning
  split
  · have hcounted := s.places_modStore k (f := fun x => { x with physical := x.physical + 1 }) rfl id
    exact (hcounted.trans (State.places_bookAdjusted _ _ 1)).keepsRunning.trans (State.running_markUncertain _ k)
  · exact s.running_markUncertain k

/-! ### Pieces -/

theorem State.places_countedPiece (s : State) (r : Stroke) (d : Denom) : s.keepsPlaces (s.countedPiece r d) := by
  unfold State.countedPiece
  split
  · exact (s.places_modSale _ _).trans (State.places_book _ _ _ _)
  · exact (s.places_modBox _ _).trans (State.places_book _ _ _ _)

/-- The piece that completes a count leaves the stroke on its channel (R121). -/
theorem State.places_drivePiece (s : State) {k : StoreId} {r : Stroke} (d : Denom)
    (hr : (s.store k).channel.slot? = some r.slot) : s.keepsPlaces (s.drivePiece k r d) := by
  have hrec := s.places_modRecord r.slot (f := fun x => { x with delivered := x.delivered + 1 }) fun _ => rfl
  have hstore := hrec.trans (State.places_modStore _ k
    (f := fun x => { x with physical := x.physical - 1, reserved := x.reserved - 1 }) rfl id)
  have hpiece := hstore.trans (State.places_countedPiece _ r d)
  unfold State.drivePiece
  dsimp only
  split
  · exact hpiece
  · refine hpiece.trans (State.places_modStore _ k ?_ id)
    exact (((hpiece.stores k).1).trans hr).symm

theorem State.places_boxOverPay (s : State) (k : Kind) (d : Denom) : s.keepsPlaces (s.boxOverPay k d) := by
  unfold State.boxOverPay
  dsimp only
  split
  · exact s.places_modBox k _
  split
  · split
    · exact (s.places_modBox k _).trans (State.places_lowerStroke _ _)
    · exact (s.places_modBox k _).trans (State.places_modBox _ k _)
  split
  · exact (s.places_modBox k _).trans (State.places_modBox _ k _)
  · exact s.places_bookAdjusted d (-1)

theorem State.places_overPaidPiece (s : State) (r : Stroke) (d : Denom) :
    s.keepsPlaces (s.overPaidPiece r d) := by
  unfold State.overPaidPiece
  split
  · exact (s.places_modSale _ _).trans (State.places_book _ _ _ _)
  · exact (s.places_boxOverPay _ d).trans (State.places_book _ _ _ _)

theorem State.places_absorbDeficit (s : State) (k : StoreId) : s.keepsPlaces (s.absorbDeficit k) := by
  unfold State.absorbDeficit
  split
  · split
    · exact s.places_lowerStroke _
    · exact .refl s
  · exact .refl s

theorem State.running_overPay (s : State) (k : StoreId) (r : Stroke) (d : Denom) :
    s.keepsRunning (s.overPay k r d) := by
  unfold State.overPay
  split
  · have htaken := s.places_modStore k (f := fun x => { x with physical := x.physical - 1 }) rfl id
    have hpaid := (htaken.trans (State.places_overPaidPiece _ r d)).trans (State.places_absorbDeficit _ k)
    exact hpaid.keepsRunning.trans (State.running_drops _ _)
  · have hpaid := (s.places_bookAdjusted d 1).trans (State.places_overPaidPiece _ r d)
    exact (hpaid.keepsRunning.trans (State.running_markUncertain _ k)).trans (State.running_drops _ _)

theorem State.running_unbidden (s : State) (k : StoreId) : s.keepsRunning (s.unbidden k) := by
  have self := (State.keepsPlaces.refl s).keepsRunning
  have counted : s.keepsRunning (if 0 < (s.store k).physical then
      (s.modStore k (fun x => { x with physical := x.physical - 1 })).bookAdjustedStore k (-1) else s) := by
    split
    · exact ((s.places_modStore k rfl id).trans (State.places_bookAdjustedStore _ k _)).keepsRunning
    · exact self
  unfold State.unbidden
  dsimp only
  split
  · exact counted.trans (State.running_markUncertain _ k)
  · exact counted
  · exact counted
  all_goals exact self

/-! ### Pieces taken in and credited -/

theorem State.places_placeLane (s : State) (l : Lane) (q : Option LaneRequest) :
    s.keepsPlaces (s.placeLane l q) := .of_tables rfl rfl rfl rfl

theorem State.places_laneFlag (s : State) (l : Lane) (n : LaneNotice) (v : Bool) :
    s.keepsPlaces (s.laneFlag l n v) := .of_tables rfl rfl rfl rfl

theorem State.places_beginSettle (s : State) (l : Lane) : s.keepsPlaces (s.beginSettle l) := by
  unfold State.beginSettle
  dsimp only
  split
  · exact (s.places_modSale l _).trans (State.places_closeSale _ l _)
  · exact ((s.places_modSale l _).trans (State.places_laneFlag _ l _ _)).trans (State.places_placeLane _ l _)

theorem State.places_beginRefund (s : State) (l : Lane) : s.keepsPlaces (s.beginRefund l) :=
  .of_tables rfl rfl rfl rfl

theorem State.places_creditIfServing (s : State) (l : Lane) (v : Nat) :
    s.keepsPlaces (s.creditIfServing l v) := by
  have hcredited := s.places_modSale l (fun x => { x with tendered := x.tendered + v })
  unfold State.creditIfServing
  split
  · unfold State.credit
    dsimp only
    split
    · split
      · exact hcredited.trans (State.places_beginSettle _ l)
      · exact hcredited.trans (State.places_laneFlag _ l _ _)
    · exact hcredited
  · exact .refl s
  · exact .refl s

theorem State.places_adviseSkim (s : State) (l : Lane) (d : Denom) : s.keepsPlaces (s.adviseSkim l d) := by
  unfold State.adviseSkim
  split
  · exact .of_tables rfl rfl rfl rfl
  · exact .refl s

theorem State.places_applyRoute (s : State) (l : Lane) (k : Kind) (x : Route) :
    s.keepsPlaces (s.applyRoute l k x) := by
  cases x with
  | refuse => exact .refl s
  | store j d => exact (s.places_modStore j rfl id).trans (State.places_creditIfServing _ l _)
  | cashbox d =>
    have hbooked := (s.places_modBox k (fun b => b.setCount d (b.countOf d + 1))).trans
      (State.places_book _ (s.mode l).counter.counter d 1)
    exact (hbooked.trans (State.places_adviseSkim _ l d)).trans (State.places_creditIfServing _ l _)
  | noRoom => exact s.places_laneFlag l _ _

end Sys2Proof.Machine
end

section
/-! SUPPORT. The running strokes through an attempt that completes, a stroke that ends and a stroke that starts
(R91, R100, R101, R118). -/

namespace Sys2Proof.Machine

/-! ### A plan that is written -/

/-- Each stroke of a plan takes its slot from the free list (R95, R100). -/
theorem Pool.write_slots (o : Owner) (origin : Origin) (plan : List Planned) (p : Pool) :
    ((Pool.write o origin plan p).free ++ (Pool.write o origin plan p).records.map (·.slot)).Perm
      (p.free ++ p.records.map (·.slot)) := by
  induction plan generalizing p with
  | nil => exact .refl _
  | cons x xs ih =>
    unfold Pool.write
    split
    · exact .refl _
    · rename_i slot rest hfree
      refine (ih _).trans ?_
      rw [hfree, List.map_append, ← List.append_assoc]
      exact List.perm_append_comm

/-- A plan is written as WAITING records behind those of the pool (R96, R97). -/
theorem Pool.write_records (o : Owner) (origin : Origin) (plan : List Planned) (p : Pool) :
    ∃ new, (Pool.write o origin plan p).records = p.records ++ new ∧ ∀ r ∈ new, r.state = .waiting := by
  induction plan generalizing p with
  | nil => exact ⟨[], (List.append_nil _).symm, nofun⟩
  | cons x xs ih =>
    unfold Pool.write
    split
    · exact ⟨[], (List.append_nil _).symm, nofun⟩
    · rename_i slot rest _
      obtain ⟨new, hrec, hnew⟩ := ih { p with free := rest, records := p.records ++ [x.record o origin slot] }
      refine ⟨x.record o origin slot :: new, ?_, List.forall_mem_cons.mpr ⟨rfl, hnew⟩⟩
      rw [hrec, List.append_assoc]; rfl

theorem State.running_layDown (s : State) (job : Job) (plan : Plan) : s.keepsRunning (s.layDown job plan) := by
  have hpool : (s.layDown job plan).pool = s.pool.write job.owner job.origin plan.strokes := by
    cases job <;> rfl
  obtain ⟨new, hrec, hnew⟩ := s.pool.write_records job.owner job.origin plan.strokes
  refine ⟨by cases job <;> rfl, ?_, fun p hp => ?_, ?_, fun k => by cases job <;> rfl,
    fun k => by cases job <;> exact ⟨rfl, id⟩⟩
  · rw [State.slots, hpool]; exact Pool.write_slots ..
  · obtain ⟨r, hr, rfl⟩ := State.mem_places.mp hp
    rw [hpool, hrec] at hr
    rcases List.mem_append.mp hr with hr | hr
    · exact .inr (State.mem_places.mpr ⟨r, hr, rfl⟩)
    · exact .inl (hnew r hr)
  · have hnone : new.filter (fun r => r.state == .running) = [] :=
      List.filter_eq_nil_iff.mpr fun r hr hs => absurd ((hnew r hr).symm.trans (eq_of_beq hs)) nofun
    rw [State.running_eq, State.running_eq, hpool, hrec, List.filter_append, hnone, List.append_nil]

/-! ### An attempt that completes (R91–R93) -/

theorem State.places_nextMakeup (s : State) (l : Lane) : s.keepsPlaces (s.nextMakeup l) := by
  unfold State.nextMakeup
  split
  · exact s.places_placeLane l _
  · exact .refl s

theorem State.places_handBack (s : State) (job : Job) (plan : Plan) : s.keepsPlaces (s.handBack job plan) := by
  unfold State.handBack
  split
  · exact s.places_modSale _ _
  · exact s.places_modSale _ _
  · exact (s.places_modSale _ _).trans (State.places_nextMakeup _ _)
  · exact .refl s

theorem State.places_handStockChanged (s : State) (job : Job) (target : Nat) :
    s.keepsPlaces (s.handStockChanged job target) := by
  unfold State.handStockChanged
  split
  · exact (s.places_modSale _ _).trans (State.places_laneFlag _ _ _ _)
  · exact s.places_modSale _ _
  · exact (s.places_modSale _ _).trans (State.places_nextMakeup _ _)
  · exact .refl s

theorem State.places_freePlanner (s : State) : s.keepsPlaces s.freePlanner := .of_tables rfl rfl rfl rfl

theorem State.places_completeWithdrawn (s : State) (w : Work) : s.keepsPlaces (s.completeWithdrawn w) := by
  unfold State.completeWithdrawn
  split
  · exact s.places_beginRefund _
  · exact .refl s
  · exact s.places_modSale _ _
  · exact .refl s

theorem State.places_completeRefused (s : State) (w : Work) : s.keepsPlaces (s.completeRefused w) := by
  unfold State.completeRefused
  split
  · exact (s.places_modSale _ _).trans (State.places_laneFlag _ _ _ _)
  · exact .refl s

theorem State.places_recompute (s : State) (w : Work) : s.keepsPlaces (s.recompute w) := by
  unfold State.recompute
  split
  · exact .of_tables rfl rfl rfl rfl
  · exact s.places_freePlanner.trans (State.places_handStockChanged _ _ _)

theorem State.places_reserveAll {s t : State} {xs : List Planned} (h : s.reserveAll xs = some t) :
    s.keepsPlaces t := by
  obtain ⟨heq, hst, -⟩ := State.reserveAll_some h
  refine ⟨by rw [heq], by rw [heq], State.places_congr (by rw [heq]), fun k => ?_, fun k => ?_⟩
  · rw [State.path_congr (t := t) (s := s) (by rw [heq])]; exact ⟨rfl, rfl⟩
  · rw [hst]; exact ⟨rfl, id⟩

/-- An attempt completes, or its plan has more strokes than the pool has free slots (R91, log 17). -/
theorem State.completeAttempt_cases (s : State) (w : Work) :
    (∃ t, s.completeAttempt w = some t ∧ s.keepsRunning t) ∨
    (s.completeAttempt w = none ∧ s.pool.free.length < (w.plan s.limits).strokes.length) := by
  unfold State.completeAttempt
  dsimp only
  split
  · exact .inl ⟨_, rfl, (s.places_freePlanner.trans (State.places_completeWithdrawn _ w)).keepsRunning⟩
  split
  · exact .inl ⟨_, rfl, (s.places_freePlanner.trans (State.places_completeRefused _ w)).keepsRunning⟩
  split
  · exact .inl ⟨_, rfl, (s.places_freePlanner.trans (State.places_handBack _ _ _)).keepsRunning⟩
  split
  · exact .inl ⟨_, rfl, (s.places_recompute w).keepsRunning⟩
  · rename_i u hu
    have hreserved : s.reserveAll (w.plan s.limits).strokes = some u := by
      split at hu
      · exact hu
      · exact absurd hu nofun
    have hkept := State.places_reserveAll hreserved
    split
    · have hlaid := hkept.keepsRunning.trans (u.running_layDown w.job (w.plan s.limits))
      exact .inl ⟨_, rfl, (hlaid.then (State.places_freePlanner _)).then (State.places_handBack _ _ _)⟩
    · rename_i hroom
      exact .inr ⟨rfl, hkept.free ▸ Nat.lt_of_not_le hroom⟩

/-! ### The end of a running stroke -/

/-- The running stroke of a store ends with its channel idle, and the others run on. -/
theorem State.Runs.ends {s t : State} (h : s.Runs) {k : StoreId} (hplaces : ∀ p ∈ t.places, p ∈ s.places)
    (hrun : t.running = s.running.filter (fun p => p.store != k))
    (hgrants : ∀ j, (t.path j).grant = (s.path j).grant) (hidle : (t.store k).channel = .idle)
    (hst : ∀ j, j ≠ k → (t.store j).channel = (s.store j).channel ∧ (t.store j).state = (s.store j).state) :
    t.Runs := by
  have hmem : ∀ p, p ∈ t.running ↔ p ∈ s.running ∧ p.store ≠ k := by
    intro p; rw [hrun, List.mem_filter, bne_iff_ne]
  refine ⟨fun p hp => h.live p (hplaces p hp), fun p hp => ?_, fun p hp => ?_, fun j slot hs => ?_, fun j => ?_⟩
  · rw [hgrants]; exact h.granted p ((hmem p).mp hp).1
  · obtain ⟨hp, hk⟩ := (hmem p).mp hp
    rw [(hst _ hk).1]; exact h.driven p hp
  · by_cases hj : j = k
    · subst hj; rw [hidle] at hs; exact absurd hs nofun
    · rw [(hst j hj).1] at hs
      obtain ⟨hpay, p, hp, hslot, rfl⟩ := h.channels j slot hs
      exact ⟨(hst _ hj).2.trans hpay, p, (hmem p).mpr ⟨hp, hj⟩, hslot, rfl⟩
  · rw [hrun]
    exact ((List.filter_sublist.filter _).length_le).trans (h.single j)

/-- Of the running records an end on a store takes the one of that store (R95, R99). -/
theorem State.Runs.running_endOnStore {s : State} (h : s.Runs) (hpart : s.slotsPartition) {k : StoreId}
    {o : Option SlotId} (ho : (s.store k).channel.slot? = o) (dropWaiting released : Bool) :
    (s.endStrokes (endOnStore o k dropWaiting released)).running =
      s.running.filter (fun p => p.store != k) := by
  rw [s.running_endStrokes, s.running_eq, List.filter_map, List.filter_filter]
  refine congrArg _ (List.filter_congr fun r hr => ?_)
  by_cases hs : r.state = .running
  · have hrun : r.place ∈ s.running := State.mem_running.mpr ⟨r, hr, hs, rfl⟩
    have hslot : some r.slot = o ↔ r.store = k := by
      constructor
      · intro hslot
        obtain ⟨-, p, hp, hpslot, hpstore⟩ := h.channels k r.slot (ho.trans hslot.symm)
        obtain ⟨q, hq, -, rfl⟩ := State.mem_running.mp hp
        exact eq_of_slot_eq (State.records_nodup hpart) hr hq hpslot ▸ hpstore
      · rintro rfl; exact (h.driven _ hrun).symm.trans ho
    by_cases hk : r.store = k
    · simp [endOnStore, hslot.mpr hk, hk, Stroke.place]
    · simp [endOnStore, mt hslot.mp hk, hk, hs, dropWhere, Stroke.place]
  · rw [beq_eq_false_iff_ne.mpr hs, Bool.false_and, Bool.and_false]

/-- An event that ends the running stroke of a store, makes its bookings and frees the store's channel (R101,
R121, R125, R127). -/
theorem State.keepsFollow.endOnStore {s u : State} {k : StoreId} {o : Option SlotId} {dropWaiting released : Bool}
    (ho : (s.store k).channel.slot? = o)
    (hu : (s.endStrokes (Machine.endOnStore o k dropWaiting released)).onlyBooks u) {x : Store}
    (hx : x.channel = .idle) : s.keepsFollow (u.setStore k x).finish := by
  obtain ⟨hpending, -, -, -, -, -, -, hpaths, -⟩ :=
    s.endStrokes_frame (Machine.endOnStore o k dropWaiting released)
  have hstores (j : StoreId) :
      ((s.endStrokes (Machine.endOnStore o k dropWaiting released)).store j).channel = (s.store j).channel ∧
      ((s.endStrokes (Machine.endOnStore o k dropWaiting released)).store j).state = (s.store j).state := by
    rw [s.store_endStrokes]; exact ⟨rfl, rfl⟩
  have hslots := s.slots_endStrokes (Machine.endOnStore o k dropWaiting released)
  have hplaces := fun p => State.mem_places_endStrokes (s := s) (how := Machine.endOnStore o k dropWaiting released)
    (p := p)
  obtain ⟨_, _, _, rfl⟩ := hu
  refine .of_runs hpending hslots fun hpart h => h.ends (k := k) hplaces
    (h.running_endOnStore hpart ho dropWaiting released) (fun j => ?_) ?_ fun j hj => ?_
  · exact congrArg Arbiter.grant (State.path_congr hpaths j)
  · rw [State.store_setStore_self]; exact hx
  · rw [State.store_setStore_ne _ _ _ _ hj]
    exact hstores j

/-- A change that leaves the lanes and the places, before an event. -/
theorem State.keepsFollow.after {s t u : State} (h : s.keepsPlaces t) (lanes : s.keepsLanes t)
    (h' : t.keepsFollow u) : s.keepsFollow u where
  pending := h'.pending.trans h.pending
  partition hs := h'.partition (h.event.partition hs)
  follow hpart hlanes hs := h'.follow (h.event.partition hpart) (lanes.follows hlanes) (h.follows hs)

/-- CASSETTE_OUT (R9, R127). -/
theorem State.keepsFollow.pullCassette (s : State) (k : StoreId) : s.keepsFollow (s.pullCassette k).finish := by
  have hbooked := s.places_bookStore .removed k (s.store k).physical
  have hstores : ∀ j, (s.bookStore .removed k (s.store k).physical).store j = s.store j :=
    State.store_congr (by simp)
  refine .after hbooked ((State.keepsLanes.refl s).bookStore _ _ _) ?_
  rw [s.pullCassette_eq]
  generalize s.bookStore .removed k (s.store k).physical = b at hstores
  exact .endOnStore (congrArg (fun x : Store => x.channel.slot?) (hstores k))
    (State.foldl_bookUnplaced_onlyBooks _ _) rfl

/-! ### The start of a stroke (R118) -/

/-- A record as it starts. -/
def Stroke.run (r : Stroke) : Stroke := { r with state := .running }

/-- The part after STROKE_START, up to the close of the event. -/
def State.started (s : State) (path : Kind) (x : Latch) (ms : Nat) : State :=
  ((s.modRecord x.slot Stroke.run).modStore x.store (fun y => y.start x.slot ms)).modPath path
    (fun a => { a with latch := none })

section
variable {s : State} {path : Kind} {x : Latch} {ms : Nat}

theorem State.started_path (k : Kind) : ((s.started path x ms).path k).grant = (s.path k).grant ∧
    ((s.started path x ms).path k).latch = if k = path then none else (s.path k).latch := by
  by_cases hk : k = path
  · subst hk; rw [State.started, State.path_modPath_self, if_pos rfl]; exact ⟨rfl, rfl⟩
  · rw [State.started, State.path_modPath_ne _ _ _ _ hk, if_neg hk]; exact ⟨rfl, rfl⟩

theorem State.started_store (j : StoreId) : (s.started path x ms).store j =
    if j = x.store then (s.store x.store).start x.slot ms else s.store j :=
  State.store_modStore (s.modRecord x.slot Stroke.run) x.store j (fun y => y.start x.slot ms)

theorem State.started_slots : (s.started path x ms).slots = s.slots := by
  refine congrArg (s.pool.free ++ ·) ?_
  rw [State.started, State.modPath_pool, State.modStore_pool, State.modRecord_records, List.map_map]
  refine List.map_congr_left fun r _ => ?_
  rw [Function.comp_apply, rewriteSlot]
  split <;> rfl

variable (hpart : s.slotsPartition) {r : Stroke} (hr : r ∈ s.pool.records) (hx : r.latch = x)
include hpart hr hx

/-- The one record of the latch's slot starts, and the others stand. -/
theorem State.mem_started {q : Stroke} : q ∈ (s.started path x ms).pool.records ↔
    q = r.run ∨ (q ∈ s.pool.records ∧ q ≠ r) := by
  have hslot : r.slot = x.slot := congrArg Latch.slot hx
  have hown : ∀ q ∈ s.pool.records, q.slot = x.slot → q = r := fun q hq h =>
    eq_of_slot_eq (State.records_nodup hpart) hr hq (h.trans hslot.symm)
  rw [State.started, State.modPath_pool, State.modStore_pool, State.modRecord_records, List.mem_map]
  constructor
  · rintro ⟨q, hq, rfl⟩
    unfold rewriteSlot
    split
    · rename_i h; exact .inl (congrArg Stroke.run (hown q hq h))
    · rename_i h; exact .inr ⟨hq, fun he => h (he ▸ hslot)⟩
  · rintro (rfl | ⟨hq, hne⟩)
    · exact ⟨r, hr, if_pos hslot⟩
    · exact ⟨q, hq, if_neg fun h => hne (hown q hq h)⟩

theorem State.mem_places_started {p : Stroke} (hp : p ∈ (s.started path x ms).places) :
    p = r.run.place ∨ p ∈ s.places := by
  obtain ⟨q, hq, rfl⟩ := State.mem_places.mp hp
  rcases (State.mem_started hpart hr hx).mp hq with rfl | ⟨hq, -⟩
  · exact .inl rfl
  · exact .inr (State.mem_places.mpr ⟨q, hq, rfl⟩)

theorem State.mem_running_started (hw : r.state = .waiting) {p : Stroke} :
    p ∈ (s.started path x ms).running ↔ p = r.run.place ∨ p ∈ s.running := by
  constructor
  · intro hp
    obtain ⟨q, hq, hs, rfl⟩ := State.mem_running.mp hp
    rcases (State.mem_started hpart hr hx).mp hq with rfl | ⟨hq, -⟩
    · exact .inl rfl
    · exact .inr (State.mem_running.mpr ⟨q, hq, hs, rfl⟩)
  · rintro (rfl | hp)
    · exact State.mem_running.mpr ⟨r.run, (State.mem_started hpart hr hx).mpr (.inl rfl), rfl, rfl⟩
    · obtain ⟨q, hq, hs, rfl⟩ := State.mem_running.mp hp
      refine State.mem_running.mpr ⟨q, (State.mem_started hpart hr hx).mpr (.inr ⟨hq, ?_⟩), hs, rfl⟩
      rintro rfl
      exact absurd (hw.symm.trans hs) nofun

theorem State.LatchFollows.started {k : Kind} (hl : s.LatchFollows k) (hw : r.state = .waiting)
    (hpath : r.path = path) :
    (s.started path x ms).LatchFollows k := by
  obtain ⟨hgrant, hlatch⟩ := State.started_path (s := s) (path := path) (x := x) (ms := ms) k
  by_cases hk : k = path
  · rw [if_pos hk] at hlatch
    exact ⟨fun y hy => absurd (hlatch.symm.trans hy) nofun, fun _ _ _ => hlatch⟩
  · rw [if_neg hk] at hlatch
    refine ⟨fun y hy => ?_, fun p hp hpk => ?_⟩
    · obtain ⟨p, hp, hpl, hpk, hrest⟩ := hl.names y (hlatch ▸ hy)
      obtain ⟨q, hq, rfl⟩ := State.mem_places.mp hp
      rw [hgrant]
      refine ⟨q.place, State.mem_places.mpr ⟨q, (State.mem_started hpart hr hx).mpr (.inr ⟨hq, ?_⟩), rfl⟩, hpl,
        hpk, hrest⟩
      rintro rfl
      exact hk (hpk.symm.trans hpath)
    · rw [hlatch]
      rcases (State.mem_running_started hpart hr hx hw).mp hp with rfl | hp
      · exact absurd (hpk.symm.trans hpath) hk
      · exact hl.rests p hp hpk

variable (h : s.Runs) (hw : r.state = .waiting) (hidle : ∀ p ∈ s.running, p.path ≠ path) (hpath : r.path = path)
include h hw hidle hpath

/-- The started stroke runs on its path alone (R99). -/
theorem State.started_single (k : Kind) :
    ((s.started path x ms).running.filter (fun p => p.path == k)).length ≤ 1 := by
  have hnodup : (s.started path x ms).slots.Nodup := by
    rw [State.started_slots]; exact hpart.nodup
  have hlist : ((s.started path x ms).running.filter (fun p => p.path == k)).Nodup :=
    ((State.places_nodup hnodup).filter _).filter _
  have hmem : ∀ p ∈ (s.started path x ms).running.filter (fun p => p.path == k),
      (p = r.run.place ∧ k = path) ∨ (p ∈ s.running.filter (fun p => p.path == k) ∧ k ≠ path) := by
    intro p hp
    obtain ⟨hp, hk⟩ := List.mem_filter.mp hp
    rcases (State.mem_running_started hpart hr hx hw).mp hp with rfl | hp
    · exact .inl ⟨rfl, (eq_of_beq hk).symm.trans hpath⟩
    · exact .inr ⟨List.mem_filter.mpr ⟨hp, hk⟩, fun he => hidle p hp ((eq_of_beq hk).trans he)⟩
  by_cases hk : k = path
  · exact (List.subperm_of_subset hlist (l₂ := [r.run.place]) fun p hp =>
      List.mem_singleton.mpr ((hmem p hp).resolve_right fun he => he.2 hk).1).length_le
  · exact (List.subperm_of_subset hlist fun p hp =>
      ((hmem p hp).resolve_left fun he => hk he.2).1).length_le.trans (h.single k)

theorem State.Runs.started (hready : (s.store x.store).state = .ready)
    (howner : (s.path path).grant.owner? = some r.owner) :
    (s.started path x ms).Runs := by
  have hstore : r.store = x.store := congrArg Latch.store hx
  have hslot : r.slot = x.slot := congrArg Latch.slot hx
  have hmem := fun p => State.mem_running_started (p := p) (path := path) (ms := ms) hpart hr hx hw
  have hother : ∀ p ∈ s.running, p.store ≠ x.store := by
    intro p hp he
    obtain ⟨hpay, -⟩ := h.channels _ _ (h.driven p hp)
    rw [he, hready] at hpay
    exact absurd hpay nofun
  refine ⟨fun p hp => ?_, fun p hp => ?_, fun p hp => ?_, fun k slot hs => ?_,
    State.started_single hpart hr hx h hw hidle hpath⟩
  · rcases State.mem_places_started hpart hr hx hp with rfl | hp
    · exact .inr rfl
    · exact h.live p hp
  · rw [(State.started_path _).1]
    rcases (hmem p).mp hp with rfl | hp
    · exact (congrArg (fun k => (s.path k).grant.owner?) hpath).trans howner
    · exact h.granted p hp
  · rw [State.started_store]
    rcases (hmem p).mp hp with rfl | hp
    · exact (congrArg (fun y : Store => y.channel.slot?) (if_pos hstore)).trans (congrArg some hslot.symm)
    · exact (congrArg (fun y : Store => y.channel.slot?) (if_neg (hother p hp))).trans (h.driven p hp)
  · rw [State.started_store] at hs ⊢
    split at hs
    · rename_i hk
      rw [if_pos hk]
      exact ⟨rfl, r.run.place, (hmem _).mpr (.inl rfl), hslot.trans (Option.some.inj hs), hstore.trans hk.symm⟩
    · rename_i hk
      rw [if_neg hk]
      obtain ⟨hpay, p, hp, hrest⟩ := h.channels k slot hs
      exact ⟨hpay, p, (hmem p).mpr (.inr hp), hrest⟩

end

/-- STROKE_START (R118): the latched record runs on its READY store, whose channel was idle, and its path's latch is
emptied. -/
theorem State.keepsFollow.start {s : State} {path : Kind} {x : Latch} (hx : (s.path path).latch = some x)
    (hm : s.mayStart path x = true) (ms : Nat) : s.keepsFollow (s.started path x ms).closeEvent := by
  have hready : (s.store x.store).state = .ready := by
    simp only [State.mayStart, Bool.and_eq_true, beq_iff_eq] at hm
    exact hm.1.2
  have hclose := (s.started path x ms).places_closeEvent
  refine ⟨rfl, fun hpart => ?_, fun hpart _ hs => hclose.follows ?_⟩
  · have hslots : (s.started path x ms).slots.Perm freeSlots := by rw [State.started_slots]; exact hpart
    exact hclose.event.partition hslots
  · obtain ⟨h, hl⟩ := s.strokesFollow_iff.mp hs
    obtain ⟨p, hp, hpl, hpk, hw, howner⟩ := (hl path).names x hx
    obtain ⟨r, hr, rfl⟩ := State.mem_places.mp hp
    have hidle : ∀ p ∈ s.running, p.path ≠ path := fun p hp hk =>
      absurd (((hl path).rests p hp hk).symm.trans hx) nofun
    exact State.strokesFollow_iff _ |>.mpr ⟨h.started hpart hr hpl hw hidle hpk hready howner,
      fun k => (hl k).started hpart hr hpl hw hpk⟩

end Sys2Proof.Machine
end

section
/-! SUPPORT. The running strokes through the requests and through the link. -/

namespace Sys2Proof.Machine

theorem State.keepsPlaces.finish {s t : State} (h : s.keepsPlaces t) : s.keepsFollow t.finish :=
  h.keepsRunning.finish

/-- An event behind which the records stay at their places. -/
theorem State.keepsFollow.then {s t u : State} (h : s.keepsFollow t) (h' : t.keepsPlaces u) : s.keepsFollow u where
  pending := h'.pending.trans h.pending
  partition hs := h'.event.partition (h.partition hs)
  follow hpart hlanes hs := h'.follows (h.follow hpart hlanes hs)

/-! ### Requests that touch no sale, stroke or plan -/

section
variable (s : State)

theorem places_turnNotice (v : Bool) (p : Port) (payload : List Byte) :
    s.keepsPlaces (turnNotice v p payload s).1 := by
  unfold turnNotice
  split
  · split <;> exact .of_tables rfl rfl rfl rfl
  · split <;> exact .of_tables rfl rfl rfl rfl
  · exact .refl s

theorem places_dismissNotice (p : Port) (payload : List Byte) :
    s.keepsPlaces (dismissNotice p payload s).1 := by
  unfold dismissNotice
  split
  · split
    · split <;> exact .of_tables rfl rfl rfl rfl
    · exact .refl s
  · split
    · split <;> exact .of_tables rfl rfl rfl rfl
    · exact .refl s
  · exact .refl s

theorem readPlan_state (p : Port) (payload : List Byte) : (readPlan p payload s).1 = s := by
  unfold readPlan
  split
  · rfl
  · split <;> rfl
  · rfl

theorem readStore_state (payload : List Byte) : (readStore payload s).1 = s := by
  unfold readStore
  split
  · split
    · rfl
    split
    · rfl
    split <;> rfl
  · rfl

theorem readTotals_state (payload : List Byte) : (readTotals payload s).1 = s := by
  unfold readTotals
  split
  · split
    · rfl
    split
    · rfl
    split <;> rfl
  · rfl

theorem readProfile_state (payload : List Byte) : (readProfile payload s).1 = s := by
  unfold readProfile
  split
  · split
    · rfl
    split <;> rfl
  · rfl

theorem restart_state : (restart s).1 = s := by unfold restart; split <;> rfl

theorem places_writeClassEntry (payload : List Byte) : s.keepsPlaces (writeClassEntry payload s).1 := by
  unfold writeClassEntry
  split
  · split
    · exact .refl s
    split
    · split <;> exact .of_tables rfl rfl rfl rfl
    · exact .refl s
  · exact .refl s

theorem places_writeLimits (payload : List Byte) : s.keepsPlaces (writeLimits payload s).1 := by
  unfold writeLimits
  split
  · split
    · exact .refl s
    · refine State.keepsPlaces.closeEvent ?_
      exact .of_tables rfl rfl rfl rfl
  · exact .refl s

theorem places_writeProfileEntry (payload : List Byte) : s.keepsPlaces (writeProfileEntry payload s).1 := by
  unfold writeProfileEntry
  split
  · split <;> exact .of_tables rfl rfl rfl rfl
  · exact .refl s

theorem places_commitProfile : s.keepsPlaces (commitProfile s).1 := by
  unfold commitProfile
  split
  · exact .refl s
  · exact State.keepsPlaces.closeEvent (.of_tables (by simp) (by simp) (by simp) (by simp))

theorem places_closeShift : s.keepsPlaces (closeShift s).1 := by
  unfold closeShift
  split
  · exact .refl s
  · refine State.keepsPlaces.closeEvent ?_
    exact .of_tables rfl rfl rfl rfl

variable {s}

/-- A store that is not PAYING goes to a state. -/
theorem State.places_putStore {k : StoreId} (h : (s.store k).state ≠ .paying) (x : StoreState) :
    s.keepsPlaces (s.putStore k x) :=
  (s.places_modStore k (f := fun y => { y with state := x }) rfl fun hp => absurd hp h).closeEvent

variable (s)

theorem places_disableOne (k : StoreId) : s.keepsPlaces (disableOne k s).1 := by
  unfold disableOne
  split
  · exact .refl s
  · exact .refl s
  · exact .refl s
  all_goals
    rename_i hstate
    split
    · exact State.places_putStore (by rw [hstate]; nofun) _
    · exact .refl s

theorem places_enableOne (k : StoreId) : s.keepsPlaces (enableOne k s).1 := by
  unfold enableOne
  split
  · rename_i h
    exact State.places_putStore (by rw [h.1]; nofun) _
  · exact .refl s

theorem places_clearJamOne (k : StoreId) : s.keepsPlaces (clearJamOne k s).1 := by
  unfold clearJamOne
  split
  · rename_i hstate
    exact State.places_putStore (by rw [hstate]; nofun) _
  · exact .refl s

theorem Store.not_paying_of_declarable {x : Store} (h : x.declarable = true) : x.state ≠ .paying := by
  intro hp
  rw [Store.declarable, hp] at h
  exact absurd h nofun

theorem places_declareCount (payload : List Byte) : s.keepsPlaces (declareCount payload s).1 := by
  unfold declareCount
  split
  · split
    · exact .refl s
    rename_i k _
    split
    · exact .refl s
    rename_i hdecl
    rw [Bool.not_eq_true', Bool.not_eq_false] at hdecl
    split
    · exact .refl s
    split
    · exact .refl s
    · have hset (n : Nat) := s.places_modStore k (f := fun x => { x with physical := n, state := .ready }) rfl
        fun hp => absurd hp (Store.not_paying_of_declarable hdecl)
      exact ((hset _).trans (State.places_bookAdjustedStore _ k _)).closeEvent
  · exact .refl s

theorem State.keepsPlaces.of_onlyBooks {t : State} (h : s.onlyBooks t) : s.keepsPlaces t := by
  obtain ⟨_, _, _, rfl⟩ := h
  exact .of_tables rfl rfl rfl rfl

theorem places_cashboxEmptied (payload : List Byte) : s.keepsPlaces (cashboxEmptied payload s).1 := by
  unfold cashboxEmptied
  split
  · split
    · exact .refl s
    split
    · exact ((State.keepsPlaces.of_onlyBooks s (State.bookEmptied_onlyBooks _ _ s)).trans
        (State.places_modBox _ _ _)).closeEvent
    · exact .refl s
  · exact .refl s

theorem places_performRequest {r : Request} (hr : sparesBooks r = true) (p : Port) (payload : List Byte) :
    s.keepsPlaces (performRequest r p payload s).1 := by
  have self := State.keepsPlaces.refl s
  have still {t : State} (h : t = s) : s.keepsPlaces t := h ▸ self
  cases r with
  | readTender => exact onLane_keeps self (fun _ => self) p
  | readStock => exact onLane_keeps self (fun _ => self) p
  | readPlan => exact still (readPlan_state s p payload)
  | readNotices => cases p <;> exact self
  | enableNotice => exact places_turnNotice s true p payload
  | disableNotice => exact places_turnNotice s false p payload
  | dismissNotice => exact places_dismissNotice s p payload
  | readStore => exact still (readStore_state s payload)
  | readTotals => exact still (readTotals_state s payload)
  | readProfile => exact still (readProfile_state s payload)
  | writeClassEntry => exact places_writeClassEntry s payload
  | writeLimits => exact places_writeLimits s payload
  | writeProfileEntry => exact places_writeProfileEntry s payload
  | commitProfile => exact places_commitProfile s
  | declareCount => exact places_declareCount s payload
  | clearJam => exact onStore_keeps self (places_clearJamOne s) payload
  | enableStore => exact onStore_keeps self (places_enableOne s) payload
  | disableStore => exact onStore_keeps self (places_disableOne s) payload
  | cashboxEmptied => exact places_cashboxEmptied s payload
  | closeShift => exact places_closeShift s
  | restart => exact still (restart_state s)
  | _ => exact absurd hr nofun

/-! ### The other requests -/

theorem places_openSale (l : Lane) (payload : List Byte) : s.keepsPlaces (openSale l payload s).1 := by
  unfold openSale
  split
  · split
    · exact .refl s
    split
    · exact .refl s
    split
    · exact .refl s
    split
    · exact .refl s
    · exact ((s.places_modSale l _).trans (State.places_clearTallies _ _)).closeEvent
  · exact .refl s

theorem keepsFollow_settle (l : Lane) (payload : List Byte) : s.keepsFollow (settle l payload s).1 := by
  have self := (State.keepsPlaces.refl s).event
  have hflag := s.places_laneFlag l .settleRefused false
  unfold settle
  split
  · split
    · exact self
    split
    · exact self
    dsimp only
    split
    · exact hflag.closeEvent.event
    · exact ((hflag.trans (State.places_modSale _ l _)).trans (State.places_beginSettle _ l)).finish
  · exact self

theorem keepsFollow_cancelSale (l : Lane) : s.keepsFollow (cancelSale l s).1 := by
  have self := (State.keepsPlaces.refl s).event
  unfold cancelSale
  split
  · split
    · exact (s.places_closeSale l _).finish
    · exact (s.places_beginRefund l).finish
  · split
    · split
      · exact (s.places_beginRefund l).finish
      · exact (s.places_modSale l _).closeEvent.event
    · exact self
  all_goals exact self

theorem State.places_withdrawMakeup (l : Lane) : s.keepsPlaces (s.withdrawMakeup l) := by
  unfold State.withdrawMakeup
  split
  · exact s.places_placeLane l none
  · exact .refl s

theorem keepsFollow_haltPayout (l : Lane) : s.keepsFollow (haltPayout l s).1 := by
  have self := (State.keepsPlaces.refl s).event
  unfold haltPayout
  split
  · exact self
  split
  · exact self
  · have hhalted := (s.places_modSale l Sale.halt).trans (State.places_withdrawMakeup _ l)
    exact (hhalted.keepsRunning.trans (State.running_drops _ _)).finish

theorem keepsFollow_collect (l : Lane) : s.keepsFollow (collect l s).1 := by
  unfold collect
  split
  · exact (s.places_closeSale l _).finish
  · exact (State.keepsPlaces.refl s).event

theorem State.places_retract (l : Lane) (ds : List Denom) : s.keepsPlaces (ds.foldl (State.retractOne l) s) := by
  induction ds generalizing s with
  | nil => exact .refl s
  | cons d ds ih =>
    have hone : s.keepsPlaces (State.retractOne l s d) := by
      unfold State.retractOne
      exact ((s.places_modBox .note _).trans (State.places_book _ .retracted d _)).trans (State.places_modSale _ l _)
    exact hone.trans (ih (State.retractOne l s d))

theorem places_retractNotes (l : Lane) : s.keepsPlaces (retractNotes l s).1 := by
  unfold retractNotes
  split
  · exact .refl s
  split
  · exact .refl s
  split
  · exact .refl s
  · refine State.keepsPlaces.closeEvent ?_
    exact (s.places_retract l (s.noteDenoms l)).trans (.of_tables rfl rfl rfl rfl)

theorem places_readCompletion (l : Lane) : s.keepsPlaces (readCompletion l s).1 := by
  unfold readCompletion
  split
  · refine State.keepsPlaces.closeEvent ?_
    exact .of_tables rfl rfl rfl rfl
  · exact .refl s

theorem State.places_enterMode (l : Lane) (m : Mode) : s.keepsPlaces (s.enterMode l m) := by
  unfold State.enterMode
  split
  · exact .refl s
  · refine State.keepsPlaces.closeEvent ?_
    exact .of_tables rfl rfl rfl rfl

theorem places_setLaneMode (p : Port) (payload : List Byte) : s.keepsPlaces (setLaneMode p payload s).1 := by
  unfold setLaneMode
  split
  · unfold setModeFromLane
    split
    · exact .refl s
    split
    · exact .refl s
    split
    · exact .refl s
    · exact s.places_enterMode _ _
  · unfold setModeFromOffice
    split
    · split
      · exact .refl s
      · exact s.places_enterMode _ _
    · exact .refl s
    · exact .refl s
  · exact .refl s

theorem State.places_writeEntry (d : Denom) (v : Nat) (k : Kind) (e : Bool) :
    s.keepsPlaces (s.writeEntry d v k e) := by
  unfold State.writeEntry
  dsimp only
  split <;> exact .of_tables rfl rfl rfl rfl

theorem places_writeDenomination (payload : List Byte) : s.keepsPlaces (writeDenomination payload s).1 := by
  unfold writeDenomination
  split
  · dsimp only
    split
    · exact .refl s
    split
    · split
      · exact .refl s
      split
      · exact .refl s
      split
      · exact .refl s
      split
      · exact .refl s
      · exact (s.places_writeEntry _ _ _ _).closeEvent
    · exact .refl s
  · exact .refl s

theorem places_assignStore (payload : List Byte) : s.keepsPlaces (assignStore payload s).1 := by
  unfold assignStore
  split
  · dsimp only
    split
    · exact .refl s
    split
    · split
      · exact .refl s
      split
      · exact .refl s
      split
      · exact .refl s
      split
      · exact .refl s
      · rename_i hpaying
        exact (s.places_modStore _ (by rfl) fun hp => absurd hp hpaying).closeEvent
    · exact .refl s
  · exact .refl s

theorem State.keepsFollow.beginSkim (r : SkimRequest) : s.keepsFollow (s.beginSkim r) := by
  refine State.keepsPlaces.finish ?_
  exact (s.places_clearTallies .office).trans (.of_tables rfl rfl rfl rfl)

theorem keepsFollow_stopSkim : s.keepsFollow (stopSkim s).1 := by
  unfold stopSkim
  split
  · have hstopped : s.keepsPlaces ({ s with planner := s.planner.stopSkim }.placeSkim none) :=
      .of_tables rfl rfl rfl rfl
    exact (hstopped.keepsRunning.trans (State.running_drops _ _)).finish
  · exact (State.keepsPlaces.refl s).event

variable {s}

/-- With both lanes CLOSED and no skim live the pool holds no record (R26, R100, R141). -/
theorem State.laneWorkFollows.no_records (h : s.laneWorkFollows) (hclosed : s.bothClosed = true)
    (hskim : s.skimLive = false) : s.pool.records = [] := by
  refine List.eq_nil_iff_forall_not_mem.mpr fun r hr => ?_
  cases howner : r.owner with
  | lane l =>
    exact absurd ((h.idle_of_bothClosed hclosed l).symm.trans ((h.lane l).pays r hr howner)) nofun
  | office =>
    have hchain : r ∈ s.pool.chain .office r.path := State.mem_chain.mpr ⟨hr, howner, rfl⟩
    simp only [State.skimLive, Bool.or_eq_false_iff, State.chainEmpty, Bool.not_eq_false',
      List.isEmpty_iff] at hskim
    cases hpath : r.path with
    | coin => exact List.ne_nil_of_mem (hpath ▸ hchain) hskim.1.2
    | note => exact List.ne_nil_of_mem (hpath ▸ hchain) hskim.2

/-- Tables cleared while no record stands: nothing ran, and no channel was busy. -/
theorem State.strokesFollow.clearTables (h : s.strokesFollow) (hnone : s.pool.records = []) :
    s.closeTotals.clearTables.strokesFollow := by
  obtain ⟨hruns, hlatches⟩ := s.strokesFollow_iff.mp h
  have hrunning : s.running = [] := by rw [s.running_eq, hnone]; rfl
  have hstore (k : StoreId) : s.closeTotals.clearTables.store k = (s.store k).unassign :=
    mapTable_get Store.unassign s.stores k
  have hidle (p : Stroke) (hp : p ∈ s.running) : False := List.not_mem_nil (hrunning ▸ hp)
  refine State.strokesFollow_iff _ |>.mpr ⟨⟨hruns.live, hruns.granted, fun p hp => (hidle p hp).elim,
    fun k slot hs => ?_, hruns.single⟩, fun k => ⟨(hlatches k).names, (hlatches k).rests⟩⟩
  rw [hstore] at hs
  obtain ⟨-, p, hp, -⟩ := hruns.channels k slot hs
  exact (hidle p hp).elim

variable (s)

theorem keepsFollow_clearCurrency : s.keepsFollow (clearCurrency s).1 := by
  have self := (State.keepsPlaces.refl s).event
  unfold clearCurrency
  split
  · exact self
  rename_i hallowed
  split
  · exact self
  · simp only [State.clearAllowed, Bool.not_eq_true', Bool.not_eq_false, Bool.and_eq_true] at hallowed
    obtain ⟨⟨⟨hclosed, -⟩, hskim⟩, -⟩ := hallowed
    have hcleared : s.keepsFollow s.closeTotals.clearTables :=
      ⟨rfl, id, fun _ hlanes h => h.clearTables (hlanes.no_records hclosed hskim)⟩
    exact hcleared.then (State.places_closeEvent _)

theorem keepsFollow_performRequest (r : Request) (p : Port) (payload : List Byte) :
    s.keepsFollow (performRequest r p payload s).1 := by
  have self := (State.keepsPlaces.refl s).event
  by_cases hr : sparesBooks r = true
  · exact (places_performRequest s hr p payload).event
  cases r with
  | openSale => exact onLane_keeps self (fun l => (places_openSale s l payload).event) p
  | settle => exact onLane_keeps self (fun l => keepsFollow_settle s l payload) p
  | cancelSale => exact onLane_keeps self (keepsFollow_cancelSale s) p
  | haltPayout => exact onLane_keeps self (keepsFollow_haltPayout s) p
  | collect => exact onLane_keeps self (keepsFollow_collect s) p
  | retractNotes => exact onLane_keeps self (fun l => (places_retractNotes s l).event) p
  | readCompletion => exact onLane_keeps self (fun l => (places_readCompletion s l).event) p
  | setLaneMode => exact (places_setLaneMode s p payload).event
  | writeDenomination => exact (places_writeDenomination s payload).event
  | assignStore => exact (places_assignStore s payload).event
  | clearCurrency => exact keepsFollow_clearCurrency s
  | stopSkim => exact keepsFollow_stopSkim s
  | skimToTarget =>
    unfold performRequest skimToTarget
    dsimp only
    split
    · exact self
    · exact .beginSkim s _
  | emptyStore =>
    refine onStore_keeps self (fun k => ?_) payload
    split
    · exact self
    · exact .beginSkim s _
  | _ => exact absurd rfl hr

end

/-! ### The link -/

/-- A request behind what leaves the lanes and the places keeps the running strokes, and the ports are no part of
them. -/
theorem keepsFollow_requestsKeep (s : State) :
    RequestsKeep (fun t => s.keepsPlaces t ∧ s.keepsLanes t) s.keepsFollow where
  portBefore _ _ _ h := ⟨h.1.trans (.of_tables rfl rfl rfl rfl), h.2.same rfl rfl rfl⟩
  portAfter _ _ _ h := h.then (.of_tables rfl rfl rfl rfl)
  still _ h := h.1.event
  restarts _ h := .then h.1.event (.of_tables rfl rfl rfl rfl)
  performs t r p payload h := .after h.1 h.2 (keepsFollow_performRequest t r p payload)

end Sys2Proof.Machine
end

section
/-! PROOF. Every command answers, and every step keeps the forty slots and the running strokes (O2, O8, O10). -/

namespace Sys2Proof.Machine

/-! ### Start-up -/

/-- A part at rest: the pool as at start-up, nothing latched and no channel busy. -/
theorem State.keepsFollow_of_quiet {s t : State} (hpending : t.pending = s.pending)
    (hpool : t.pool = Pool.atStartUp) (hlatch : ∀ k, (t.path k).latch = none)
    (hidle : ∀ k, (t.store k).channel = .idle) : s.keepsFollow t where
  pending := hpending
  partition _ := by rw [State.slotsPartition, hpool]; exact .refl _
  follow _ _ _ := by
    have hplaces : t.places = [] := State.places_congr (s := { t with pool := Pool.atStartUp }) hpool
    have hrunning : t.running = [] := by rw [State.running, hplaces]; rfl
    refine t.strokesFollow_iff.mpr ⟨⟨?_, ?_, ?_, fun k slot hs => ?_, fun k => ?_⟩, fun k => ⟨fun x hx => ?_, ?_⟩⟩
    · rw [hplaces]; nofun
    · rw [hrunning]; nofun
    · rw [hrunning]; nofun
    · rw [hidle k] at hs; exact absurd hs nofun
    · rw [hrunning]; exact Nat.zero_le 1
    · rw [hlatch k] at hx; exact absurd hx nofun
    · rw [hrunning]; nofun

/-! ### The events -/

section
variable {s t : State}

theorem State.keepsFollow.refl (s : State) : s.keepsFollow s := (State.keepsPlaces.refl s).event

/-- An event of the running part. -/
theorem State.keepsFollow.running {e : State → State} (keeps : s.keepsFollow (e s))
    (ht : s.whileRunning e = .next t) : s.keepsFollow t :=
  State.whileRunning_keeps (fun _ => keeps) (fun _ => .refl s) ht

/-- A sensor's report before an event. -/
theorem State.keepsFollow.withPins {pins : Pins} (h : ({ s with pins := pins }).keepsFollow t) : s.keepsFollow t :=
  .after (t := { s with pins := pins }) (.of_tables rfl rfl rfl rfl) (.of_same rfl rfl rfl) h

theorem keepsFollow_startUp (ht : execStartUp s = .next t) : s.keepsFollow t := by
  obtain rfl := Host.Outcome.next.inj ht
  refine State.keepsFollow_of_quiet ?_ ?_ (fun k => ?_) fun k => ?_
  · rw [startedUp_eq]; rfl
  · rw [startedUp_eq]; rfl
  · rw [startedUp_eq]; cases k <;> rfl
  · obtain ⟨-, -, -, -, hchannel⟩ := s.retained.stores[k].restore.recovered_rest s.pins k rfl rfl
    rw [startedUp_store]; exact hchannel

theorem keepsFollow_powerLoss (ht : execPowerLoss s = .next t) : s.keepsFollow t := by
  obtain rfl := Host.Outcome.next.inj ht
  refine State.keepsFollow_of_quiet rfl rfl (fun k => by cases k <;> rfl) fun k => ?_
  exact congrArg Store.channel (mapTable_get RetainedStore.restore s.retained.stores k)

theorem keepsFollow_managerKeyChange {l : Lane} {turned : Bool} (ht : execManagerKeyChange l turned s = .next t) :
    s.keepsFollow t := by
  obtain rfl := Host.Outcome.next.inj ht
  exact .withPins (.refl _)

theorem keepsFollow_headStrobe {l : Lane} {k : Kind} {code : ClassCode} (ht : execHeadStrobe l k code s = .next t) :
    s.keepsFollow t := by
  refine .running ?_ ht
  split
  · exact State.keepsPlaces.event (.of_tables rfl rfl rfl rfl)
  · exact .refl s

theorem keepsFollow_routeDecision {l : Lane} {k : Kind} (ht : execRouteDecision l k s = .next t) :
    s.keepsFollow t := by
  refine .running ?_ ht
  split
  · exact .refl s
  · rename_i code _
    have hset : s.keepsPlaces ((s.applyRoute l k (s.route l k code)).setHead l k
        { latch := none, answer := some (s.route l k code).answer }) :=
      (s.places_applyRoute l k _).trans (.of_tables rfl rfl rfl rfl)
    generalize State.setHead _ _ _ _ = u at hset
    cases s.route l k code with
    | refuse => exact hset.closeEvent.event
    | noRoom => exact hset.closeEvent.event
    | store => exact hset.finish
    | cashbox => exact hset.finish

theorem keepsFollow_entryPulse {k : StoreId} (ht : execEntryPulse k s = .next t) : s.keepsFollow t := by
  refine .running ?_ ht
  split
  · exact (s.running_confirmFill k _ _).finish
  · exact (s.running_strayEntry k).finish

theorem keepsFollow_routeWindowExpiry {k : StoreId} (ht : execRouteWindowExpiry k s = .next t) :
    s.keepsFollow t := by
  refine .running ?_ ht
  split
  · rename_i f rest _
    have hbooked := (s.places_modStore k (f := fun x => { x with fills := rest }) rfl id).trans
      (State.places_bookUnplaced _ f)
    exact (hbooked.keepsRunning.trans (State.running_markUncertain _ k)).finish
  · exact .refl s

theorem keepsFollow_cassetteOut {k : StoreId} (ht : execCassetteOut k s = .next t) : s.keepsFollow t := by
  refine .withPins (.running ?_ ht)
  split
  · exact .refl _
  · exact .pullCassette _ k

theorem keepsFollow_cassetteIn {k : StoreId} (ht : execCassetteIn k s = .next t) : s.keepsFollow t := by
  refine .withPins (.running ?_ ht)
  split
  · rename_i habsent
    exact (State.places_modStore _ k (f := Store.newCassette) rfl
      fun hp => absurd (habsent.symm.trans hp) nofun).closeEvent.event
  · exact .refl _

theorem keepsFollow_emptyLevelReport {k : StoreId} (ht : execEmptyLevelReport k s = .next t) :
    s.keepsFollow t := by
  unfold execEmptyLevelReport at ht
  split at ht
  · obtain rfl := Host.Outcome.next.inj ht
    exact .refl s
  · exact .withPins (.running (State.running_levelReported _ k).finish ht)

theorem keepsFollow_emptyLevelNotEmpty {k : StoreId} (ht : execEmptyLevelNotEmpty k s = .next t) :
    s.keepsFollow t := by
  obtain rfl := Host.Outcome.next.inj ht
  exact .withPins (.refl _)

theorem State.channelStroke_slot {k : StoreId} {slot : SlotId} {r : Stroke} {d : Denom}
    (h : s.channelStroke k slot = some (r, d)) : r.slot = slot := by
  unfold State.channelStroke at h
  split at h
  · rename_i hrec _
    obtain ⟨rfl, -⟩ := Prod.mk.inj (Option.some.inj h)
    exact (State.record_of_slot hrec).2
  · exact absurd h nofun
  · exact absurd h nofun

theorem keepsFollow_piecePulse {k : StoreId} (ht : execPiecePulse k s = .next t) : s.keepsFollow t := by
  refine .running ?_ ht
  split
  · exact (s.running_unbidden k).finish
  · rename_i slot ms hchannel
    split
    · rename_i r d hr
      have hslot : (s.store k).channel.slot? = some r.slot := by
        rw [hchannel, State.channelStroke_slot hr]; rfl
      exact (s.places_drivePiece d hslot).closeEvent.event
    · exact .refl s
  · split
    · exact (s.running_overPay k _ _).finish
    · exact .refl s

theorem keepsFollow_afterRunWindowClose {k : StoreId} (ht : execAfterRunWindowClose k s = .next t) :
    s.keepsFollow t := by
  refine .running ?_ ht
  split
  · exact .refl s
  · exact .refl s
  · rename_i hchannel
    exact .endOnStore (by rw [hchannel]; rfl) ⟨_, _, _, rfl⟩ rfl

theorem keepsFollow_strokeDeadlineExpiry {k : StoreId} (ht : execStrokeDeadlineExpiry k s = .next t) :
    s.keepsFollow t := by
  refine .running ?_ ht
  split
  · exact .refl s
  · exact .refl s
  · rename_i hchannel
    exact .endOnStore (by rw [hchannel]; rfl) ⟨_, _, _, rfl⟩ rfl

theorem keepsFollow_cashboxOut {k : Kind} (ht : execCashboxOut k s = .next t) : s.keepsFollow t := by
  have hout (u : State) := (u.places_modBox k Cashbox.out).trans (State.places_stopRunningSkim _ k)
  refine .withPins (.running ?_ ht)
  exact ((hout _).keepsRunning.trans (State.running_drops _ _)).finish

theorem keepsFollow_cashboxIn {k : Kind} (ht : execCashboxIn k s = .next t) : s.keepsFollow t :=
  .withPins (.running (State.places_modBox _ k Cashbox.back).closeEvent.event ht)

theorem keepsFollow_strokeStart {path : Kind} (ht : execStrokeStart path s = .next t) : s.keepsFollow t := by
  refine .running ?_ ht
  split
  · exact .refl s
  · rename_i x hx
    split
    · rename_i hmay
      exact .start hx hmay _
    · exact .refl s

theorem keepsFollow_rehomeComplete {path : Kind} (ht : execRehomeComplete path s = .next t) :
    s.keepsFollow t := by
  refine .running ?_ ht
  split
  · exact (s.places_modPath path ⟨rfl, rfl⟩).finish
  · exact .refl s

theorem keepsFollow_diverterMoveComplete {path : Kind} (ht : execDiverterMoveComplete path s = .next t) :
    s.keepsFollow t := by
  refine .running ?_ ht
  split
  · exact .refl s
  · exact ((s.places_modPath path ⟨rfl, rfl⟩).trans (State.places_startMove _ path)).event

theorem State.places_shutPresenter (s : State) (l : Lane) (k : Kind) (occupied : Bool) :
    s.keepsPlaces (s.shutPresenter l k occupied) := by
  unfold State.shutPresenter
  split
  · exact .of_tables rfl rfl rfl rfl
  · exact .refl s

theorem keepsFollow_chuteSensorChange {l : Lane} {k : Kind} {occupied : Bool}
    (ht : execChuteSensorChange l k occupied s = .next t) : s.keepsFollow t := by
  refine .withPins (.running ?_ ht)
  exact ((State.places_shutPresenter _ l k occupied).trans (State.places_closeIfClear _ l)).finish

theorem keepsFollow_presentTimerExpiry {l : Lane} (ht : execPresentTimerExpiry l s = .next t) : s.keepsFollow t :=
  .running (s.places_modSale l Sale.expireTimer).closeEvent.event ht

theorem keepsFollow_attemptCompletion (ht : execAttemptCompletion s = .next t) : s.keepsFollow t := by
  unfold execAttemptCompletion at ht
  split at ht
  · rename_i w _ _
    rcases s.completeAttempt_cases w with ⟨u, hu, hkept⟩ | ⟨hnone, -⟩
    · rw [hu] at ht
      obtain rfl := Host.Outcome.next.inj ht
      exact hkept.finish
    · rw [hnone] at ht
      exact absurd ht nofun
  all_goals
    obtain rfl := Host.Outcome.next.inj ht
    exact .refl s

theorem exec_keepsFollow (i : Instr) (ht : exec i s = .next t) : s.keepsFollow t := by
  have keep := keepsFollow_requestsKeep s
  have runs (_ : s.phase = .running) := And.intro (State.keepsPlaces.refl s) (State.keepsLanes.refl s)
  have idles (_ : s.phase ≠ .running) := State.keepsFollow.refl s
  cases i
  case unknownCode => exact keep.unknownCode runs idles ht
  case frameComplete => exact keep.frameComplete runs idles ht
  case interByteGapExpiry => exact keep.interByteGapExpiry runs idles ht
  case replyTransmitEnd => exact keep.replyTransmitEnd runs idles ht
  case byteReceived => exact keep.byteReceived runs idles ht
  case startUp => exact keepsFollow_startUp ht
  case powerLoss => exact keepsFollow_powerLoss ht
  case rehomeComplete => exact keepsFollow_rehomeComplete ht
  case managerKeyChange => exact keepsFollow_managerKeyChange ht
  case headStrobe => exact keepsFollow_headStrobe ht
  case routeDecision => exact keepsFollow_routeDecision ht
  case entryPulse => exact keepsFollow_entryPulse ht
  case routeWindowExpiry => exact keepsFollow_routeWindowExpiry ht
  case cassetteOut => exact keepsFollow_cassetteOut ht
  case cassetteIn => exact keepsFollow_cassetteIn ht
  case emptyLevelReport => exact keepsFollow_emptyLevelReport ht
  case emptyLevelNotEmpty => exact keepsFollow_emptyLevelNotEmpty ht
  case piecePulse => exact keepsFollow_piecePulse ht
  case afterRunWindowClose => exact keepsFollow_afterRunWindowClose ht
  case strokeDeadlineExpiry => exact keepsFollow_strokeDeadlineExpiry ht
  case cashboxOut => exact keepsFollow_cashboxOut ht
  case cashboxIn => exact keepsFollow_cashboxIn ht
  case strokeStart => exact keepsFollow_strokeStart ht
  case diverterMoveComplete => exact keepsFollow_diverterMoveComplete ht
  case chuteSensorChange => exact keepsFollow_chuteSensorChange ht
  case presentTimerExpiry => exact keepsFollow_presentTimerExpiry ht
  case attemptCompletion => exact keepsFollow_attemptCompletion ht
  all_goals exact keep.requestArrives runs idles ht

/-- A step performs the front command on the queue's rest, of which the slots, the sales and the strokes are no
part. -/
theorem step_keepsFollow (h : step s = .next t) :
    t = s ∨ ∃ rest, (s.withPending rest).keepsFollow t := by
  unfold step at h
  split at h
  · exact .inl (Host.Outcome.next.inj h).symm
  · exact .inr ⟨_, exec_keepsFollow _ h⟩

theorem State.strokesFollow.withPending (h : s.strokesFollow) (q : List Instr) :
    (s.withPending q).strokesFollow := h

end

/-! ### Every command answers -/

theorem State.whileRunning_answers (s : State) (event : State → State) : ∃ t, s.whileRunning event = .next t :=
  ⟨_, s.whileRunning_next event⟩

theorem exec_answers (s : State) (c : Instr) (hc : c ≠ .attemptCompletion) : ∃ t, exec c s = .next t := by
  cases c
  case startUp => exact ⟨_, rfl⟩
  case powerLoss => exact ⟨_, rfl⟩
  case managerKeyChange => exact ⟨_, rfl⟩
  case emptyLevelNotEmpty => exact ⟨_, rfl⟩
  case emptyLevelReport k =>
    change ∃ t, execEmptyLevelReport k s = .next t
    unfold execEmptyLevelReport
    split
    · exact ⟨_, rfl⟩
    · exact State.whileRunning_answers _ _
  case attemptCompletion => exact absurd rfl hc
  all_goals
    simp only [exec]
    exact State.whileRunning_answers _ _

/-- An attempt completes, or its plan needs more slots than are free (log 17). -/
theorem attemptCompletion_answers (s : State) : (∃ t, execAttemptCompletion s = .next t) ∨
    (execAttemptCompletion s = .fault .poolExhausted ∧
      ∃ w, s.planner.work = some w ∧ s.pool.free.length < (w.plan s.limits).strokes.length) := by
  unfold execAttemptCompletion
  split
  · rename_i w _ hw
    rcases s.completeAttempt_cases w with ⟨u, hu, -⟩ | ⟨hnone, hroom⟩
    · rw [hu]; exact .inl ⟨_, rfl⟩
    · rw [hnone]; exact .inr ⟨rfl, w, hw, hroom⟩
  all_goals exact .inl ⟨s, rfl⟩

end Sys2Proof.Machine

namespace Sys2Proof
open Machine

/-- Settles O8, command by command (`exec_keepsFollow`): a plan takes its slots from the free list, the records that
end give theirs back, and nothing else moves a slot. -/
theorem slotsPartitionKept : Obligations.SlotsPartitionKept := by
  intro s t hpart hstep
  rcases step_keepsFollow hstep with rfl | ⟨rest, hkept⟩
  · exact hpart
  · exact hkept.partition hpart

/-- Settles O10, command by command (`exec_keepsFollow`): a running stroke ends with its channel, a stroke starts from
its latch on a path where none runs, and the boundaries at the close of an event put grants and latches right. -/
theorem strokesFollowKept : Obligations.StrokesFollowKept := by
  rintro s t ⟨hpart, hlanes, hstrokes⟩ hstep
  rcases step_keepsFollow hstep with rfl | ⟨rest, hkept⟩
  · exact hstrokes
  · have hrest : (s.withPending rest).laneWorkFollows := State.keepsLanes.follows (.of_same rfl rfl rfl) hlanes
    exact hkept.follow hpart hrest (hstrokes.withPending rest)

/-- Settles O2: every command but the completion of an attempt answers a next state outright, and the fault is that
of the pool's check. -/
theorem everyCommandGoesOn : Obligations.EveryCommandGoesOn := by
  intro c s
  have goesOn (h : ∃ t, exec c s = .next t) : ∃ t, exec c s = .next t ∧ t.pending = s.pending := by
    obtain ⟨t, ht⟩ := h
    exact ⟨t, ht, (exec_keepsFollow c ht).pending⟩
  by_cases hc : c = .attemptCompletion
  · subst hc
    exact (attemptCompletion_answers s).imp goesOn fun h => ⟨rfl, h⟩
  · exact .inl (goesOn (exec_answers s c hc))

end Sys2Proof
end

section
/-! PROOF. The arbiter of a path: who is eligible, whom a decision grants, when a grant is over, when the diverter
moves and when the latched stroke starts (O22, O53). -/

namespace Sys2Proof.Machine

/-! ### What the arbiter reads -/

/-- A stroke of the path runs. -/
theorem State.pathRunning_iff_record (s : State) (k : Kind) :
    s.pathRunning k = true ↔ ∃ r ∈ s.pool.records, r.path = k ∧ r.state = .running := by
  simp [State.pathRunning]

theorem State.chainEmpty_iff (s : State) (o : Owner) (k : Kind) : s.chainEmpty o k = true ↔ s.pool.chain o k = [] :=
  List.isEmpty_iff

theorem State.makeupLive_iff (s : State) (l : Lane) : s.makeupLive l = true ↔
    s.planner.waitingLane.get l = some .makeup ∨ s.jobInWork = some (.lane l .makeup) := by
  simp [State.makeupLive]

/-- A lane chain that has no run of the path is eligible when it holds a record and its chute does not hold it for
its opening run (R112, R116). -/
theorem State.laneEligible_iff {s : State} {k : Kind} {l : Lane} (hrun : (s.path k).grant ≠ .laneRun l) :
    s.laneEligible k l = true ↔ s.pool.chain (.lane l) k ≠ [] ∧
      ((s.path k).openingUsed.get l = true ∨ (s.pins.chuteOccupied.get l).get k = false) := by
  simp only [State.laneEligible, State.held, Bool.and_eq_true, Bool.not_eq_true', ← Bool.not_eq_true,
    State.chainEmpty_iff, bne_iff_ne, and_assoc]
  refine and_congr_right fun hchain => ?_
  simp only [hchain, hrun, not_false_eq_true, ne_eq, true_and, not_and_or, not_not]

/-! ### The grant decision (R113) -/

/-- The eligible lane is chosen when the other is not eligible or was granted last. -/
theorem State.chosenLane_eq_some {s : State} {k : Kind} {l : Lane} (hl : s.laneEligible k l = true)
    (hturn : s.laneEligible k l.other = false ∨ (s.path k).lastGranted = l.other) : s.chosenLane k = some l := by
  have htwice : ∀ m : Lane, m.other.other = m := by rintro (_ | _) <;> rfl
  have hlanes : ∀ m : Lane, m = l ∨ m = l.other := by cases l <;> rintro (_ | _) <;> simp [Lane.other]
  unfold State.chosenLane
  rcases hlanes (s.path k).lastGranted.other with h | h
  · simp [h, hl]
  · have hlast : (s.path k).lastGranted = l := by rw [← htwice (s.path k).lastGranted, h, htwice]
    have hother : s.laneEligible k l.other = false := hturn.elim id fun hturn => by
      rw [hlast] at hturn
      cases l <;> cases hturn
    simp [h, htwice, hother, hl]

theorem State.chosenLane_eq_none {s : State} {k : Kind} (hnone : ∀ l, s.laneEligible k l = false) :
    s.chosenLane k = none := by
  simp [State.chosenLane, hnone]

section
variable {s : State} {k : Kind} (havail : (s.path k).availability = .available) (hfree : (s.path k).grant = .none)
include havail hfree

/-- An AVAILABLE path without a grant takes the chosen lane (R113). -/
theorem State.decideGrant_lane {l : Lane} (hl : s.chosenLane k = some l) :
    s.decideGrant k = s.setPath k { s.path k with
      grant := .laneRun l, latch := s.headLatch (.lane l) k, lastGranted := l,
      openingUsed := (s.path k).openingUsed.set l true } := by
  rw [State.decideGrant, if_pos (by simp [State.pathAvailable, havail, hfree]), hl]
  rfl

/-- With no lane chosen it takes the office, if the office's chain holds a record (R113). -/
theorem State.decideGrant_office (hnone : s.chosenLane k = none) :
    s.decideGrant k = if s.pool.chain .office k = [] then s
      else s.setPath k { s.path k with grant := .officeStroke, latch := s.headLatch .office k } := by
  rw [State.decideGrant, if_pos (by simp [State.pathAvailable, havail, hfree]), hnone]
  simp only [State.chainEmpty_iff]
  rfl

end

/-! ### The review of a grant (R104, R114, R115) -/

theorem State.grantOver_none {s : State} {k : Kind} (hg : (s.path k).grant = .none) : s.grantOver k = false := by
  simp [State.grantOver, hg]

theorem State.grantOver_laneRun {s : State} {k : Kind} {l : Lane} (hg : (s.path k).grant = .laneRun l) :
    s.grantOver k = true ↔ s.pool.chain (.lane l) k = [] ∧ s.makeupLive l = false := by
  simp [State.grantOver, hg, State.chainEmpty_iff]

/-- An OFFICE stroke's grant is over when no stroke runs and none is latched, its chain is empty, or a lane chain is
eligible (R115). -/
theorem State.grantOver_officeStroke {s : State} {k : Kind} (hg : (s.path k).grant = .officeStroke) :
    s.grantOver k = true ↔ s.pathRunning k = false ∧
      ((s.path k).latch = none ∨ s.pool.chain .office k = [] ∨ ∃ l, s.laneEligible k l = true) := by
  have hlanes : (∃ l, s.laneEligible k l = true) ↔
      s.laneEligible k .one = true ∨ s.laneEligible k .two = true :=
    ⟨by rintro ⟨_ | _, h⟩ <;> simp [h], by rintro (h | h) <;> exact ⟨_, h⟩⟩
  rw [State.grantOver, hg, hlanes]
  cases hrun : s.pathRunning k with
  | true => simp
  | false => cases hlatch : (s.path k).latch <;> simp [State.chainEmpty_iff, or_assoc]

theorem State.reviewGrant_over {s : State} {k : Kind} (hover : s.grantOver k = true) :
    s.reviewGrant k = s.setPath k { s.path k with grant := .none, latch := none } := by
  rw [State.reviewGrant, if_pos hover]; rfl

/-- A grant that goes on has an empty latch while a stroke of the path runs (R104). -/
theorem State.reviewGrant_running {s : State} {k : Kind} (hover : s.grantOver k = false)
    (hrun : s.pathRunning k = true) : s.reviewGrant k = s.setPath k { s.path k with latch := none } := by
  have hlatch : s.grantLatch k = none := by unfold State.grantLatch; split <;> simp [hrun]
  rw [State.reviewGrant, if_neg (by simp [hover]), hlatch]; rfl

/-- Else its latch follows the head of the granted chain (R104). -/
theorem State.reviewGrant_idle {s : State} {k : Kind} {o : Owner} (hg : (s.path k).grant.owner? = some o)
    (hover : s.grantOver k = false) (hrun : s.pathRunning k = false) :
    s.reviewGrant k = s.setPath k { s.path k with latch := s.headLatch o k } := by
  have hlatch : s.grantLatch k = s.headLatch o k := by simp [State.grantLatch, hg, hrun]
  rw [State.reviewGrant, if_neg (by simp [hover]), hlatch]; rfl

theorem State.reviewGrant_none {s : State} {k : Kind} (hg : (s.path k).grant = .none) :
    s.reviewGrant k = s.setPath k { s.path k with latch := none } := by
  have hlatch : s.grantLatch k = none := by simp [State.grantLatch, hg, Grant.owner?]
  rw [State.reviewGrant, if_neg (by simp [State.grantOver_none hg]), hlatch]; rfl

end Sys2Proof.Machine

namespace Sys2Proof
open Machine

/-- Settles O22: the decision by the lane it chooses, the review by whether the grant is over and a stroke runs. -/
theorem grantIsDecidedAndOverByItsRules : Obligations.GrantIsDecidedAndOverByItsRules := by
  refine ⟨fun s k havail hfree => ?_, fun s k hno => ?_, fun s k => ?_⟩
  · have heligible (l : Lane) := s.laneEligible_iff (k := k) (l := l) (by rw [hfree]; nofun)
    simp only [← heligible, Bool.not_eq_true]
    refine ⟨fun l hl hturn => ?_, fun hnone hchain => ?_, fun hnone hchain => ?_⟩
    · exact State.decideGrant_lane havail hfree (State.chosenLane_eq_some hl hturn)
    · rw [State.decideGrant_office havail hfree (State.chosenLane_eq_none hnone), if_neg hchain]; rfl
    · rw [State.decideGrant_office havail hfree (State.chosenLane_eq_none hnone), if_pos hchain]
  · rcases hno with ⟨ms, hre⟩ | hgranted
    · exact s.decideGrant_rehoming k ms hre
    · exact s.decideGrant_granted k hgranted
  · simp only [← State.pathRunning_iff_record, Bool.not_eq_true]
    refine ⟨State.reviewGrant_none, fun l hg => ?_, fun hg => ?_⟩
    · simp only [← State.makeupLive_iff, Bool.not_eq_true]
      have hover := State.grantOver_laneRun hg
      have howner : (s.path k).grant.owner? = some (.lane l) := by rw [hg]; rfl
      refine ⟨fun hchain hmade => State.reviewGrant_over (hover.mpr ⟨hchain, hmade⟩), fun hgoes => ?_⟩
      have hover : s.grantOver k = false := by
        rw [← Bool.not_eq_true, hover, not_and_or, Bool.not_eq_false]; exact hgoes
      exact ⟨State.reviewGrant_running hover, State.reviewGrant_idle howner hover⟩
    · have heligible (l : Lane) := s.laneEligible_iff (k := k) (l := l) (by rw [hg]; nofun)
      simp only [← heligible]
      have hover := State.grantOver_officeStroke hg
      have howner : (s.path k).grant.owner? = some .office := by rw [hg]; rfl
      refine ⟨fun hrun => ?_, fun hidle hends => ?_, fun hidle hlatch hchain hlanes => ?_⟩
      · exact State.reviewGrant_running (by rw [← Bool.not_eq_true, hover]; simp [hrun]) hrun
      · exact State.reviewGrant_over (hover.mpr ⟨hidle, hends⟩)
      · refine State.reviewGrant_idle howner ?_ hidle
        rw [← Bool.not_eq_true, hover]
        rintro ⟨-, hends⟩
        exact hends.elim hlatch (Or.rec hchain hlanes)

end Sys2Proof
end

section
/-! PROOF. The diverter of a path and the start of its latched stroke (O53). -/

namespace Sys2Proof.Machine

theorem State.setPath_setPath (s : State) (k : Kind) (x y : Arbiter) :
    (s.setPath k x).setPath k y = s.setPath k y := by simp [State.setPath]

/-! ### The tables of times and destinations, by the kind of the path -/

theorem boxDest_eq (k : Kind) : boxDest k = if k = .coin then .coinBox else .noteBox := by cases k <;> rfl

theorem Config.moveMs_eq (k : Kind) : Config.moveMs k = if k = .coin then 150 else 250 := by cases k <;> rfl

theorem Config.deadlineMs_eq (k : Kind) (n : Nat) :
    Config.deadlineMs k n = if k = .coin then 400 + 80 * n else 1000 + 300 * n := by cases k <;> rfl

/-! ### Moves (R117) -/

theorem State.startMove_no_latch {s : State} {k : Kind} (h : (s.path k).latch = none) : s.startMove k = s := by
  simp [State.startMove, h]

/-- A latch starts the move to its destination under the conditions of R117, and none otherwise. -/
theorem State.startMove_latched {s : State} {k : Kind} {x : Latch} (h : (s.path k).latch = some x) :
    s.startMove k = if (s.path k).availability = .available ∧ (s.path k).move = none ∧
        (s.path k).position ≠ some x.dest ∧ (∀ r ∈ s.pool.records, r.path = k → r.state ≠ .running) then
      s.setPath k { s.path k with
        position := none, move := some { dest := x.dest, ms := if k = .coin then 150 else 250 } }
    else s := by
  rw [State.startMove, h, ← Config.moveMs_eq]
  simp only [State.startMove_starts]
  rfl

/-- A move that completes puts the diverter at its destination, from where the next may start (R117). -/
theorem diverterMoveComplete_runs {s : State} {k : Kind} {m : Move} (hp : s.phase = .running)
    (hm : (s.path k).move = some m) : exec (.diverterMoveComplete k) s =
      .next ((s.setPath k { s.path k with move := none, position := some m.dest }).startMove k) := by
  have hrun : exec (.diverterMoveComplete k) s = execDiverterMoveComplete k s := rfl
  rw [hrun, execDiverterMoveComplete, State.whileRunning_running _ _ hp, hm]
  rfl

theorem rehomeComplete_runs {s : State} {k : Kind} {ms : Nat} (hp : s.phase = .running)
    (hre : (s.path k).availability = .rehoming ms) : exec (.rehomeComplete k) s =
      .next ((s.setPath k { s.path k with
        availability := .available, position := some (if k = .coin then .coinBox else .noteBox) }).finish) := by
  have hrun : exec (.rehomeComplete k) s = execRehomeComplete k s := rfl
  rw [hrun, execRehomeComplete, State.whileRunning_running _ _ hp, hre, ← boxDest_eq]
  rfl

/-! ### The start of the latched stroke (R118, R119) -/

theorem State.mayStart_iff (s : State) (k : Kind) (x : Latch) : s.mayStart k x = true ↔
    (s.path k).availability = .available ∧ (s.path k).move = none ∧ (s.path k).position = some x.dest ∧
      (s.store x.store).state = .ready ∧ (s.store x.store).fills = [] := by
  simp [State.mayStart, State.pathAvailable, and_assoc]

/-- STROKE_START on a latch: the record runs, its store pays with its deadline armed, and the latch empties. -/
theorem strokeStart_runs {s : State} {k : Kind} {x : Latch} {r : Stroke} (hp : s.phase = .running)
    (hx : (s.path k).latch = some x) (hr : s.record? x.slot = some r) : exec (.strokeStart k) s =
      .next (if s.mayStart k x = true then
        ({ (s.setStore x.store { s.store x.store with
              state := .paying, inFlight := true,
              channel := .driving x.slot
                (if k = Kind.coin then 400 + 80 * r.count else 1000 + 300 * r.count) }).setPath k
            { s.path k with latch := none } with
          pool := s.pool.modRecord x.slot (fun q => { q with state := .running }) }).closeEvent
      else s) := by
  have hrun : exec (.strokeStart k) s = execStrokeStart k s := rfl
  have hcount : s.slotCount x.slot = r.count := by simp [State.slotCount, hr]
  rw [hrun, execStrokeStart, State.whileRunning_running _ _ hp, hx, ← Config.deadlineMs_eq, ← hcount]
  rfl

end Sys2Proof.Machine

namespace Sys2Proof
open Machine

/-- Settles O53: re-homing and a move by what their completion leaves of the path, the start by R118's conditions. -/
theorem diverterArrivesAndTheStrokeStarts : Obligations.DiverterArrivesAndTheStrokeStarts := by
  refine ⟨fun s k hp => ⟨fun ms hre => rehomeComplete_runs hp hre, fun m hm havail => ?_⟩,
    fun s k => ⟨State.startMove_no_latch, fun x hx => ?_⟩, fun s k x r hp hx hr => ?_⟩
  · rw [diverterMoveComplete_runs hp hm]
    have harrived := s.path_setPath_self k { s.path k with move := none, position := some m.dest }
    refine ⟨fun hstay => ?_, fun hagain x hx => ?_⟩
    · cases hx : (s.path k).latch with
      | none => rw [State.startMove_no_latch (by rw [harrived]; exact hx)]
      | some x =>
        rw [State.startMove_latched (x := x) (by rw [harrived]; exact hx), harrived, if_neg]
        rintro ⟨-, -, hdest, hidle⟩
        exact hstay ⟨x, hx, fun e => hdest (e ▸ rfl), hidle⟩
    · obtain ⟨y, hy, hdest, hidle⟩ := hagain
      obtain rfl : y = x := Option.some.inj (hy.symm.trans hx)
      rw [State.startMove_latched (x := y) (by rw [harrived]; exact hx), harrived,
        if_pos ⟨havail, rfl, fun e => hdest (Option.some.inj e).symm, hidle⟩, State.setPath_setPath]
  · rw [State.startMove_latched hx]
    exact ⟨fun hmay => if_pos hmay, fun hmay => if_neg hmay⟩
  · rw [strokeStart_runs hp hx hr]
    have hstarts := s.mayStart_iff k x
    exact ⟨fun hmay => by rw [if_neg (mt hstarts.mp hmay)], fun hmay => by rw [if_pos (hstarts.mpr hmay)]; rfl⟩

end Sys2Proof
end

section
/-! PROOF. The pieces a store's channel reports: counted, over-paid and unbidden (O54, O55). -/

namespace Sys2Proof.Machine

/-! ### Bookings and the stores -/

theorem State.book_setStore (s : State) (k : StoreId) (x : Store) (c : Counter) (d : Denom) (n : Nat) :
    (s.setStore k x).book c d n = (s.book c d n).setStore k x := by
  have hst : (s.book c d n).stores = s.stores := (s.book_onlyBooks c d n).stores
  rw [State.setStore, State.book_withStores, State.setStore, hst]

theorem State.bookAdjusted_onlyBooks (s : State) (d : Denom) (n : Int) : s.onlyBooks (s.bookAdjusted d n) := by
  unfold State.bookAdjusted
  split
  · exact ⟨_, _, _, rfl⟩
  · split <;> exact ⟨_, _, _, rfl⟩

/-- A piece paid to a lane reads and writes no store, so a store may be written before or after it. -/
theorem State.countedPiece_setStore (s : State) (r : Stroke) (d : Denom) (k : StoreId) (x : Store) :
    (s.setStore k x).countedPiece r d = (s.countedPiece r d).setStore k x := by
  unfold State.countedPiece
  cases r.owner with
  | lane l => exact State.book_setStore (s.modSale l (fun y => y.payPiece d (s.value d) false)) k x _ _ _
  | office =>
    exact State.book_setStore (s.modBox r.path (fun b =>
      { b.setCount d (b.countOf d + 1) with promised := b.promised - 1 })) k x _ _ _

/-! ### The pulse of a channel -/

section
variable {s : State} {k : StoreId} {slot : SlotId} {ms : Nat} {r : Stroke} {d : Denom}
variable (hp : s.phase = .running)
include hp

theorem piecePulse_idle (hc : (s.store k).channel = .idle) :
    exec (.piecePulse k) s = .next (s.unbidden k).finish := by
  have hrun : exec (.piecePulse k) s = execPiecePulse k s := rfl
  rw [hrun, execPiecePulse, State.whileRunning_running _ _ hp, hc]

variable (hr : s.record? slot = some r) (hd : (s.store k).denom = some d)
include hr hd

theorem piecePulse_driving (hc : (s.store k).channel = .driving slot ms) :
    exec (.piecePulse k) s = .next (s.drivePiece k r d).closeEvent := by
  have hrun : exec (.piecePulse k) s = execPiecePulse k s := rfl
  have hstroke : s.channelStroke k slot = some (r, d) := by simp [State.channelStroke, hr, hd]
  rw [hrun, execPiecePulse, State.whileRunning_running _ _ hp, hc]
  simp only [hstroke]

theorem piecePulse_afterRun (hc : (s.store k).channel = .afterRun slot ms) :
    exec (.piecePulse k) s = .next (s.overPay k r d).finish := by
  have hrun : exec (.piecePulse k) s = execPiecePulse k s := rfl
  have hstroke : s.channelStroke k slot = some (r, d) := by simp [State.channelStroke, hr, hd]
  rw [hrun, execPiecePulse, State.whileRunning_running _ _ hp, hc]
  simp only [hstroke]

end

/-! ### A piece of a driven stroke (R120, R121) -/

theorem Config.afterRunMs_storeKind (k : StoreId) :
    Config.afterRunMs (storeKind k) = if k.val < 8 then 200 else 300 := by
  unfold storeKind; split <;> rfl

/-- The store and the record of a driven piece are written first; then it is counted where it goes. -/
theorem State.drivePiece_eq {s : State} {k : StoreId} {slot : SlotId} {ms : Nat} (r : Stroke) (d : Denom)
    (hc : (s.store k).channel = .driving slot ms) : s.drivePiece k r d =
      State.countedPiece { s.setStore k { s.store k with
          physical := (s.store k).physical - 1, reserved := (s.store k).reserved - 1
          channel := if r.delivered + 1 < r.count then .driving slot ms
            else .afterRun r.slot (if k.val < 8 then 200 else 300) } with
        pool := s.pool.modRecord r.slot Stroke.advanced } r d := by
  have hadvanced : ∀ x : Store, { s.setStore k x with pool := s.pool.modRecord r.slot Stroke.advanced } =
      (s.modRecord r.slot Stroke.advanced).setStore k x := fun _ => rfl
  have hdrive : s.drivePiece k r d =
      let t := ((s.modRecord r.slot Stroke.advanced).setStore k (s.store k).paidOut).countedPiece r d
      if r.delivered + 1 < r.count then t
      else t.modStore k (fun x => { x with channel := .afterRun r.slot (Config.afterRunMs (storeKind k)) }) := rfl
  rw [hdrive, hadvanced]
  dsimp only
  split
  · rw [← hc]; rfl
  · rw [Config.afterRunMs_storeKind, State.countedPiece_setStore, State.modStore, State.store_setStore_self,
      State.setStore_setStore, State.countedPiece_setStore]
    rfl

end Sys2Proof.Machine

namespace Sys2Proof
open Machine

/-- Settles O54: the driven piece's tables, then the sale or the cashbox by the stroke's owner. -/
theorem piecePulseCountsADrivenPiece : Obligations.PiecePulseCountsADrivenPiece := by
  intro s k slot ms r d hp hc hr hd
  rw [piecePulse_driving hp hr hd hc, State.drivePiece_eq r d hc]
  exact ⟨fun l howner => by rw [State.countedPiece, howner]; rfl,
    fun howner => by rw [State.countedPiece, howner]; rfl⟩

end Sys2Proof
end

section
/-! PROOF. Over-paid and unbidden pieces, and the WAITING strokes they lower (O55). -/

namespace Sys2Proof

theorem PerLane.ext_get {α : Type} {t u : PerLane α} (h : ∀ l, t.get l = u.get l) : t = u := by
  cases t; cases u; exact congrArg₂ PerLane.mk (h .one) (h .two)

theorem PerKind.ext_get {α : Type} {t u : PerKind α} (h : ∀ k, t.get k = u.get k) : t = u := by
  cases t; cases u; exact congrArg₂ PerKind.mk (h .coin) (h .note)

namespace Machine

/-! ### Strokes that hold nothing (R97) -/

/-- Records that give back no piece change the pool alone. -/
theorem State.givesBack.of_nothing {s t : State} {pieces : Stroke → Nat} (h : s.givesBack t pieces)
    (hzero : ∀ r, pieces r = 0) : t = { s with pool := t.pool } := by
  obtain ⟨hstores, hboxes, hlanes, hwaiting, ht⟩ := h
  have hsum (chosen : Stroke → Bool) (f : Stroke → Nat) : s.sumStrokes chosen (fun r => pieces r * f r) = 0 :=
    sumOver_eq_zero fun r _ _ => by rw [hzero, Nat.zero_mul]
  have hsum' (chosen : Stroke → Bool) : s.sumStrokes chosen pieces = 0 := sumOver_eq_zero fun r _ _ => hzero r
  simp only [hsum, hsum', Nat.sub_zero, ite_self, Nat.add_zero, Nat.lt_irrefl, false_and, if_false]
    at hstores hboxes hlanes hwaiting
  have hs : t.stores = s.stores := Vector.ext fun i hi => hstores ⟨i, hi⟩
  have hb : t.boxes = s.boxes := PerKind.ext_get hboxes
  have hl : t.lanes = s.lanes := PerLane.ext_get hlanes
  have hw : t.planner.waitingLane = s.planner.waitingLane := PerLane.ext_get hwaiting
  rw [hs, hb, hl, hw] at ht
  exact ht

theorem State.dropEmptied_changes_pool (s : State) : s.dropEmptied = { s with pool := s.dropEmptied.pool } := by
  have h : s.givesBack s.dropEmptied _ := s.endStrokes_givesBack (dropWhere (fun r => r.count == 0))
  refine h.of_nothing fun r => ?_
  rw [dropWhere_pieces]
  split
  · rename_i hempty
    simp only [Bool.and_eq_true, beq_iff_eq] at hempty
    exact hempty.2
  · rfl

/-- An event that ends no record changes nothing. -/
theorem State.endStrokes_none {s : State} {how : Stroke → Option (Ending × Nat)}
    (h : ∀ r ∈ s.pool.records, how r = none) : s.endStrokes how = s := by
  have hended : s.pool.records.filter (fun r => (how r).isSome) = [] :=
    List.filter_eq_nil_iff.mpr fun r hr => by simp [h r hr]
  have hkept : s.pool.records.filter (fun r => !(how r).isSome) = s.pool.records :=
    List.filter_eq_self.mpr fun r hr => by simp [h r hr]
  unfold State.endStrokes
  rw [List.foldl_ext (g := fun t _ => t), List.foldl_fixed]
  · dsimp only [Pool.remove]
    rw [hended, hkept]
    rfl
  · intro t r hr
    rw [h r hr]

/-- No WAITING stroke is empty, so none is dropped. -/
theorem State.dropEmptied_eq_self {s : State} (h : ∀ r ∈ s.pool.records, r.state = .waiting → 0 < r.count) :
    s.dropEmptied = s := by
  refine State.endStrokes_none fun r hr => ?_
  rw [dropWhere_some, if_neg]
  simp only [Bool.and_eq_true, beq_iff_eq, not_and]
  exact fun hw => Nat.ne_of_gt (h r hr hw)

/-! ### A reservation deficit (R124) -/

theorem State.absorbDeficit_covered {s : State} {k : StoreId} (h : (s.store k).reserved ≤ (s.store k).physical) :
    s.absorbDeficit k = s := if_neg (Nat.not_lt.mpr h)

/-- A deficit is taken from the WAITING stroke on the store that was planned last, where there is one. -/
theorem State.absorbDeficit_lowers {s : State} {k : StoreId} {q : Stroke}
    (h : (s.store k).physical < (s.store k).reserved)
    (hq : (s.pool.records.filter (waitingOn k)).getLast? = some q) : s.absorbDeficit k = s.lowerStroke q := by
  have hlatest : s.pool.latest? (fun r => r.store == k) = some q := hq
  rw [State.absorbDeficit, if_pos h, hlatest]

theorem State.absorbDeficit_unheld {s : State} {k : StoreId}
    (hq : (s.pool.records.filter (waitingOn k)).getLast? = none) : s.absorbDeficit k = s := by
  have hlatest : s.pool.latest? (fun r => r.store == k) = none := hq
  rw [State.absorbDeficit, hlatest]
  exact ite_self s

/-! ### An over-pay piece (R122, R123) -/

theorem State.setBox_modBox (s : State) (k : Kind) (x : Cashbox) (f : Cashbox → Cashbox) :
    (s.setBox k x).modBox k f = s.setBox k (f x) := by
  rw [State.modBox, State.box_setBox_self, State.setBox, State.setBox, PerKind.set_set, State.setBox]

/-- An over-pay piece of a skim in its cashbox (R123), by the count, the promised pieces and the capacity of the
box; `s` is the part before the piece left its store. -/
theorem State.boxOverPay_eq {s t : State} (hbox : t.boxes = s.boxes) (hpool : t.pool = s.pool) (k : Kind)
    (d : Denom) :
    let b := s.box k
    t.boxOverPay k d =
      if b.count + b.promised < b.capacity then t.setBox k (b.setCount d (b.countOf d + 1))
      else if 0 < b.promised then
        match (s.pool.records.filter (fun q => waitingOf .office q && q.path == k)).getLast? with
        | some q => (t.setBox k (b.setCount d (b.countOf d + 1))).lowerStroke q
        | none => t.setBox k { b.setCount d (b.countOf d + 1) with promised := b.promised - 1 }
      else if b.capacity < 8000 then
        t.setBox k { b.setCount d (b.countOf d + 1) with capacity := b.count + 1 }
      else t.bookAdjusted d (-1) := by
  have hlatest : t.pool.latest? (fun r => r.owner == .office && r.path == k) =
      (s.pool.records.filter (fun q => waitingOf .office q && q.path == k)).getLast? := by
    rw [hpool]
    simp only [Pool.latest?, waitingOf, Bool.and_assoc]
  have hcount : ((s.box k).setCount d ((s.box k).countOf d + 1)).count = (s.box k).count + 1 := Cashbox.count_add _ d 1
  unfold State.boxOverPay
  dsimp only
  rw [State.modBox, State.box_congr hbox, hlatest, State.setBox_modBox, State.setBox_modBox, hcount]
  cases (s.pool.records.filter (fun q => waitingOf .office q && q.path == k)).getLast? <;> rfl

/-- An over-pay piece of a lane is paid, and no store or record changes (R40, R122). -/
theorem State.overPaidPiece_lane {s t : State} {r : Stroke} {l : Lane} (howner : r.owner = .lane l)
    (hlanes : t.lanes = s.lanes) (hdenoms : t.denoms = s.denoms) (d : Denom) :
    t.overPaidPiece r d = (t.setSale l ({ s.sale l with
      paid := (s.sale l).paid + s.value d, overpay := (s.sale l).overpay + s.value d }.setPieces d
        ((s.sale l).paidPieces d + 1))).book .paid d 1 := by
  have hsale : t.sale l = s.sale l := by simp only [State.sale, State.lane, hlanes]
  have hvalue : t.value d = s.value d := by simp only [State.value, State.denom, hdenoms]
  rw [State.overPaidPiece, howner]
  dsimp only
  rw [State.modSale, hsale, hvalue]
  rfl

theorem State.overPaidPiece_lane_same (s : State) {r : Stroke} {l : Lane} (howner : r.owner = .lane l) (d : Denom) :
    (s.overPaidPiece r d).stores = s.stores ∧ (s.overPaidPiece r d).pool = s.pool := by
  rw [State.overPaidPiece, howner]
  have hbook := (s.modSale l (fun x => x.payPiece d (s.value d) true)).book_onlyBooks .paid d 1
  exact ⟨hbook.stores, hbook.pool⟩

/-- A piece out of a counted store. -/
theorem State.overPay_counted {s : State} {k : StoreId} (hpos : 0 < (s.store k).physical) (r : Stroke) (d : Denom) :
    s.overPay k r d = (((s.setStore k { s.store k with
      physical := (s.store k).physical - 1 }).overPaidPiece r d).absorbDeficit k).dropEmptied := if_pos hpos

/-- A piece found at physical 0. -/
theorem State.overPay_found {s : State} {k : StoreId} (hzero : (s.store k).physical = 0) (r : Stroke) (d : Denom) :
    s.overPay k r d = (((s.bookAdjusted d 1).overPaidPiece r d).markUncertain k).dropEmptied :=
  if_neg (by omega)

section
variable {s : State} {k : StoreId} {r : Stroke} {l : Lane} (d : Denom)
variable (howner : r.owner = .lane l) (hwhole : ∀ q ∈ s.pool.records, q.state = .waiting → 0 < q.count)
include howner hwhole

/-- A lane's over-pay piece that leaves its store's reservations covered, or finds no WAITING stroke there. -/
theorem State.overPay_lane_covered (hpos : 0 < (s.store k).physical)
    (hcovered : (s.store k).reserved < (s.store k).physical ∨ (s.pool.records.filter (waitingOn k)).getLast? = none) :
    s.overPay k r d =
      (s.setStore k { s.store k with physical := (s.store k).physical - 1 }).overPaidPiece r d := by
  have hsame := State.overPaidPiece_lane_same (s.setStore k { s.store k with
    physical := (s.store k).physical - 1 }) howner d
  rw [State.overPay_counted hpos]
  generalize State.overPaidPiece _ r d = t at hsame ⊢
  obtain ⟨hstores, hpool⟩ := hsame
  have hrec : t.pool.records = s.pool.records := congrArg Pool.records hpool
  have habsorb : t.absorbDeficit k = t := by
    rcases hcovered with hlt | hnone
    · refine State.absorbDeficit_covered ?_
      rw [State.store_congr hstores, State.store_setStore_self]
      exact Nat.le_sub_one_of_lt hlt
    · exact State.absorbDeficit_unheld (by rw [hrec]; exact hnone)
  rw [habsorb, State.dropEmptied_eq_self (by rw [hrec]; exact hwhole)]

omit hwhole in
/-- One that leaves its store a piece short lowers the WAITING stroke there that was planned last. -/
theorem State.overPay_lane_short {q : Stroke} (hpos : 0 < (s.store k).physical)
    (hshort : (s.store k).physical ≤ (s.store k).reserved)
    (hq : (s.pool.records.filter (waitingOn k)).getLast? = some q) :
    s.overPay k r d = (((s.setStore k { s.store k with
      physical := (s.store k).physical - 1 }).overPaidPiece r d).lowerStroke q).dropEmptied := by
  have hsame := State.overPaidPiece_lane_same (s.setStore k { s.store k with
    physical := (s.store k).physical - 1 }) howner d
  rw [State.overPay_counted hpos]
  generalize State.overPaidPiece _ r d = t at hsame ⊢
  obtain ⟨hstores, hpool⟩ := hsame
  have hrec : t.pool.records = s.pool.records := congrArg Pool.records hpool
  rw [State.absorbDeficit_lowers (q := q) ?_ (by rw [hrec]; exact hq)]
  rw [State.store_congr hstores, State.store_setStore_self]
  exact Nat.lt_of_lt_of_le (Nat.sub_lt hpos Nat.one_pos) hshort

/-- One found in a PAYING store marks it. -/
theorem State.overPay_lane_found (hzero : (s.store k).physical = 0) (hpaying : (s.store k).state = .paying) :
    s.overPay k r d =
      ((s.bookAdjusted d 1).overPaidPiece r d).setStore k { s.store k with marked := true } := by
  have hbook := s.bookAdjusted_onlyBooks d 1
  obtain ⟨hstores, hpool⟩ := State.overPaidPiece_lane_same (s.bookAdjusted d 1) howner d
  rw [State.overPay_found hzero]
  generalize State.overPaidPiece _ r d = t at hstores hpool ⊢
  have hstore : t.store k = s.store k := State.store_congr (hstores.trans hbook.stores) k
  have hrec : t.pool.records = s.pool.records := congrArg Pool.records (hpool.trans hbook.pool)
  rw [State.markUncertain_cases, hstore, hpaying, if_neg nofun, if_pos rfl, State.modStore, hstore,
    State.dropEmptied_eq_self (by rw [State.setStore_pool, hrec]; exact hwhole)]

end

/-! ### An unbidden piece (R16) -/

/-- An unbidden piece counts off a store that is not stopped, and marks it if READY. -/
theorem State.unbidden_eq {s : State} {k : StoreId} {d : Denom} (hd : (s.store k).denom = some d) :
    let counted := if 0 < (s.store k).physical then
        (s.setStore k { s.store k with physical := (s.store k).physical - 1 }).bookAdjusted d (-1)
      else s
    s.unbidden k = if (s.store k).state = .ready then counted.markUncertain k
      else if (s.store k).state = .uncertain ∨ (s.store k).state = .disabled then counted
      else s := by
  have hbook : (s.modStore k (fun x => { x with physical := x.physical - 1 })).bookAdjustedStore k (-1) =
      (s.setStore k { s.store k with physical := (s.store k).physical - 1 }).bookAdjusted d (-1) := by
    rw [State.bookAdjustedStore, State.store_modStore_self, hd]
    rfl
  unfold State.unbidden
  rw [hbook]
  cases (s.store k).state <;> simp

end Machine

open Machine

/-- Settles O55: a lane's over-pay piece by its store's count, a skim's by its cashbox, an unbidden one by the state
of its store; an emptied stroke gives back nothing. -/
theorem piecesBeyondTheCount : Obligations.PiecesBeyondTheCount := by
  refine ⟨fun s k slot ms r d l hp hc hr hd howner => ?_, fun s k slot ms r d hp hc hr hd howner => ?_,
    fun s k d hp hc hd => ?_, fun s => ⟨s.endsRecords_dropWhere _ _ fun _ => rfl, s.dropEmptied_changes_pool⟩⟩
  · rw [piecePulse_afterRun hp hr hd hc]
    intro paid latest
    have hpaid (t : State) (hl : t.lanes = s.lanes) (hv : t.denoms = s.denoms) : paid t = t.overPaidPiece r d :=
      (State.overPaidPiece_lane howner hl hv d).symm
    obtain ⟨-, -, -, hdenoms, -, -, -, -, hlanes, -⟩ := s.bookAdjusted_frame d 1
    rw [hpaid (s.setStore k _) rfl rfl, hpaid _ hlanes hdenoms]
    refine ⟨fun hpos hwhole => ⟨fun hcovered => ?_, fun q hshort hq => ?_⟩, fun hzero hpaying hwhole => ?_⟩
    · rw [State.overPay_lane_covered d howner hwhole hpos hcovered]
    · rw [State.overPay_lane_short d howner hpos hshort hq]
    · rw [State.overPay_lane_found d howner hwhole hzero hpaying]
  · rw [piecePulse_afterRun hp hr hd hc]
    intro b intoBox
    have hinto (t : State) (hb : t.boxes = s.boxes) (hpool : t.pool = s.pool) :
        (intoBox t).book .skimmed d 1 = t.overPaidPiece r d := by
      rw [State.overPaidPiece, howner]
      exact congrArg (State.book · .skimmed d 1) (State.boxOverPay_eq hb hpool r.path d).symm
    have hbook := s.bookAdjusted_onlyBooks d 1
    rw [hinto (s.setStore k _) rfl rfl, hinto _ hbook.boxes hbook.pool]
    refine ⟨fun hpos => ⟨fun hcovered => ?_, fun hshort => ⟨fun q hq => ?_, fun hnone => ?_⟩⟩, fun hzero => ?_⟩
    · rw [State.overPay_counted hpos, State.absorbDeficit_covered hcovered]
    · rw [State.overPay_counted hpos, State.absorbDeficit_lowers hshort hq]
    · rw [State.overPay_counted hpos, State.absorbDeficit_unheld (by rw [hnone]; rfl)]
    · rw [State.overPay_found hzero]
  · rw [piecePulse_idle hp hc, State.unbidden_eq hd]
    refine ⟨fun hready => ?_, fun hcounts => ?_, fun hstops => ?_⟩
    · rw [if_pos hready]
    · rw [if_neg (by rcases hcounts with h | h <;> rw [h] <;> nofun), if_pos hcounts]
    · rw [if_neg (by rcases hstops with h | h <;> rw [h] <;> nofun),
        if_neg (by rcases hstops with h | h <;> rw [h] <;> simp)]

end Sys2Proof
end

section
/-! PROOF. The two ends of a stroke: its window closes, or its deadline expires (O56). -/

namespace Sys2Proof.Machine

/-- A stroke that ends on a store that is not marked drops no WAITING one (R11, R12). -/
theorem endOnStore_unmarked (x : Channel) (k : StoreId) (r : Stroke) :
    endOnStore x.slot? k false true r = if x.runs r then some (.done, 0) else none := by
  unfold endOnStore Channel.runs dropWhere
  by_cases hs : x.slot? = some r.slot
  · simp [hs]
  · rw [if_neg fun e => hs e.symm]
    simp [hs]

theorem State.endsRecords_unmarked (s : State) (x : Channel) (k : StoreId) :
    s.endsRecords (s.endStrokes (endOnStore x.slot? k false true)) x.runs (fun _ => false) := by
  refine s.endsRecords_endStrokes (fun r => ?_) (fun r => ?_) <;> rw [endOnStore_unmarked] <;> split <;> simp [*]

/-- The strokes that the window's close ends: the one its channel runs, and of a marked store the WAITING ones
(R12, R121). -/
theorem State.closeWindow_ends (s : State) {k : StoreId} (hnothing : (s.store k).channel.holdsNothing = true) :
    let x := s.store k
    let u := s.endStrokes (endOnStore x.channel.slot? k x.marked true)
    s.givesBack u (fun r => if x.marked then x.heldBy k r else 0) ∧
      s.endsRecords u x.channel.runs (fun r => x.marked && waitingOn k r) := by
  intro x u
  have hgive := s.endStrokes_givesBack (endOnStore x.channel.slot? k x.marked true)
  cases hmarked : x.marked with
  | true =>
    have hpieces := endOnStore_pieces x k
    rw [hnothing] at hpieces
    simp only [hmarked, hpieces] at hgive
    simp only [u, hmarked]
    exact ⟨hgive, s.endsRecords_endOnStore x.channel k true⟩
  | false =>
    have hpieces (r : Stroke) : ((endOnStore x.channel.slot? k false true r).map (·.2)).getD 0 = 0 := by
      rw [endOnStore_unmarked]; split <;> rfl
    simp only [hmarked, hpieces] at hgive
    simp only [u, hmarked]
    exact ⟨hgive, s.endsRecords_unmarked x.channel k⟩

theorem State.expireDeadline_ends (s : State) {k : StoreId} (hdriving : (s.store k).channel.holdsNothing = false) :
    let x := s.store k
    let u := s.endStrokes (endOnStore x.channel.slot? k true false)
    s.givesBack u (x.heldBy k) ∧ s.endsRecords u x.channel.runs (waitingOn k) := by
  intro x u
  have hgive := s.endStrokes_givesBack (endOnStore x.channel.slot? k true false)
  have hpieces := endOnStore_pieces x k
  rw [hdriving] at hpieces
  simp only [hpieces] at hgive
  exact ⟨hgive, s.endsRecords_endOnStore x.channel k false⟩

/-- A store whose stroke ended is UNCERTAIN by the mark it held during the stroke, which giving back leaves (R12). -/
theorem State.givesBack.modStore_ended {s t : State} {pieces : Stroke → Nat} (h : s.givesBack t pieces)
    (k : StoreId) :
    t.modStore k Store.ended = t.setStore k { t.store k with
      state := if (s.store k).marked then .uncertain else .ready, inFlight := false, marked := false,
      channel := .idle } := by
  obtain ⟨hstores, -⟩ := h
  have hmarked : (t.store k).marked = (s.store k).marked := by rw [hstores]
  rw [← hmarked]
  rfl

section
variable {s : State} {k : StoreId} {slot : SlotId} {ms : Nat} (hp : s.phase = .running)
include hp

theorem afterRunWindowClose_runs (hc : (s.store k).channel = .afterRun slot ms) :
    exec (.afterRunWindowClose k) s =
      .next (((s.endStrokes (endOnStore (s.store k).channel.slot? k (s.store k).marked true)).modStore k
        Store.ended).finish) := by
  have hrun : exec (.afterRunWindowClose k) s = execAfterRunWindowClose k s := rfl
  rw [hrun, execAfterRunWindowClose, State.whileRunning_running _ _ hp, hc]
  rfl

theorem strokeDeadlineExpiry_runs (hc : (s.store k).channel = .driving slot ms) :
    exec (.strokeDeadlineExpiry k) s =
      .next (((s.endStrokes (endOnStore (s.store k).channel.slot? k true false)).modStore k
        Store.jam).finish) := by
  have hrun : exec (.strokeDeadlineExpiry k) s = execStrokeDeadlineExpiry k s := rfl
  rw [hrun, execStrokeDeadlineExpiry, State.whileRunning_running _ _ hp, hc]
  rfl

end

end Sys2Proof.Machine

namespace Sys2Proof
open Machine

/-- Settles O56: at either end the strokes of the store by what they give back and leave in the pool. -/
theorem strokeEndsNormallyOrJams : Obligations.StrokeEndsNormallyOrJams := by
  intro s k slot ms hp
  refine ⟨fun hc => ?_, fun hc => ?_⟩
  · obtain ⟨hgive, hends⟩ := s.closeWindow_ends (k := k) (by rw [hc]; rfl)
    refine ⟨_, hgive, hends, ?_⟩
    rw [afterRunWindowClose_runs hp hc, hgive.modStore_ended]
  · obtain ⟨hgive, hends⟩ := s.expireDeadline_ends (k := k) (by rw [hc]; rfl)
    refine ⟨_, hgive, hends, ?_⟩
    rw [strokeDeadlineExpiry_runs hp hc]
    rfl

end Sys2Proof
end

section
/-! PROOF. SKIM TO TARGET, EMPTY STORE and STOP SKIM (O46). -/

namespace Sys2Proof.Machine

/-- A skim is live while one waits, is in work or has strokes left (R133, R141). -/
theorem State.skimLive_iff (s : State) : s.skimLive = true ↔
    s.planner.waitingSkim ≠ none ∨ (∃ q, s.jobInWork = some (.skim q)) ∨ ∃ k, s.pool.chain .office k ≠ [] := by
  have hwork : s.skimInWork = true ↔ ∃ q, s.jobInWork = some (.skim q) := by
    unfold State.skimInWork
    cases s.jobInWork with
    | none => simp
    | some j => cases j <;> simp
  have hchains : (∃ k, s.pool.chain .office k ≠ []) ↔
      s.chainEmpty .office .coin = false ∨ s.chainEmpty .office .note = false := by
    simp only [ne_eq, ← s.chainEmpty_iff, Bool.not_eq_true]
    exact ⟨fun ⟨k, hk⟩ => by cases k; exacts [.inl hk, .inr hk], fun h => h.elim (⟨_, ·⟩) (⟨_, ·⟩)⟩
  rw [hchains, ← hwork]
  simp [State.skimLive, Option.isSome_iff_ne_none, or_assoc]

/-- A skim request placed, before its event's consequences: the office's tallies start at 0 (R106, R141). -/
def State.withSkim (s : State) (q : SkimRequest) : State :=
  { s with
    pool := { s.pool with
      tallies := { s.pool.tallies with office := { coin := Tally.zero, note := Tally.zero } } }
    planner := { s.planner with waitingSkim := some q } }

theorem State.beginSkim_eq (s : State) (q : SkimRequest) : s.beginSkim q = (s.withSkim q).finish := rfl

/-- The work in hand with a skim marked stopped (R75, R143). -/
def Work.stopSkim (w : Work) : Work :=
  match w.job with
  | .skim _ => { w with stopped := true }
  | .lane _ _ => w

/-- The planner whose waiting skim is withdrawn and whose skim in work is marked stopped (R143). -/
def State.withoutSkim (s : State) : State :=
  { s with planner := { s.planner with waitingSkim := none, work := s.planner.work.map Work.stopSkim } }

theorem State.withoutSkim_eq (s : State) :
    { s with planner := s.planner.stopSkim }.placeSkim none = s.withoutSkim := by
  have hwork : s.planner.stopSkim.work = s.planner.work.map Work.stopSkim := by
    unfold Planner.stopSkim
    cases s.planner.work with
    | none => rfl
    | some w =>
      simp only [Option.map_some, Work.stopSkim]
      cases w.job <;> rfl
  rw [State.withoutSkim, ← hwork]
  rfl

/-- The skim strokes that STOP SKIM drops are the office's WAITING ones (R130, R143). -/
theorem State.dropSkims_all (s : State) :
    let u := s.dropSkims (fun _ => true)
    s.givesBack u (fun r => if waitingOf .office r then r.count else 0) ∧
    s.endsRecords u (fun _ => false) (waitingOf .office) := by
  have hchosen : ∀ r : Stroke,
      waitingOf .office r = (r.state == .waiting && (r.owner == .office && true)) := fun r => by
    rw [Bool.and_true]; rfl
  have hgive := s.endStrokes_givesBack (dropWhere (fun r => r.owner == .office && true))
  simp only [dropWhere_pieces, ← hchosen] at hgive
  exact ⟨hgive, s.endsRecords_dropWhere _ _ hchosen⟩

end Sys2Proof.Machine

namespace Sys2Proof
open Machine

/-- Settles O46: each request by whether a skim is live; STOP SKIM by the office strokes it drops. -/
theorem skimIsPlacedAndStopped : Obligations.SkimIsPlacedAndStopped := by
  intro s ht
  have htarget : exec (.skimToTarget .office []) s = (skimToTarget s).1.answered .office 0x30
      (skimToTarget s).2 := office_performed .skimToTarget [] s ht rfl rfl (by decide)
  have hempty : ∀ b, exec (.emptyStore .office [b]) s = (emptyStore [b] s).1.answered .office 0x31
      (emptyStore [b] s).2 := fun b => office_performed .emptyStore [b] s ht rfl rfl (by decide)
  have hstop : exec (.stopSkim .office []) s = (stopSkim s).1.answered .office 0x32
      (stopSkim s).2 := office_performed .stopSkim [] s ht rfl rfl (by decide)
  dsimp only
  rw [← s.skimLive_iff, htarget, hstop]
  refine ⟨fun hlive => ⟨?_, fun k => ?_, ?_⟩, fun hlive => ⟨?_, fun k => ?_, ?_⟩, fun b hb => ?_⟩
  · rw [skimToTarget, if_pos hlive]
  · rw [hempty, emptyStore, onStore_index, if_pos hlive]
  · obtain ⟨hgive, hends⟩ := s.withoutSkim.dropSkims_all
    refine ⟨s.withoutSkim.dropSkims (fun _ => true), ?_, hgive, ?_⟩
    · rw [stopSkim, if_pos hlive, State.withoutSkim_eq]
    · exact (State.endsRecords_congr rfl).mp hends
  · rw [skimToTarget, if_neg hlive, State.beginSkim_eq]
    rfl
  · rw [hempty, emptyStore, onStore_index, if_neg hlive, State.beginSkim_eq]
    rfl
  · rw [stopSkim, if_neg hlive]
  · rw [hempty, emptyStore, onStore_range hb]

end Sys2Proof
end

section
/-! PROOF. ASSIGN STORE (O40): its checks in order, and the store's state after it. -/

namespace Sys2Proof.Machine

/-- A store may be given no denomination, or a used one of its kind (R146). -/
theorem State.assignable_iff (s : State) (k : StoreId) (d : Option Denom) :
    s.assignable k d = true ↔
      ∀ e, d = some e → s.value e ≠ 0 ∧ (s.denom e).kind = if k.val < 8 then .coin else .note := by
  cases d with
  | none => simp [State.assignable]
  | some e => simp [State.assignable, State.usedOfKind, State.used, State.value, storeKind]

/-- R146's table of states; a JAMMED store given a denomination stays JAMMED (log 24). -/
theorem Store.stateAfterAssign_eq {x : Store} (d : Option Denom) (h : x.state ≠ .paying) :
    x.stateAfterAssign d =
      if x.state = .absent then .absent
      else if d = none then .disabled
      else if x.state = .disabled then .disabled
      else if x.state = .jammed then .jammed
      else if d = x.denom then x.state
      else .uncertain := by
  unfold Store.stateAfterAssign
  cases hx : x.state with
  | paying => exact absurd hx h
  | ready | uncertain | absent | disabled | jammed => simp

theorem assignStore_open {s : State} (h : s.bothClosed = false) (sb db hi lo rb : Byte) :
    assignStore [sb, db, hi, lo, rb] s = (s, refuse .state) := by
  simp [assignStore, h]

/-- ASSIGN STORE while both lanes are CLOSED and its bytes are in range, check by check. -/
theorem assignStore_checks {s : State} {sb db hi lo rb : Byte} {k : StoreId} {d : Option Denom} {pay fill : Bool}
    (hclosed : s.bothClosed = true) (hk : readIndex sb = some k) (hd : readIndexOrNone db = some d)
    (hr : readTwoFlags rb = some (pay, fill)) (hlow : 1 ≤ hi.toNat * 256 + lo.toNat)
    (hhigh : hi.toNat * 256 + lo.toNat ≤ 4095) :
    assignStore [sb, db, hi, lo, rb] s =
      if ¬s.assignable k d = true then (s, refuse .range)
      else if (s.store k).physical ≠ 0 then (s, refuse .holdsStock)
      else if (s.store k).fills ≠ [] then (s, refuse .state)
      else if (s.store k).state = .paying then (s, refuse .state)
      else ((s.setStore k { s.store k with
        denom := d, capacity := hi.toNat * 256 + lo.toNat, pay := pay, fill := fill
        state := (s.store k).stateAfterAssign d }).closeEvent, done) := by
  have hpending : (s.store k).pending ≠ 0 ↔ (s.store k).fills ≠ [] := not_congr List.length_eq_zero_iff
  have hzero : hi.toNat * 256 + lo.toNat ≠ 0 := Nat.one_le_iff_ne_zero.mp hlow
  have hmax : ¬Config.maxCapacity < hi.toNat * 256 + lo.toNat := Nat.not_lt.mpr hhigh
  simp only [assignStore, numberOf_two, hclosed, hk, hd, hr, hpending, hzero, hmax, Bool.not_true,
    Bool.false_eq_true, if_false, false_or, Bool.not_eq_true', Bool.not_eq_true]
  rfl

theorem assignStore_range {s : State} {sb db hi lo rb : Byte} (hclosed : s.bothClosed = true)
    (h : readIndex sb = none ∨ readIndexOrNone db = none ∨ readTwoFlags rb = none ∨
      hi.toNat * 256 + lo.toNat = 0 ∨ 4095 < hi.toNat * 256 + lo.toNat) :
    assignStore [sb, db, hi, lo, rb] s = (s, refuse .range) := by
  simp only [assignStore, numberOf_two, hclosed, Bool.not_true, Bool.false_eq_true, if_false]
  split
  · rename_i k d pay fill hk hd hr
    have hcapacity : hi.toNat * 256 + lo.toNat = 0 ∨ 4095 < hi.toNat * 256 + lo.toNat := by
      simpa [hk, hd, hr] using h
    exact if_pos (hcapacity.imp_right .inl)
  · rfl

end Sys2Proof.Machine

namespace Sys2Proof
open Machine

/-- Settles O40, by the checks of ASSIGN STORE in their order and the table of states after it. -/
theorem assignStoreWritesAnEmptyStore : Obligations.AssignStoreWritesAnEmptyStore := by
  intro s sb db hi lo rb ht
  have hrun : exec (.assignStore .office [sb, db, hi, lo, rb]) s =
      (assignStore [sb, db, hi, lo, rb] s).1.answered .office 0x2A
        (assignStore [sb, db, hi, lo, rb] s).2 :=
    office_performed .assignStore _ s ht rfl rfl (by decide)
  dsimp only
  rw [hrun, ← s.bothClosed_iff]
  refine ⟨fun hopen => ?_, fun h1 h2 => ?_⟩
  · rw [assignStore_open (Bool.eq_false_of_not_eq_true hopen)]
  · have hclosed := s.bothClosed_iff.mpr ⟨h1, h2⟩
    refine ⟨fun hrange => by rw [assignStore_range hclosed hrange],
      fun k d pay fill hk hd hr hlow hhigh => ?_⟩
    rw [assignStore_checks hclosed hk hd hr hlow hhigh, ← s.assignable_iff k d]
    refine ⟨fun hnot => by rw [if_pos hnot], fun hfits hheld => ?_, fun hfits hempty hbusy => ?_,
      fun hfits hempty hfills hidle => ?_⟩
    · rw [if_neg (not_not.mpr hfits), if_pos hheld]
    · rw [if_neg (not_not.mpr hfits), if_neg (not_not.mpr hempty)]
      by_cases hfills : (s.store k).fills = []
      · rw [if_neg (not_not.mpr hfills), if_pos (hbusy.resolve_left (not_not.mpr hfills))]
      · rw [if_pos hfills]
    · rw [if_neg (not_not.mpr hfits), if_neg (not_not.mpr hempty), if_neg (not_not.mpr hfills),
        if_neg hidle, Store.stateAfterAssign_eq d hidle]

end Sys2Proof
end

section
/-! PROOF. WRITE PROFILE ENTRY and COMMIT PROFILE (O42). -/

namespace Sys2Proof.Machine

theorem readIndex_some {b : Byte} {k : Fin 12} (h : b.toNat = k.val) : readIndex b = some k := by
  have hb : b.toNat < 12 := h ▸ k.isLt
  rw [readIndex, dif_pos hb]
  exact congrArg some (Fin.ext h)

theorem field_fits {width n : Nat} (h : n < 256 ^ width) : field width n = bigEndian width n := if_pos h

/-- Clamped marks stay under the top they are clamped to (R136). -/
theorem clampMarks_le (top low target high : Nat) :
    let m := clampMarks top low target high
    m.low ≤ top ∧ m.target ≤ top ∧ m.high ≤ top := by
  simp only [clampMarks]
  omega

/-- Marks of at most 4,095 fit their fields (R178). -/
theorem Marks.bytes_fit {m : Marks} (h : m.low ≤ 4095 ∧ m.target ≤ 4095 ∧ m.high ≤ 4095) :
    m.bytes = bigEndian 2 m.low ++ bigEndian 2 m.target ++ bigEndian 2 m.high := by
  obtain ⟨hlow, htarget, hhigh⟩ := h
  rw [Marks.bytes, field_fits (by omega), field_fits (by omega), field_fits (by omega)]

theorem writeProfileEntry_range {i : Byte} (h : 11 < i.toNat) (s : State) (l1 l0 t1 t0 h1 h0 : Byte) :
    writeProfileEntry [i, l1, l0, t1, t0, h1, h0] s = (s, refuse .range) := by
  simp only [writeProfileEntry, readIndex_none h]

/-- WRITE PROFILE ENTRY on an index: the marks as clamped are written and answered (R136). -/
theorem writeProfileEntry_index {i : Byte} {d : Denom} (h : i.toNat = d.val) (s : State)
    (l1 l0 t1 t0 h1 h0 : Byte) :
    let m := clampMarks (min 4095 (s.summedCapacity d)) (l1.toNat * 256 + l0.toNat)
      (t1.toNat * 256 + t0.toNat) (h1.toNat * 256 + h0.toNat)
    writeProfileEntry [i, l1, l0, t1, t0, h1, h0] s =
      ({ s with pendingMarks := s.pendingMarks.set d.val m d.isLt },
        answer (bigEndian 2 m.low ++ bigEndian 2 m.target ++ bigEndian 2 m.high)) := by
  intro m
  have htop : min 4095 (s.summedCapacity d) ≤ 4095 := Nat.min_le_left _ _
  obtain ⟨hlow, htarget, hhigh⟩ := clampMarks_le (min 4095 (s.summedCapacity d)) (l1.toNat * 256 + l0.toNat)
    (t1.toNat * 256 + t0.toNat) (h1.toNat * 256 + h0.toNat)
  rw [← Marks.bytes_fit ⟨hlow.trans htop, htarget.trans htop, hhigh.trans htop⟩]
  simp only [writeProfileEntry, readIndex_some h, numberOf_two]
  rfl

/-- A quiet point, with the skims under one name (R139). -/
theorem State.quietPoint_iff_skimLive (s : State) : s.quietPoint = true ↔
    (s.sale .one).state = .idle ∧ (s.sale .two).state = .idle ∧ s.skimLive = false ∧ s.planner.work = none := by
  simp [State.quietPoint, State.bothIdle, and_assoc]

theorem commitProfile_armed {s : State} (h : s.armed = true) : commitProfile s = (s, done) := by
  rw [commitProfile, if_pos h]

/-- COMMIT PROFILE with no switch armed: it is made at a quiet point, and armed elsewhere (R138, R139). -/
theorem commitProfile_unarmed {s : State} (h : s.armed = false) : commitProfile s =
    ((if s.quietPoint = true then
      { s with active := s.pendingMarks, armed := false }.officeFlag .profileSwitched true
    else { s with armed := true }).closeEvent, done) := by
  have hquiet : ({ s with armed := true } : State).quietPoint = s.quietPoint := rfl
  rw [commitProfile, if_neg (by simp [h]), State.switchIfQuiet, hquiet, Bool.true_and]
  rfl

end Sys2Proof.Machine

namespace Sys2Proof
open Machine

/-- Settles O42: the marks by their clamps, the commit by the armed switch and the quiet point. -/
theorem profileIsWrittenAndCommitted : Obligations.ProfileIsWrittenAndCommitted := by
  refine ⟨fun s i l1 l0 t1 t0 h1 h0 ht => ?_, fun s ht => ?_⟩
  · have hrun : exec (.writeProfileEntry .office [i, l1, l0, t1, t0, h1, h0]) s =
        (writeProfileEntry [i, l1, l0, t1, t0, h1, h0] s).1.answered .office 0x2C
          (writeProfileEntry [i, l1, l0, t1, t0, h1, h0] s).2 :=
      office_performed .writeProfileEntry _ s ht rfl rfl (by decide)
    dsimp only
    rw [hrun]
    refine ⟨fun hi => by rw [writeProfileEntry_range hi], fun d hi => ?_⟩
    rw [writeProfileEntry_index hi]
    rfl
  · have hrun : exec (.commitProfile .office []) s = (commitProfile s).1.answered .office 0x2D
        (commitProfile s).2 := office_performed .commitProfile [] s ht rfl rfl (by decide)
    dsimp only
    rw [hrun, ← s.quietPoint_iff_skimLive]
    refine ⟨fun harmed => ?_, fun harmed hbusy => ?_, fun harmed hquiet => ?_⟩
    · rw [commitProfile_armed harmed]
    · rw [commitProfile_unarmed harmed, if_neg hbusy]
    · rw [commitProfile_unarmed harmed, if_pos hquiet]

end Sys2Proof
end

section
/-! PROOF. DECLARE COUNT (O44), and what a booking to ADJUSTED leaves (R148, R150). -/

namespace Sys2Proof.Machine

/-! ### Bookings to ADJUSTED -/

/-- The counter takes the sum up to its limits, and a sum past either marks the shift inexact (R150). -/
theorem State.bookAdjusted_eq (s : State) (d : Denom) (n : Int) :
    let sum := (s.counters d).adjusted + n
    let t := s.setCounters d { s.counters d with adjusted := max (-2147483647) (min 2147483647 sum) }
    s.bookAdjusted d n = if 2147483647 < sum ∨ sum < -2147483647 then t.markInexact else t := by
  dsimp only
  by_cases hhigh : 2147483647 < (s.counters d).adjusted + n
  · have hlimit : max (-2147483647) (min 2147483647 ((s.counters d).adjusted + n)) = 2147483647 := by omega
    rw [if_pos (.inl hhigh), hlimit]
    exact if_pos hhigh
  · by_cases hlow : (s.counters d).adjusted + n < -2147483647
    · have hlimit : max (-2147483647) (min 2147483647 ((s.counters d).adjusted + n)) = -2147483647 := by omega
      rw [if_pos (.inr hlow), hlimit]
      exact (if_neg hhigh).trans (if_pos hlow)
    · have hwithin : max (-2147483647) (min 2147483647 ((s.counters d).adjusted + n)) =
        (s.counters d).adjusted + n := by omega
      rw [if_neg (not_or.mpr ⟨hhigh, hlow⟩), hwithin]
      exact s.bookAdjusted_within d n (not_lt.mp hhigh) (not_lt.mp hlow)

theorem State.bookAdjusted_counters (s : State) (d e : Denom) (n : Int) :
    (s.bookAdjusted d n).counters e = if e = d then
      { s.counters d with adjusted := max (-2147483647) (min 2147483647 ((s.counters d).adjusted + n)) }
    else s.counters e := by
  have hmark : ∀ t : State, t.markInexact.counters e = t.counters e := fun _ => rfl
  rw [State.bookAdjusted_eq, apply_ite (fun t : State => t.counters e), hmark, ite_self]
  by_cases he : e = d
  · subst he; rw [if_pos rfl, State.counters_setCounters_self]
  · rw [if_neg he, State.counters_setCounters_ne _ _ _ _ he]

/-- A booking to ADJUSTED past either limit marks the shift inexact, and no other does (R150). -/
theorem State.bookAdjusted_inexact (s : State) (d : Denom) (n : Int) :
    let sum := (s.counters d).adjusted + n
    let u := s.bookAdjusted d n
    (u.totals.inexact = true ↔ s.totals.inexact = true ∨ 2147483647 < sum ∨ sum < -2147483647) ∧
    (u.officeNotices.flags.shiftInexact = true ↔
      s.officeNotices.flags.shiftInexact = true ∨ 2147483647 < sum ∨ sum < -2147483647) := by
  dsimp only
  rw [State.bookAdjusted_eq]
  split
  · rename_i hpasses
    simp [State.markInexact, State.officeFlag, OfficeBits.set, hpasses]
  · rename_i hwithin
    simp only [hwithin, or_false]
    exact ⟨Iff.rfl, Iff.rfl⟩

theorem State.bookAdjustedStore_onlyBooks (s : State) (k : StoreId) (n : Int) :
    s.onlyBooks (s.bookAdjustedStore k n) := by
  unfold State.bookAdjustedStore
  split
  · exact s.bookAdjusted_onlyBooks _ n
  · exact ⟨_, _, _, rfl⟩

/-- A booking against a store books against its denomination alone. -/
theorem State.bookAdjustedStore_counters (s : State) (k : StoreId) (n : Int) (e : Denom) :
    (s.bookAdjustedStore k n).counters e = if (s.store k).denom = some e then
      { s.counters e with adjusted := max (-2147483647) (min 2147483647 ((s.counters e).adjusted + n)) }
    else s.counters e := by
  unfold State.bookAdjustedStore
  cases (s.store k).denom with
  | none => rfl
  | some d =>
    dsimp only
    rw [State.bookAdjusted_counters]
    by_cases he : e = d
    · subst he; rw [if_pos rfl, if_pos rfl]
    · rw [if_neg he, if_neg (fun h => he (Option.some.inj h).symm)]

theorem State.bookAdjustedStore_inexact (s : State) (k : StoreId) (n : Int) :
    s.inexactFollows (s.bookAdjustedStore k n) (∃ d, (s.store k).denom = some d ∧
      (2147483647 < (s.counters d).adjusted + n ∨ (s.counters d).adjusted + n < -2147483647)) := by
  have hnotices : (s.bookAdjustedStore k n).officeNotices = { s.officeNotices with flags :=
      { s.officeNotices.flags with
        shiftInexact := (s.bookAdjustedStore k n).officeNotices.flags.shiftInexact } } :=
    congrArg State.officeNotices (s.bookAdjustedStore_onlyBooks k n).eq
  refine and_assoc.mp ⟨?_, hnotices⟩
  unfold State.bookAdjustedStore
  cases (s.store k).denom with
  | none => simp
  | some d => simpa using s.bookAdjusted_inexact d n

/-! ### DECLARE COUNT (R144) -/

theorem Store.declarable_iff (x : Store) :
    x.declarable = true ↔ x.state = .uncertain ∨ x.state = .ready ∧ x.reserved = 0 := by
  simp [Store.declarable]

/-- The store with its count exchanged, before the difference is booked. -/
def State.recounted (s : State) (k : StoreId) (n : Nat) : State :=
  s.setStore k { s.store k with physical := n, state := .ready }

theorem State.denom_recounted (s : State) (k : StoreId) (n : Nat) :
    ((s.recounted k n).store k).denom = (s.store k).denom := by
  rw [State.recounted, State.store_setStore_self]

theorem State.declare_eq (s : State) (k : StoreId) (n : Nat) : s.declare k n =
    ((s.recounted k n).bookAdjustedStore k ((n : Int) - (s.store k).physical)).closeEvent := rfl

theorem declareCount_range {b : Byte} (h : 11 < b.toNat) (s : State) (hi lo : Byte) :
    declareCount [b, hi, lo] s = (s, refuse .range) := by
  simp only [declareCount, readIndex_none h]

/-- DECLARE COUNT on a store, check by check. -/
theorem declareCount_checks {b : Byte} {k : StoreId} (h : b.toNat = k.val) (s : State) (hi lo : Byte) :
    declareCount [b, hi, lo] s =
      if ¬(s.store k).declarable = true ∨ (s.store k).fills ≠ [] then (s, refuse .state)
      else if (s.store k).capacity < hi.toNat * 256 + lo.toNat then (s, refuse .range)
      else (s.declare k (hi.toNat * 256 + lo.toNat), answer (field 2 (s.store k).physical)) := by
  have hpending : (s.store k).pending ≠ 0 ↔ (s.store k).fills ≠ [] := not_congr List.length_eq_zero_iff
  simp only [declareCount, readIndex_some h, numberOf_two, hpending]
  cases (s.store k).declarable <;> simp

end Sys2Proof.Machine

namespace Sys2Proof
open Machine

/-- Settles O44, by the checks of DECLARE COUNT in their order and what its booking leaves. -/
theorem declareCountExchangesTheCount : Obligations.DeclareCountExchangesTheCount := by
  intro s b hi lo ht
  have hrun : exec (.declareCount .office [b, hi, lo]) s = (declareCount [b, hi, lo] s).1.answered .office 0x33
      (declareCount [b, hi, lo] s).2 := office_performed .declareCount _ s ht rfl rfl (by decide)
  dsimp only
  rw [hrun]
  refine ⟨fun hb => by rw [declareCount_range hb], fun k hk => ?_⟩
  rw [declareCount_checks hk, ← Store.declarable_iff]
  refine ⟨fun hbusy => by rw [if_pos hbusy], fun hready hfills hover => ?_, fun hready hfills hfits hphys => ?_⟩
  · rw [if_neg (by simp [hready, hfills]), if_pos hover]
  · rw [if_neg (by simp [hready, hfills]), if_neg (Nat.not_lt.mpr hfits), State.declare_eq,
      field_fits hphys]
    generalize hi.toNat * 256 + lo.toNat = n
    generalize (n : Int) - (s.store k).physical = change
    have hbooks := (s.recounted k n).bookAdjustedStore_onlyBooks k change
    have hcount := (s.recounted k n).bookAdjustedStore_counters k change
    have hinexact := (s.recounted k n).bookAdjustedStore_inexact k change
    rw [State.denom_recounted] at hcount hinexact
    refine ⟨_, rfl, hbooks.stores, fun d hd => ?_, fun e he => ?_, ?_, hinexact, ?_⟩
    · exact (hcount d).trans (if_pos hd)
    · exact (hcount e).trans (if_neg he)
    all_goals
      obtain ⟨c, i, f, hu⟩ := hbooks
      rw [hu]
    · rfl
    · exact ⟨rfl, rfl, rfl⟩

end Sys2Proof
end

section
/-! SUPPORT. The identity of R149 as an imbalance of each denomination: what a booking and a change of a count
move it by. -/

namespace Sys2Proof.Machine

/-! ### Pieces by denomination -/

/-- Pieces of one denomination and none of another; none at all where no denomination is given. -/
def inDenom (d : Option Denom) (n : Int) : Denom → Int := fun e => if d = some e then n else 0

theorem inDenom_none (n : Int) : inDenom none n = 0 := rfl

theorem inDenom_zero (d : Option Denom) : inDenom d 0 = 0 := funext fun _ => ite_self _

theorem inDenom_add (d : Option Denom) (m n : Int) : inDenom d (m + n) = inDenom d m + inDenom d n := by
  funext e
  simp only [inDenom, Pi.add_apply]
  split <;> simp

theorem inDenom_neg (d : Option Denom) (n : Int) : inDenom d (-n) = -inDenom d n := by
  funext e
  simp only [inDenom, Pi.neg_apply]
  split <;> simp

/-- The pieces that a store's books count. -/
def Store.pieces (x : Store) : Denom → Int := inDenom x.denom x.physical

/-- The pieces that a cashbox counts. -/
def Cashbox.pieces (b : Cashbox) : Denom → Int := fun d => b.countOf d

/-- The holdings of a denomination, store by store (R149). -/
theorem State.holdings_eq (s : State) (d : Denom) : (s.holdings d : Int) =
    (allStores.map (fun k => (s.store k).pieces d)).sum + (s.box (s.denom d).kind).pieces d := by
  have hstores : ∀ ks : List StoreId,
      ((((ks.filter (fun k => s.holds k d)).map (fun k => (s.store k).physical)).sum : Nat) : Int) =
        (ks.map (fun k => (s.store k).pieces d)).sum := by
    intro ks
    induction ks with
    | nil => rfl
    | cons k ks ih =>
      by_cases h : (s.store k).denom = some d <;>
        simp_all [State.holds, Store.pieces, inDenom]
  rw [State.holdings, Nat.cast_add, hstores]
  rfl

/-- Another book of one store moves a sum over the stores by the difference. -/
theorem sum_stores_change {f g : StoreId → Int} {k : StoreId} (h : ∀ j, j ≠ k → f j = g j) :
    (allStores.map f).sum = (allStores.map g).sum + f k - g k := by
  have key : ∀ ks : List StoreId, ks.Nodup → (ks.map f).sum = (ks.map g).sum + if k ∈ ks then f k - g k else 0 := by
    intro ks nodup
    induction ks with
    | nil => rfl
    | cons j ks ih =>
      obtain ⟨hj, nodup⟩ := List.nodup_cons.mp nodup
      rw [List.map_cons, List.sum_cons, List.map_cons, List.sum_cons, ih nodup]
      by_cases hk : j = k
      · subst hk; rw [if_neg hj, if_pos List.mem_cons_self]; omega
      · simp only [h j hk, List.mem_cons, Ne.symm hk, false_or, Int.add_assoc]
  rw [key allStores allStores_nodup, if_pos (mem_allStores k)]
  omega

/-! ### The imbalance -/

/-- The imbalance of a denomination in the open shift (R151). -/
def State.imbalance (s : State) (d : Denom) : Int := (s.shiftLine d).imbalance

theorem State.imbalance_eq (s : State) (d : Denom) :
    s.imbalance d = s.holdings d - (s.counters d).expected s.totals.opening[d] := rfl

/-- A shift opens balanced (R154). -/
theorem State.imbalance_closeTotals (s : State) (d : Denom) : s.closeTotals.imbalance d = 0 := by
  obtain ⟨-, -, -, -, -, hlines⟩ := s.closesShift_closeTotals
  obtain ⟨hcounters, hopening, -⟩ := hlines d
  rw [State.imbalance_eq, hcounters, hopening]
  change (s.holdings d : Int) - _ = 0
  simp [Counters.expected, Counters.zero]

/-- How R149's identity takes a counter. -/
def Counter.sign : Counter → Int
  | .accepted | .loaded | .retracted => 1
  | .skimmed => 0
  | .paid | .emptied | .removed | .unplaced => -1

theorem Counters.expected_set (x : Counters) (c : Counter) (n opening : Nat) :
    (x.set c n).expected opening = x.expected opening + c.sign * (n - x.get c) := by
  cases c <;> simp only [Counters.expected, Counters.set, Counters.get, Counter.sign] <;> omega

/-- Counters written for one denomination move its imbalance alone. -/
theorem State.imbalance_setCounters (s : State) (d : Denom) (x : Counters) :
    (s.setCounters d x).imbalance = s.imbalance -
      inDenom (some d) (x.expected s.totals.opening[d] - (s.counters d).expected s.totals.opening[d]) := by
  funext e
  have hold : (s.setCounters d x).holdings e = s.holdings e := rfl
  have hopen : (s.setCounters d x).totals.opening = s.totals.opening := rfl
  rw [Pi.sub_apply, State.imbalance_eq, State.imbalance_eq, hold, hopen, inDenom]
  by_cases he : e = d
  · subst he
    rw [State.counters_setCounters_self, if_pos rfl]
    omega
  · rw [State.counters_setCounters_ne _ _ _ _ he, if_neg fun h => he (Option.some.inj h).symm, Int.sub_zero]

/-- A booking within its limit moves the imbalance of its denomination by its pieces (R148, R149). -/
theorem State.imbalance_book {s : State} {c : Counter} {d : Denom} {n : Nat}
    (h : (s.book c d n).totals.inexact = false) :
    s.totals.inexact = false ∧ (s.book c d n).imbalance = s.imbalance - inDenom (some d) (c.sign * n) := by
  have hexact := not_congr (s.book_inexact c d n).1
  rw [Bool.not_eq_true, not_or, Bool.not_eq_true, Nat.not_lt] at hexact
  obtain ⟨hbefore, hfits⟩ := hexact.mp h
  refine ⟨hbefore, ?_⟩
  rw [State.book_within _ _ _ _ hfits, State.imbalance_setCounters, Counters.expected_set, Nat.cast_add,
    add_sub_cancel_left, add_sub_cancel_left]

/-- A booking to ADJUSTED within its limits (R148, R149). -/
theorem State.imbalance_bookAdjusted {s : State} {d : Denom} {n : Int}
    (h : (s.bookAdjusted d n).totals.inexact = false) :
    s.totals.inexact = false ∧ (s.bookAdjusted d n).imbalance = s.imbalance - inDenom (some d) n := by
  have hexact := not_congr (s.bookAdjusted_inexact d n).1
  rw [Bool.not_eq_true, not_or, Bool.not_eq_true, not_or, Int.not_lt, Int.not_lt] at hexact
  obtain ⟨hbefore, hhigh, hlow⟩ := hexact.mp h
  refine ⟨hbefore, ?_⟩
  rw [State.bookAdjusted_within _ _ _ hhigh hlow, State.imbalance_setCounters]
  congr 2
  simp only [Counters.expected]
  omega

/-- A change of one store moves the imbalance by the pieces its books gain (R149). -/
theorem State.imbalance_modStore (s : State) (k : StoreId) (f : Store → Store) :
    (s.modStore k f).imbalance = s.imbalance + (f (s.store k)).pieces - (s.store k).pieces := by
  funext d
  have hchange := sum_stores_change (k := k) (f := fun j => ((s.modStore k f).store j).pieces d)
    (g := fun j => (s.store j).pieces d) (fun j hj => by rw [s.store_modStore_ne k j f hj])
  have hbox : (s.modStore k f).box ((s.modStore k f).denom d).kind = s.box (s.denom d).kind := rfl
  have hcounters : ((s.modStore k f).counters d).expected (s.modStore k f).totals.opening[d] =
    (s.counters d).expected s.totals.opening[d] := rfl
  rw [State.store_modStore_self] at hchange
  rw [Pi.sub_apply, Pi.add_apply, State.imbalance_eq, State.imbalance_eq, State.holdings_eq, State.holdings_eq,
    hbox, hcounters, hchange]
  omega

/-- A change of a cashbox that counts pieces of its own kind alone, before and after (R19, R149). -/
theorem State.imbalance_modBox {s : State} {k : Kind} {f : Cashbox → Cashbox}
    (before : ∀ d, (s.box k).countOf d ≠ 0 → (s.denom d).kind = k)
    (after : ∀ d, (f (s.box k)).countOf d ≠ 0 → (s.denom d).kind = k) :
    (s.modBox k f).imbalance = s.imbalance + (f (s.box k)).pieces - (s.box k).pieces := by
  funext d
  have hdenom : (s.modBox k f).denom d = s.denom d := rfl
  have hcounters : ((s.modBox k f).counters d).expected (s.modBox k f).totals.opening[d] =
    (s.counters d).expected s.totals.opening[d] := rfl
  rw [Pi.sub_apply, Pi.add_apply, State.imbalance_eq, State.imbalance_eq, State.holdings_eq, State.holdings_eq,
    hdenom, hcounters, State.box_modBox]
  simp only [State.store_modBox]
  by_cases hkind : (s.denom d).kind = k
  · rw [if_pos hkind, hkind]; omega
  · have hbefore : (s.box k).pieces d = 0 := congrArg Nat.cast (not_imp_comm.mp (before d) hkind)
    have hafter : (f (s.box k)).pieces d = 0 := congrArg Nat.cast (not_imp_comm.mp (after d) hkind)
    rw [if_neg hkind, hbefore, hafter]; omega

end Sys2Proof.Machine
end

section
/-! PROOF. CLOSE SHIFT and CLEAR CURRENCY (O47): what their checks read, and the tables that are left. -/

namespace Sys2Proof.Machine

/-! ### What the checks read -/

theorem State.somePending_eq_false_iff (s : State) : s.somePending = false ↔ ∀ k, (s.store k).fills = [] := by
  simp [State.somePending, Store.pending, mem_allStores]

theorem State.plannerEmpty_iff (s : State) : s.plannerEmpty = true ↔
    s.planner.work = none ∧ s.planner.waitingSkim = none ∧ ∀ l, s.planner.waitingLane.get l = none := by
  have hlanes : (∀ l, s.planner.waitingLane.get l = none) ↔
      s.planner.waitingLane.get .one = none ∧ s.planner.waitingLane.get .two = none :=
    ⟨fun h => ⟨h _, h _⟩, by rintro ⟨_, _⟩ (_ | _) <;> assumption⟩
  rw [hlanes]
  simp [State.plannerEmpty, and_assoc]

/-- What CLOSE SHIFT waits for (R153). -/
theorem State.shiftBusy_iff (s : State) : s.shiftBusy = true ↔
    (s.sale .one).state ≠ .idle ∨ (s.sale .two).state ≠ .idle ∨ (∃ k, (s.store k).fills ≠ []) ∨
      s.pool.records ≠ [] ∨ s.planner.work ≠ none ∨ s.planner.waitingSkim ≠ none ∨
      ∃ l, s.planner.waitingLane.get l ≠ none := by
  have hpending : s.somePending = true ↔ ∃ k, (s.store k).fills ≠ [] := by
    rw [← Bool.not_eq_false, s.somePending_eq_false_iff, not_forall]
  have hplanner : s.plannerEmpty = false ↔ s.planner.work ≠ none ∨ s.planner.waitingSkim ≠ none ∨
      ∃ l, s.planner.waitingLane.get l ≠ none := by
    rw [← Bool.not_eq_true, s.plannerEmpty_iff, not_and_or, not_and_or, not_forall]
  have hidle : s.bothIdle = false ↔ (s.sale .one).state ≠ .idle ∨ (s.sale .two).state ≠ .idle := by
    simp [State.bothIdle, imp_iff_not_or]
  rw [State.shiftBusy, Bool.or_eq_true, Bool.or_eq_true, Bool.or_eq_true, Bool.not_eq_true', Bool.not_eq_true',
    Bool.not_eq_true', hpending, hplanner, hidle, List.isEmpty_eq_false_iff, or_assoc, or_assoc, or_assoc]

/-- What CLEAR CURRENCY asks first (R156). -/
theorem State.clearAllowed_iff (s : State) : s.clearAllowed = true ↔
    s.mode .one = .closed ∧ s.mode .two = .closed ∧ (∀ k, (s.store k).fills = []) ∧ s.skimLive = false ∧
      s.planner.work = none ∧ ∀ l, s.planner.waitingLane.get l = none := by
  have hwaiting : s.skimLive = false → s.planner.waitingSkim = none := fun hlive => by
    rw [← Bool.not_eq_true, s.skimLive_iff, not_or] at hlive
    exact not_not.mp hlive.1
  simp only [State.clearAllowed, Bool.and_eq_true, Bool.not_eq_true', s.bothClosed_iff, s.somePending_eq_false_iff,
    s.plannerEmpty_iff]
  constructor
  · rintro ⟨⟨⟨⟨one, two⟩, hfills⟩, hlive⟩, hwork, -, hlanes⟩
    exact ⟨one, two, hfills, hlive, hwork, hlanes⟩
  · rintro ⟨one, two, hfills, hlive, hwork, hlanes⟩
    exact ⟨⟨⟨⟨one, two⟩, hfills⟩, hlive⟩, hwork, hwaiting hlive, hlanes⟩

/-- Some denomination has holdings (R156). -/
theorem State.anyHoldings_iff (s : State) :
    allDenoms.any (fun d => s.holdings d != 0) = true ↔ ∃ d, s.holdings d ≠ 0 := by
  simp [mem_allDenoms]

/-! ### What CLEAR CURRENCY leaves (R157) -/

theorem State.denom_clearTables (s : State) (d : Denom) :
    s.clearTables.denom d = { value := 0, kind := (s.denom d).kind, enabled := false } :=
  mapTable_get _ s.denoms d

theorem State.store_clearTables (s : State) (k : StoreId) : s.clearTables.store k = (s.store k).unassign :=
  mapTable_get Store.unassign s.stores k

theorem State.classes_clearTables (s : State) (k : Kind) (c : ClassCode) :
    (s.clearTables.classes.get k)[c] = none := by
  cases k <;> exact Vector.getElem_replicate _

theorem State.marks_clearTables (s : State) (d : Denom) :
    s.clearTables.active[d] = Marks.zero ∧ s.clearTables.pendingMarks[d] = Marks.zero :=
  ⟨Vector.getElem_replicate _, Vector.getElem_replicate _⟩

end Sys2Proof.Machine

namespace Sys2Proof
open Machine

/-- Settles O47: each request by its checks; the shift that it closes opens balanced, at its own holdings. -/
theorem shiftIsClosedAndCurrencyCleared : Obligations.ShiftIsClosedAndCurrencyCleared := by
  refine ⟨fun _ _ => rfl, fun s ht => ?_, fun s ht => ?_⟩
  · have hrun : exec (.closeShift .office []) s = (closeShift s).1.answered .office 0x38 (closeShift s).2 :=
      office_performed .closeShift [] s ht rfl rfl (by decide)
    dsimp only
    rw [← s.shiftBusy_iff, hrun, closeShift]
    refine ⟨fun hbusy => ?_, fun hfree => ⟨s.closeTotals, ?_, s.closesShift_closeTotals, s.imbalance_closeTotals, rfl⟩⟩
    · rw [if_pos hbusy]
    · rw [if_neg hfree]
  · have hrun : exec (.clearCurrency .office []) s =
        (clearCurrency s).1.answered .office 0x39 (clearCurrency s).2 :=
      office_performed .clearCurrency [] s ht rfl rfl (by decide)
    dsimp only
    rw [← s.clearAllowed_iff, hrun, clearCurrency]
    refine ⟨fun hrefused => ?_, fun hallowed hholds => ?_, fun hallowed hempty =>
      ⟨s.closeTotals.clearTables, ?_, s.closesShift_closeTotals, s.closeTotals.denom_clearTables,
        s.closeTotals.classes_clearTables, s.closeTotals.store_clearTables, s.closeTotals.marks_clearTables, rfl, rfl⟩⟩
    · rw [if_pos (by simpa using hrefused)]
    · rw [if_neg (by simpa using hallowed), if_pos (s.anyHoldings_iff.mpr hholds)]
    · rw [if_neg (by simpa using hallowed), if_neg]
      rw [s.anyHoldings_iff]
      exact fun ⟨d, hd⟩ => hd (hempty d)

end Sys2Proof
end

section
/-! SUPPORT. The books of the part, reconciled but for an amount by denomination that an event in progress has
counted and not booked, or booked and not counted (R148, R149). -/

namespace Sys2Proof.Machine

/-- The clauses of R149's invariant, with the imbalance of each denomination at `off` in a shift that is not
inexact. -/
structure State.Reconciles (s : State) (off : Denom → Int) : Prop where
  imbalance : s.totals.inexact = false → s.imbalance = off
  stores : ∀ k d, (s.store k).denom = some d → (s.denom d).kind = storeKind k
  classes : ∀ (k : Kind) (c : ClassCode) (d : Denom), (s.classes.get k)[c] = some d → (s.denom d).kind = k
  boxes : ∀ k d, (s.box k).countOf d ≠ 0 → (s.denom d).kind = k
  absent : ∀ k, (s.store k).state = .absent → (s.store k).physical = 0
  fills : ∀ k, ∀ f ∈ (s.store k).fills, (s.store k).denom = some f.denom

theorem State.holdingsBalance_iff (s : State) : s.holdingsBalance ↔ s.Reconciles 0 := by
  have identity : (∀ d, (s.holdings d : Int) = (s.counters d).expected s.totals.opening[d]) ↔ s.imbalance = 0 := by
    rw [funext_iff]
    exact forall_congr' fun d => sub_eq_zero.symm
  constructor
  · rintro ⟨hd, hs, hc, hb, ha, hf⟩
    exact ⟨fun hi => identity.mp (hd hi), hs, hc, hb, ha, hf⟩
  · rintro ⟨hd, hs, hc, hb, ha, hf⟩
    exact ⟨fun hi => identity.mpr (hd hi), hs, hc, hb, ha, hf⟩

/-! ### What leaves the books as they stand -/

/-- A store as R149 reads it: its denomination and count stand, it has not gone ABSENT, and no fill has joined. -/
structure Store.sameCount (x y : Store) : Prop where
  denom : y.denom = x.denom
  physical : y.physical = x.physical
  absent : y.state = .absent → x.state = .absent
  fills : ∀ f ∈ y.fills, ∃ g ∈ x.fills, g.denom = f.denom

theorem Store.sameCount.refl (x : Store) : x.sameCount x := ⟨rfl, rfl, id, fun f hf => ⟨f, hf, rfl⟩⟩

/-- A store of which the books see nothing new. -/
theorem Store.sameCount.of_fields {x y : Store} (hd : y.denom = x.denom) (hp : y.physical = x.physical)
    (hs : y.state = .absent → x.state = .absent) (hf : y.fills = x.fills) : x.sameCount y :=
  ⟨hd, hp, hs, fun f h => ⟨f, hf ▸ h, rfl⟩⟩

theorem Store.sameCount.trans {x y z : Store} (h : x.sameCount y) (h' : y.sameCount z) : x.sameCount z where
  denom := h'.denom.trans h.denom
  physical := h'.physical.trans h.physical
  absent := h.absent ∘ h'.absent
  fills f hf := by
    obtain ⟨g, hg, hgf⟩ := h'.fills f hf
    obtain ⟨e, he, heg⟩ := h.fills g hg
    exact ⟨e, he, heg.trans hgf⟩

/-- The kinds, the class tables, the counts and the totals stand. -/
structure State.sameLedger (s t : State) : Prop where
  kinds : ∀ d, (t.denom d).kind = (s.denom d).kind
  classes : t.classes = s.classes
  stores : ∀ k, (s.store k).sameCount (t.store k)
  boxes : ∀ k d, (t.box k).countOf d = (s.box k).countOf d
  totals : t.totals = s.totals

theorem State.sameLedger.of_tables {s t : State} (hd : t.denoms = s.denoms) (hc : t.classes = s.classes)
    (hs : t.stores = s.stores) (hb : t.boxes = s.boxes) (ht : t.totals = s.totals) : s.sameLedger t where
  kinds d := by unfold State.denom; rw [hd]
  classes := hc
  stores k := by rw [State.store_congr hs]; exact .refl _
  boxes k d := by rw [State.box_congr hb]
  totals := ht

theorem State.sameLedger.refl (s : State) : s.sameLedger s := .of_tables rfl rfl rfl rfl rfl

theorem State.sameLedger.trans {s t u : State} (h : s.sameLedger t) (h' : t.sameLedger u) : s.sameLedger u where
  kinds d := (h'.kinds d).trans (h.kinds d)
  classes := h'.classes.trans h.classes
  stores k := (h.stores k).trans (h'.stores k)
  boxes k d := (h'.boxes k d).trans (h.boxes k d)
  totals := h'.totals.trans h.totals

theorem State.sameLedger_modStore (s : State) {k : StoreId} {f : Store → Store}
    (h : (s.store k).sameCount (f (s.store k))) : s.sameLedger (s.modStore k f) where
  kinds _ := rfl
  classes := rfl
  stores j := by
    rw [State.store_modStore]
    split
    · rename_i hj; subst hj; exact h
    · exact .refl _
  boxes _ _ := rfl
  totals := rfl

theorem State.sameLedger_modBox (s : State) {k : Kind} {f : Cashbox → Cashbox}
    (h : (f (s.box k)).counts = (s.box k).counts) : s.sameLedger (s.modBox k f) where
  kinds _ := rfl
  classes := rfl
  stores _ := .refl _
  boxes j d := by
    rw [State.box_modBox]
    split
    · rename_i hj; subst hj; unfold Cashbox.countOf; rw [h]
    · rfl
  totals := rfl

section
variable {s t : State} {off : Denom → Int} (h : s.Reconciles off)
include h

theorem State.Reconciles.same (same : s.sameLedger t) : t.Reconciles off where
  imbalance hi := by
    rw [← h.imbalance (same.totals ▸ hi)]
    funext d
    have hcounters : t.counters d = s.counters d := by unfold State.counters; rw [same.totals]
    have hstores : ∀ k, (t.store k).pieces = (s.store k).pieces := fun k => by
      unfold Store.pieces; rw [(same.stores k).denom, (same.stores k).physical]
    have hbox : ∀ k, (t.box k).pieces = (s.box k).pieces := fun k =>
      funext fun e => congrArg Nat.cast (same.boxes k e)
    rw [State.imbalance_eq, State.imbalance_eq, State.holdings_eq, State.holdings_eq, hcounters, same.totals,
      same.kinds, hbox]
    simp only [hstores]
  stores k d hd := by
    rw [same.kinds]
    exact h.stores k d ((same.stores k).denom ▸ hd)
  classes k c d hc := by
    rw [same.kinds]
    exact h.classes k c d (same.classes ▸ hc)
  boxes k d hd := by
    rw [same.kinds]
    exact h.boxes k d (same.boxes k d ▸ hd)
  absent k ha := (same.stores k).physical.trans (h.absent k ((same.stores k).absent ha))
  fills k f hf := by
    obtain ⟨g, hg, hgf⟩ := (same.stores k).fills f hf
    rw [(same.stores k).denom, ← hgf]
    exact h.fills k g hg

/-! ### Bookings and counts -/

/-- A change of the totals alone. -/
theorem State.Reconciles.onlyBooks {off' : Denom → Int} (books : s.onlyBooks t)
    (hoff : t.totals.inexact = false → s.totals.inexact = false ∧ t.imbalance = off') : t.Reconciles off' := by
  obtain ⟨_, _, _, rfl⟩ := books
  exact ⟨fun hi => (hoff hi).2, h.stores, h.classes, h.boxes, h.absent, h.fills⟩

theorem State.Reconciles.book (c : Counter) (d : Denom) (n : Nat) :
    (s.book c d n).Reconciles (off - inDenom (some d) (c.sign * n)) :=
  h.onlyBooks (s.book_onlyBooks c d n) fun hi => by
    obtain ⟨hbefore, himb⟩ := State.imbalance_book hi
    exact ⟨hbefore, by rw [himb, h.imbalance hbefore]⟩

theorem State.Reconciles.bookAdjusted (d : Denom) (n : Int) :
    (s.bookAdjusted d n).Reconciles (off - inDenom (some d) n) :=
  h.onlyBooks (s.bookAdjusted_onlyBooks d n) fun hi => by
    obtain ⟨hbefore, himb⟩ := State.imbalance_bookAdjusted hi
    exact ⟨hbefore, by rw [himb, h.imbalance hbefore]⟩

theorem State.Reconciles.bookStore (c : Counter) (k : StoreId) (n : Nat) :
    (s.bookStore c k n).Reconciles (off - inDenom (s.store k).denom (c.sign * n)) := by
  unfold State.bookStore
  cases (s.store k).denom with
  | none => rw [inDenom_none, sub_zero]; exact h
  | some d => exact h.book c d n

theorem State.Reconciles.bookAdjustedStore (k : StoreId) (n : Int) :
    (s.bookAdjustedStore k n).Reconciles (off - inDenom (s.store k).denom n) := by
  unfold State.bookAdjustedStore
  cases (s.store k).denom with
  | none => rw [inDenom_none, sub_zero]; exact h
  | some d => exact h.bookAdjusted d n

/-- A store that is changed, of its kind and ABSENT only when it counts nothing. -/
theorem State.Reconciles.modStore {k : StoreId} {f : Store → Store}
    (hkind : ∀ d, (f (s.store k)).denom = some d → (s.denom d).kind = storeKind k)
    (habsent : (f (s.store k)).state = .absent → (f (s.store k)).physical = 0)
    (hfills : ∀ g ∈ (f (s.store k)).fills, (f (s.store k)).denom = some g.denom) :
    (s.modStore k f).Reconciles (off + (f (s.store k)).pieces - (s.store k).pieces) where
  imbalance hi := by rw [State.imbalance_modStore, h.imbalance hi]
  stores j d hd := by
    rw [State.store_modStore] at hd
    split at hd
    · rename_i hj; subst hj; exact hkind d hd
    · exact h.stores j d hd
  classes := h.classes
  boxes := h.boxes
  absent j := by
    rw [State.store_modStore]
    split
    · exact habsent
    · exact h.absent j
  fills j := by
    rw [State.store_modStore]
    split
    · exact hfills
    · exact h.fills j

/-- A count of a store that changes, in a state other than ABSENT. -/
theorem State.Reconciles.recount {k : StoreId} {f : Store → Store}
    (hdenom : (f (s.store k)).denom = (s.store k).denom) (hfills : (f (s.store k)).fills = (s.store k).fills)
    (habsent : (f (s.store k)).state = .absent → (f (s.store k)).physical = 0) :
    (s.modStore k f).Reconciles
      (off + inDenom (s.store k).denom (((f (s.store k)).physical : Int) - (s.store k).physical)) := by
  have hmod := h.modStore (k := k) (f := f) (fun d hd => h.stores k d (hdenom ▸ hd)) habsent
    (fun g hg => hdenom ▸ h.fills k g (hfills ▸ hg))
  rwa [Store.pieces, Store.pieces, hdenom, add_sub_assoc, sub_eq_add_neg (inDenom _ _), ← inDenom_neg,
    ← inDenom_add, ← sub_eq_add_neg] at hmod

/-- A cashbox that is changed and counts pieces of its kind. -/
theorem State.Reconciles.modBox {k : Kind} {f : Cashbox → Cashbox}
    (hkind : ∀ d, (f (s.box k)).countOf d ≠ 0 → (s.denom d).kind = k) :
    (s.modBox k f).Reconciles (off + (f (s.box k)).pieces - (s.box k).pieces) where
  imbalance hi := by rw [State.imbalance_modBox (h.boxes k) hkind, h.imbalance hi]
  stores := h.stores
  classes := h.classes
  boxes j d hd := by
    rw [State.box_modBox] at hd
    split at hd
    · rename_i hj; subst hj; exact hkind d hd
    · exact h.boxes j d hd
  absent := h.absent
  fills := h.fills

/-- Pieces of its kind that a cashbox takes in. -/
theorem State.Reconciles.addToBox {d : Denom} {k : Kind} (hkind : (s.denom d).kind = k) (n : Nat)
    {f : Cashbox → Cashbox}
    (hf : (f (s.box k)).counts = ((s.box k).setCount d ((s.box k).countOf d + n)).counts) :
    (s.modBox k f).Reconciles (off + inDenom (some d) n) := by
  have hcount : ∀ e, (f (s.box k)).countOf e = (s.box k).countOf e + if e = d then n else 0 := fun e => by
    have hcounts : (f (s.box k)).countOf e = ((s.box k).setCount d ((s.box k).countOf d + n)).countOf e :=
      congrArg (fun v : Vector Nat 12 => v[e]) hf
    rw [hcounts]
    by_cases he : e = d
    · subst he; rw [Cashbox.countOf_setCount_self, if_pos rfl]
    · rw [Cashbox.countOf_setCount_ne _ _ _ _ he, if_neg he]; rfl
  have hmod := h.modBox (k := k) (f := f) fun e he => by
    by_cases hed : e = d
    · rw [hed]; exact hkind
    · rw [hcount, if_neg hed] at he
      exact h.boxes k e he
  have hpieces : off + (f (s.box k)).pieces - (s.box k).pieces = off + inDenom (some d) n := by
    funext e
    simp only [Pi.add_apply, Pi.sub_apply, Cashbox.pieces, hcount, inDenom, Option.some_inj, eq_comm (a := d)]
    split <;> push_cast <;> omega
  exact hpieces ▸ hmod

end

end Sys2Proof.Machine
end

section
/-! SUPPORT. The books through the changes of the stores, the strokes and the fills (R9, R10, R12, R65–R67). -/

namespace Sys2Proof.Machine

/-! ### Strokes that end and stores that are marked -/

theorem State.sameLedger_endStrokes (s : State) (how : Stroke → Option (Ending × Nat)) :
    s.sameLedger (s.endStrokes how) := by
  obtain ⟨hst, hbox, -⟩ := s.endStrokes_givesBack how
  refine ⟨fun d => by simp [State.denom], by simp, fun k => ?_, fun k d => ?_, by simp⟩
  · rw [hst]; exact .of_fields rfl rfl id rfl
  · rw [hbox]; rfl

theorem State.sameLedger_release (s : State) (r : Stroke) (n : Nat) : s.sameLedger (s.release r n) := by
  have hstore : s.sameLedger (s.modStore r.store (fun x => { x with reserved := x.reserved - n })) :=
    s.sameLedger_modStore (.of_fields rfl rfl id rfl)
  unfold State.release
  cases r.owner with
  | lane l => exact hstore.trans (.of_tables (by simp) (by simp) (by simp) (by simp) (by simp))
  | office => exact hstore.trans (State.sameLedger_modBox _ rfl)

theorem State.sameLedger_lowerStroke (s : State) (r : Stroke) : s.sameLedger (s.lowerStroke r) :=
  State.sameLedger.trans (t := s.modRecord r.slot _) (.of_tables rfl rfl rfl rfl rfl) (State.sameLedger_release _ r 1)

theorem State.sameLedger_absorbDeficit (s : State) (k : StoreId) : s.sameLedger (s.absorbDeficit k) := by
  unfold State.absorbDeficit
  split
  · split
    · exact s.sameLedger_lowerStroke _
    · exact .refl s
  · exact .refl s

theorem State.sameLedger_markUncertain (s : State) (k : StoreId) : s.sameLedger (s.markUncertain k) := by
  rw [State.markUncertain_cases]
  split
  · exact (s.sameLedger_modStore (f := fun x => { x with state := .uncertain })
      (.of_fields rfl rfl nofun rfl)).trans (State.sameLedger_endStrokes _ _)
  split
  · exact s.sameLedger_modStore (.of_fields rfl rfl id rfl)
  · exact .refl s

theorem State.sameLedger_levelReported (s : State) (k : StoreId) : s.sameLedger (s.levelReported k) := by
  unfold State.levelReported
  split
  · exact s.sameLedger_markUncertain k
  · exact .refl s

theorem State.sameLedger_stopRunningSkim (s : State) (k : Kind) : s.sameLedger (s.stopRunningSkim k) := by
  unfold State.stopRunningSkim
  split
  · exact .refl s
  split
  · exact (s.sameLedger_modStore (.of_fields rfl rfl id rfl)).trans (State.sameLedger_release _ _ _)
  · exact .refl s
  · exact .refl s

/-- CASHBOX_OUT (R22, R23). -/
theorem State.sameLedger_cashboxOut (s : State) (k : Kind) :
    s.sameLedger (((s.modBox k Cashbox.out).stopRunningSkim k).dropSkims (fun r => r.path == k)) :=
  ((s.sameLedger_modBox rfl).trans (State.sameLedger_stopRunningSkim _ k)).trans (State.sameLedger_endStrokes _ _)

/-! ### What a piece moves -/

section
variable {s : State} {off off' : Denom → Int} (h : s.Reconciles off)
include h

theorem State.Reconciles.of_eq (e : off = off') : s.Reconciles off' := e ▸ h

/-- What is counted and booked leaves the imbalance as it was. -/
theorem State.Reconciles.settled {a : Denom → Int} {d : Option Denom} {m n : Int}
    (e : off = a + inDenom d m - inDenom d n) (hmn : m = n) : s.Reconciles a := by
  subst e hmn
  exact add_sub_cancel_right a (inDenom d m) ▸ h

omit h in
/-- A fill is booked to a counter that brings pieces in (R62). -/
theorem FillCounter.sign_counter (c : FillCounter) : c.counter.sign = 1 := by cases c <;> rfl

/-- A fill that never arrives is taken in and unplaced (R66). -/
theorem State.Reconciles.bookUnplaced (f : Fill) : (s.bookUnplaced f).Reconciles off := by
  refine ((h.book f.counter.counter f.denom 1).book .unplaced f.denom 1).of_eq ?_
  rw [FillCounter.sign_counter, Counter.sign, neg_mul, inDenom_neg, sub_neg_eq_add, sub_add_cancel]

theorem State.Reconciles.resolveFills (k : StoreId) : (s.resolveFills k).Reconciles off := by
  have hfold : ∀ (fs : List Fill) (t : State), t.Reconciles off → (fs.foldl State.bookUnplaced t).Reconciles off := by
    intro fs
    induction fs with
    | nil => exact fun _ => id
    | cons f fs ih => exact fun t ht => ih _ (ht.bookUnplaced f)
  exact (hfold _ s h).same (State.sameLedger_modStore _ ⟨rfl, rfl, id, nofun⟩)

/-- A cassette that leaves takes its pieces with it, booked REMOVED (R9). -/
theorem State.Reconciles.pullCassette (k : StoreId) : (s.pullCassette k).Reconciles off := by
  have hbook := h.bookStore .removed k (s.store k).physical
  have hstores : (s.bookStore .removed k (s.store k).physical).stores = s.stores := by simp
  unfold State.pullCassette
  generalize s.bookStore .removed k (s.store k).physical = t at hbook hstores ⊢
  have hcount := t.sameLedger_endStrokes
    (endOnStore (s.store k).channel.slot? k true (s.store k).channel.holdsNothing)
  have hends := hbook.same hcount
  generalize t.endStrokes _ = u at hends hcount ⊢
  obtain ⟨v, hv, hvst, -, -⟩ := u.resolveFills_same k
  have hsame : (s.store k).sameCount ((u.resolveFills k).store k) := by
    refine (State.store_congr hstores k ▸ hcount.stores k).trans ?_
    rw [hv, State.store_modStore_self, State.store_congr hvst]
    exact ⟨rfl, rfl, id, nofun⟩
  refine ((hends.resolveFills k).recount (f := Store.pulled) rfl rfl fun _ => rfl).settled (d := (s.store k).denom)
    (m := (s.store k).physical) (n := (s.store k).physical) ?_ rfl
  rw [hsame.denom, hsame.physical]
  simp only [Counter.sign, Store.pulled, neg_mul, one_mul, inDenom_neg, Nat.cast_zero, zero_sub, sub_neg_eq_add]
  exact (sub_eq_add_neg _ _).symm

/-- An ABSENT store's new cassette counts nothing, as the store did (R10). -/
theorem State.Reconciles.newCassette {k : StoreId} (ha : (s.store k).state = .absent) :
    (s.modStore k Store.newCassette).Reconciles off :=
  h.same (s.sameLedger_modStore ⟨rfl, (h.absent k ha).symm, fun _ => ha, nofun⟩)

/-! ### Fills -/

/-- ENTRY_PULSE on a pending fill (R65). -/
theorem State.Reconciles.confirmFill {k : StoreId} {f : Fill} {rest : List Fill} (hf : (s.store k).fills = f :: rest) :
    (s.confirmFill k f rest).Reconciles off := by
  have hdenom : (s.store k).denom = some f.denom := h.fills k f (hf ▸ List.mem_cons_self)
  have hpop : (s.modStore k (fun x => { x with fills := rest })).Reconciles off :=
    h.same (s.sameLedger_modStore ⟨rfl, rfl, id, fun g hg => ⟨g, hf ▸ List.mem_cons_of_mem f hg, rfl⟩⟩)
  have hstore : (s.modStore k (fun x => { x with fills := rest })).store k = { s.store k with fills := rest } :=
    s.store_modStore_self k _
  unfold State.confirmFill
  dsimp only
  split
  · exact hpop
  rename_i hcounts
  split
  · have hpresent : (s.store k).state ≠ .absent := fun ha => hcounts (by rw [ha]; rfl)
    refine ((hpop.recount (f := fun x => { x with physical := x.physical + 1 }) rfl rfl fun ha => ?_).book
      f.counter.counter f.denom 1).settled (d := some f.denom) (m := 1) (n := 1) ?_ rfl
    · rw [hstore] at ha; exact absurd ha hpresent
    · rw [hstore, FillCounter.sign_counter]
      simp only [hdenom, Nat.cast_add, Nat.cast_one, add_sub_cancel_left, one_mul]
  · exact hpop.same (State.sameLedger_markUncertain _ k)

/-- ENTRY_PULSE with no fill pending (R67). -/
theorem State.Reconciles.strayEntry (k : StoreId) : (s.strayEntry k).Reconciles off := by
  unfold State.strayEntry
  split
  · exact h
  rename_i d hd
  split
  · exact h
  rename_i hcounts
  split
  · have hpresent : (s.store k).state ≠ .absent := fun ha => hcounts (by rw [ha]; rfl)
    refine State.Reconciles.same (State.Reconciles.settled ((h.recount (k := k)
      (f := fun x => { x with physical := x.physical + 1 }) rfl rfl fun ha => absurd ha hpresent).bookAdjusted d 1)
        (d := some d) (m := 1) (n := 1) ?_ rfl) (State.sameLedger_markUncertain _ k)
    simp only [hd, Nat.cast_add, Nat.cast_one, add_sub_cancel_left]
  · exact h.same (s.sameLedger_markUncertain k)

/-- ROUTE_WINDOW_EXPIRY (R66). -/
theorem State.Reconciles.expireFill {k : StoreId} {f : Fill} {rest : List Fill} (hf : (s.store k).fills = f :: rest) :
    (((s.modStore k (fun x => { x with fills := rest })).bookUnplaced f).markUncertain k).Reconciles off :=
  ((h.same (s.sameLedger_modStore
    ⟨rfl, rfl, id, fun g hg => ⟨g, hf ▸ List.mem_cons_of_mem f hg, rfl⟩⟩)).bookUnplaced f).same
      (State.sameLedger_markUncertain _ k)

end

end Sys2Proof.Machine
end

section
/-! SUPPORT. The books through the pieces that are paid, over-paid, found, routed, retracted and emptied (R16, R22,
R47, R59, R120–R123). -/

namespace Sys2Proof.Machine

section
variable {s : State} {off : Denom → Int} (h : s.Reconciles off)
include h

/-! ### Pieces that reach their destination -/

/-- A piece paid to a lane leaves the cabinet, booked PAID. -/
theorem State.Reconciles.payLane (l : Lane) (f : Sale → Sale) (d : Denom) :
    ((s.modSale l f).book .paid d 1).Reconciles (off + inDenom (some d) 1) := by
  refine ((h.same (t := s.modSale l f) (.of_tables rfl rfl rfl rfl rfl)).book .paid d 1).of_eq ?_
  rw [Counter.sign, Nat.cast_one, mul_one, inDenom_neg, sub_neg_eq_add]

/-- SKIMMED is no part of the identity (R149). -/
theorem State.Reconciles.bookSkimmed (d : Denom) (n : Nat) : (s.book .skimmed d n).Reconciles off := by
  refine (h.book .skimmed d n).of_eq ?_
  rw [Counter.sign, zero_mul, inDenom_zero, sub_zero]

/-- A counted piece of a stroke (R120). -/
theorem State.Reconciles.countedPiece {r : Stroke} {d : Denom} (hkind : (s.denom d).kind = r.path) :
    (s.countedPiece r d).Reconciles (off + inDenom (some d) 1) := by
  unfold State.countedPiece
  split
  · exact h.payLane _ _ d
  · exact (h.addToBox hkind 1 rfl).bookSkimmed d 1

/-- An over-pay skim piece is counted in its cashbox, or booked as lost where the cashbox is full (R123). -/
theorem State.Reconciles.boxOverPay {k : Kind} {d : Denom} (hkind : (s.denom d).kind = k) :
    (s.boxOverPay k d).Reconciles (off + inDenom (some d) 1) := by
  have hcounted := h.addToBox (f := fun b => b.setCount d (b.countOf d + 1)) hkind 1 rfl
  unfold State.boxOverPay
  dsimp only
  split
  · exact hcounted
  split
  · split
    · exact hcounted.same (State.sameLedger_lowerStroke _ _)
    · exact hcounted.same (State.sameLedger_modBox _ rfl)
  split
  · exact hcounted.same (State.sameLedger_modBox _ rfl)
  · refine (h.bookAdjusted d (-1)).of_eq ?_
    rw [inDenom_neg, sub_neg_eq_add]

/-- An over-pay piece at its destination (R40, R122, R123). -/
theorem State.Reconciles.overPaidPiece {r : Stroke} {d : Denom} (hkind : (s.denom d).kind = r.path) :
    (s.overPaidPiece r d).Reconciles (off + inDenom (some d) 1) := by
  unfold State.overPaidPiece
  split
  · exact h.payLane _ _ d
  · exact (h.boxOverPay hkind).bookSkimmed d 1

/-! ### Pieces that leave a store -/

/-- A piece that leaves a store which counts it. -/
theorem State.Reconciles.takeOut {k : StoreId} (hpos : 0 < (s.store k).physical) {f : Store → Store}
    (hdenom : (f (s.store k)).denom = (s.store k).denom) (hfills : (f (s.store k)).fills = (s.store k).fills)
    (hstate : (f (s.store k)).state = (s.store k).state)
    (hphysical : (f (s.store k)).physical = (s.store k).physical - 1) :
    (s.modStore k f).Reconciles (off + inDenom (s.store k).denom (-1)) := by
  have hpresent : (s.store k).state ≠ .absent := fun ha => hpos.ne' (h.absent k ha)
  have hcount := h.recount hdenom hfills fun ha => absurd (hstate.symm.trans ha) hpresent
  rwa [hphysical, Nat.cast_sub hpos, Nat.cast_one, sub_sub_cancel_left] at hcount

/-- A piece that left its store and reached its destination. -/
theorem State.Reconciles.arrived {d : Option Denom} {a : Denom → Int} (e : off = a + inDenom d (-1) + inDenom d 1) :
    s.Reconciles a := by
  refine h.of_eq (e.trans ?_)
  rw [inDenom_neg, neg_add_cancel_right]

/-- A piece of a driving stroke (R120). -/
theorem State.Reconciles.drivePiece {k : StoreId} {r : Stroke} {d : Denom} (hpos : 0 < (s.store k).physical)
    (hd : (s.store k).denom = some d) (hkind : (s.denom d).kind = r.path) : (s.drivePiece k r d).Reconciles off := by
  have hrecord : (s.modRecord r.slot (fun x => { x with delivered := x.delivered + 1 })).Reconciles off :=
    h.same (.of_tables rfl rfl rfl rfl rfl)
  have hmoved := ((hrecord.takeOut (k := k) hpos (f := fun x =>
    { x with physical := x.physical - 1, reserved := x.reserved - 1 }) rfl rfl rfl rfl).countedPiece
      hkind).arrived (congrArg (off + inDenom · (-1) + inDenom (some d) 1) hd)
  unfold State.drivePiece
  dsimp only
  split
  · exact hmoved
  · exact hmoved.same (State.sameLedger_modStore _ (.of_fields rfl rfl id rfl))

/-- An over-pay piece (R122). -/
theorem State.Reconciles.overPay {k : StoreId} {r : Stroke} {d : Denom} (hd : (s.store k).denom = some d)
    (hkind : (s.denom d).kind = r.path) : (s.overPay k r d).Reconciles off := by
  unfold State.overPay
  split
  · rename_i hpos
    refine State.Reconciles.same ?_ ((State.sameLedger_absorbDeficit _ k).trans (State.sameLedger_endStrokes _ _))
    exact ((h.takeOut hpos (f := fun x => { x with physical := x.physical - 1 }) rfl rfl rfl rfl).overPaidPiece
      hkind).arrived (congrArg (off + inDenom · (-1) + inDenom (some d) 1) hd)
  · refine State.Reconciles.same ?_ ((State.sameLedger_markUncertain _ k).trans (State.sameLedger_endStrokes _ _))
    have hfound : ((s.bookAdjusted d 1).denom d).kind = r.path := by
      rw [State.denom, (s.bookAdjusted_frame d 1).2.2.2.1]; exact hkind
    refine ((h.bookAdjusted d 1).overPaidPiece hfound).of_eq ?_
    exact sub_add_cancel off _

/-- An unbidden piece (R16). -/
theorem State.Reconciles.unbidden (k : StoreId) : (s.unbidden k).Reconciles off := by
  have hcounted : (if 0 < (s.store k).physical then
      (s.modStore k (fun x => { x with physical := x.physical - 1 })).bookAdjustedStore k (-1)
      else s).Reconciles off := by
    split
    · rename_i hpos
      refine ((h.takeOut hpos (f := fun x => { x with physical := x.physical - 1 }) rfl rfl rfl
        rfl).bookAdjustedStore k (-1)).settled (d := (s.store k).denom) (m := -1) (n := -1) ?_ rfl
      rw [State.store_modStore_self]
    · exact h
  unfold State.unbidden
  dsimp only
  split
  · exact hcounted.same (State.sameLedger_markUncertain _ k)
  · exact hcounted
  · exact hcounted
  all_goals exact h

/-! ### Pieces routed (R54–R62) -/

omit h in
theorem State.sameLedger_creditIfServing (s : State) (l : Lane) (v : Nat) : s.sameLedger (s.creditIfServing l v) :=
  .of_tables (by simp) (by simp) (by simp) (by simp) (by simp)

omit h in
theorem State.sameLedger_adviseSkim (s : State) (l : Lane) (d : Denom) : s.sameLedger (s.adviseSkim l d) := by
  unfold State.adviseSkim
  split
  · exact .of_tables rfl rfl rfl rfl rfl
  · exact .refl s

/-- A piece that joins a store's pending fills is of the store's denomination (R57, R60). -/
theorem State.Reconciles.addFill {j : StoreId} {f : Fill} (hdenom : (s.store j).denom = some f.denom) :
    (s.modStore j (fun x => { x with fills := x.fills ++ [f] })).Reconciles off := by
  refine (h.modStore (k := j) (f := fun x => { x with fills := x.fills ++ [f] }) (h.stores j) (h.absent j)
    fun g hg => ?_).of_eq (add_sub_cancel_right off _)
  rcases List.mem_append.mp hg with hg | hg
  · exact h.fills j g hg
  · rw [List.mem_singleton.mp hg]; exact hdenom

omit h in
/-- A store that a route names holds the denomination it names (R57). -/
theorem State.chosenStore_denom {m : Mode} {d : Denom} {j : StoreId} (hj : s.chosenStore m d = some j) :
    (s.store j).denom = some d := by
  obtain ⟨hmem, -⟩ := State.lowestOf_some (allStores_sorted.filter _) hj
  obtain ⟨hopen, -⟩ := (s.candidate_iff m d j).mp (List.mem_filter.mp hmem).2
  exact ((s.openStore_iff d j).mp hopen).1

omit h in
/-- What a route can decide of a piece: its class table names a denomination, and a store it is sent to holds that
denomination (R56–R60). -/
theorem State.route_cases (s : State) (l : Lane) (k : Kind) (code : ClassCode) :
    s.route l k code = .refuse ∨ s.route l k code = .noRoom ∨ ∃ d, (s.classes.get k)[code] = some d ∧
      (s.route l k code = .cashbox d ∨ ∃ j, s.route l k code = .store j d ∧ (s.store j).denom = some d) := by
  unfold State.route
  cases ht : s.translate k code with
  | none => exact .inl rfl
  | some d =>
    have hclass : (s.classes.get k)[code] = some d := by
      unfold State.translate at ht
      split at ht
      · exact absurd ht nofun
      · exact ht
    dsimp only
    split
    · exact .inl rfl
    split
    · exact .inl rfl
    cases hj : s.chosenStore (s.mode l) d with
    | some j => exact .inr (.inr ⟨d, hclass, .inr ⟨j, rfl, s.chosenStore_denom hj⟩⟩)
    | none =>
      dsimp only
      split
      · exact .inr (.inr ⟨d, hclass, .inl rfl⟩)
      · exact .inr (.inl rfl)

/-- ROUTE_DECISION's changes (R58–R62). -/
theorem State.Reconciles.applyRoute (l : Lane) (k : Kind) (code : ClassCode) :
    (s.applyRoute l k (s.route l k code)).Reconciles off := by
  rcases s.route_cases l k code with hr | hr | ⟨d, hclass, hr | ⟨j, hr, hdenom⟩⟩ <;> rw [hr]
  · exact h
  · exact h.same (.of_tables rfl rfl rfl rfl rfl)
  · have hbooked := ((h.addToBox (h.classes k code d hclass) 1 (f := fun b => b.setCount d (b.countOf d + 1))
      rfl).book (s.mode l).counter.counter d 1).settled (d := some d) (m := 1) (n := 1)
        (by rw [FillCounter.sign_counter]; rfl) rfl
    exact hbooked.same ((State.sameLedger_adviseSkim _ l d).trans (State.sameLedger_creditIfServing _ l _))
  · exact (h.addFill hdenom).same (State.sameLedger_creditIfServing _ l _)

/-! ### Cashboxes -/

/-- A bundle of notes goes into the note cashbox, booked RETRACTED (R47). -/
theorem State.Reconciles.retract (l : Lane) {ds : List Denom} (hnotes : ∀ d ∈ ds, (s.denom d).kind = .note) :
    (ds.foldl (State.retractOne l) s).Reconciles off := by
  induction ds generalizing s with
  | nil => exact h
  | cons d ds ih =>
    have hbox : (s.retractBox l d).Reconciles off := by
      refine ((h.addToBox (hnotes d List.mem_cons_self) ((s.sale l).paidPieces d) rfl).book .retracted d
        ((s.sale l).paidPieces d)).settled (d := some d) rfl ?_
      rw [Counter.sign, one_mul]
    have hone : (State.retractOne l s d).Reconciles off := by
      rw [s.retractOne_eq]
      exact hbox.same (.of_tables rfl rfl rfl rfl rfl)
    have hdenoms : (State.retractOne l s d).denoms = s.denoms := by rw [s.retractOne_frame]
    refine ih hone fun e he => ?_
    rw [State.denom, hdenoms]
    exact hnotes e (List.mem_cons_of_mem d he)

/-- The counts of a cashbox are booked EMPTIED, one denomination after another (R22). -/
theorem State.Reconciles.bookEmptied (k : Kind) {ds : List Denom} (nodup : ds.Nodup) :
    (ds.foldl (State.bookEmptied k) s).Reconciles (off + fun d => if d ∈ ds then (s.box k).pieces d else 0) := by
  induction ds generalizing s off with
  | nil => exact h.of_eq (add_zero off).symm
  | cons d ds ih =>
    obtain ⟨hd, nodup⟩ := List.nodup_cons.mp nodup
    have hbox : (State.bookEmptied k s d).box k = s.box k := State.box_congr (by simp [State.bookEmptied]) k
    refine (ih (h.book .emptied d ((s.box k).countOf d)) nodup).of_eq (funext fun e => ?_)
    change (off - inDenom (some d) _) e + (if e ∈ ds then ((State.bookEmptied k s d).box k).pieces e else 0) = _
    rw [hbox]
    by_cases he : e = d
    · subst he; simp [hd, inDenom, Counter.sign, Cashbox.pieces]
    · simp [he, Ne.symm he, inDenom]

/-- CASHBOX EMPTIED (R22). -/
theorem State.Reconciles.emptyBox (k : Kind) : ((allDenoms.foldl (State.bookEmptied k) s).modBox k (fun b =>
    { b with counts := Vector.replicate 12 0, stage := .none })).Reconciles off := by
  have hbooked := h.bookEmptied k allDenoms_nodup
  have hbox : (allDenoms.foldl (State.bookEmptied k) s).box k = s.box k :=
    State.box_congr (State.bookEmptied_onlyBooks k allDenoms s).boxes k
  have hempty : ∀ (b : Cashbox) (d : Denom),
      Cashbox.countOf { b with counts := Vector.replicate 12 0, stage := .none } d = 0 := fun b d => by
    simp [Cashbox.countOf]
  refine (hbooked.modBox (k := k) fun d hd => absurd (hempty _ d) hd).of_eq (funext fun d => ?_)
  rw [hbox]
  simp only [Pi.sub_apply, Pi.add_apply, mem_allDenoms, if_true, Cashbox.pieces, hempty, Nat.cast_zero, add_zero]
  exact add_sub_cancel_right _ _

end

end Sys2Proof.Machine
end

section
/-! SUPPORT. The books and their copy in Retained Memory, through every request (R146, R149, R154, R157, R184). -/

namespace Sys2Proof.Machine

/-! ### Retained Memory -/

/-- What the part counts balances, and so does what start-up would read back (R149, R184). -/
structure State.Balanced (s : State) : Prop where
  now : s.Reconciles 0
  memory : s.fromMemory.Reconciles 0

theorem State.holdingsFollow_iff (s : State) :
    s.holdingsFollow ↔ (s.phase = .running → s.Reconciles 0) ∧ s.fromMemory.Reconciles 0 := by
  rw [State.holdingsFollow, s.holdingsBalance_iff, s.fromMemory.holdingsBalance_iff]

/-- What start-up would read back is read from Retained Memory alone. -/
theorem State.sameLedger_fromMemory {s t : State} (h : t.retained = s.retained) :
    s.fromMemory.sameLedger t.fromMemory where
  kinds d := congrArg (fun r : Retained => r.denoms[d].kind) h
  classes := congrArg Retained.classes h
  stores k := by
    have hstore : t.fromMemory.store k = s.fromMemory.store k := by
      unfold State.fromMemory
      rw [restored_store, restored_store, h]
    rw [hstore]
    exact .refl _
  boxes
    | .coin, d => congrArg (fun r : Retained => r.boxes.coin.counts[d]) h
    | .note, d => congrArg (fun r : Retained => r.boxes.note.counts[d]) h
  totals := congrArg Retained.totals h

/-- The copy that the close of an event makes holds every figure of the books (R184, R185). -/
theorem State.sameLedger_closeEvent_fromMemory (s : State) : s.sameLedger s.closeEvent.fromMemory where
  kinds _ := rfl
  classes := rfl
  stores k := by
    have hcopy : s.closeEvent.fromMemory.store k = (s.store k).retained.restore :=
      (restored_store _ _ _ k).trans (congrArg RetainedStore.restore (mapTable_get Store.retained s.stores k))
    rw [hcopy]
    refine ⟨rfl, rfl, id, fun f hf => ?_⟩
    obtain ⟨x, hx, rfl⟩ := List.mem_map.mp hf
    obtain ⟨g, hg, rfl⟩ := List.mem_map.mp hx
    exact ⟨g, hg, rfl⟩
  boxes k d := by cases k <;> rfl
  totals := rfl

section
variable {s t : State}

theorem State.Reconciles.closeEvent (h : s.Reconciles 0) : s.closeEvent.Balanced :=
  ⟨h.same (.of_tables rfl rfl rfl rfl rfl), h.same s.sameLedger_closeEvent_fromMemory⟩

theorem State.Reconciles.finish (h : s.Reconciles 0) : s.finish.Balanced :=
  (h.same (t := s.settleWork) (.of_tables (by simp) (by simp) (by simp) (by simp) (by simp))).closeEvent

theorem State.Balanced.of_same (h : s.Balanced) (same : s.sameLedger t) (hret : t.retained = s.retained) :
    t.Balanced := ⟨h.now.same same, h.memory.same (State.sameLedger_fromMemory hret)⟩

end

/-! ### Requests on a sale and a lane -/

section
variable {s : State} (h : s.Reconciles 0)
include h

theorem State.Reconciles.beginSettle (l : Lane) : (s.beginSettle l).Reconciles 0 :=
  h.same (.of_tables (by simp) (by simp) (by simp) (by simp) (by simp))

theorem State.Reconciles.beginRefund (l : Lane) : (s.beginRefund l).Reconciles 0 :=
  h.same (.of_tables (by simp) (by simp) (by simp) (by simp) (by simp))

theorem State.Reconciles.closeSale (l : Lane) (o : SaleOutcome) : (s.closeSale l o).Reconciles 0 :=
  h.same (.of_tables (by simp) (by simp) (by simp) (by simp) (by simp))

theorem State.Reconciles.withdrawMakeup (l : Lane) : (s.withdrawMakeup l).Reconciles 0 := by
  unfold State.withdrawMakeup
  split
  · exact h.same (.of_tables rfl rfl rfl rfl rfl)
  · exact h

end

section
variable {s : State} (h : s.Balanced)
include h

theorem State.Balanced.openSale (l : Lane) (payload : List Byte) : (openSale l payload s).1.Balanced := by
  unfold Machine.openSale
  split
  · split
    · exact h
    split
    · exact h
    split
    · exact h
    split
    · exact h
    · refine State.Reconciles.closeEvent (h.now.same ?_)
      exact .of_tables rfl rfl rfl rfl rfl
  · exact h

theorem State.Balanced.settle (l : Lane) (payload : List Byte) : (settle l payload s).1.Balanced := by
  have hflag : (s.laneFlag l .settleRefused false).Reconciles 0 := h.now.same (.of_tables rfl rfl rfl rfl rfl)
  unfold Machine.settle
  split
  · split
    · exact h
    split
    · exact h
    dsimp only
    split
    · exact hflag.closeEvent
    · have hshort (f : Sale → Sale) : ((s.laneFlag l .settleRefused false).modSale l f).Reconciles 0 :=
        hflag.same (.of_tables rfl rfl rfl rfl rfl)
      exact ((hshort _).beginSettle l).finish
  · exact h

theorem State.Balanced.cancelSale (l : Lane) : (cancelSale l s).1.Balanced := by
  unfold Machine.cancelSale
  split
  · split
    · exact (h.now.closeSale l _).finish
    · exact (h.now.beginRefund l).finish
  · split
    · split
      · exact (h.now.beginRefund l).finish
      · exact State.Reconciles.closeEvent (h.now.same (.of_tables rfl rfl rfl rfl rfl))
    · exact h
  all_goals exact h

theorem State.Balanced.haltPayout (l : Lane) : (haltPayout l s).1.Balanced := by
  unfold Machine.haltPayout
  split
  · exact h
  split
  · exact h
  · have hhalt : (s.modSale l Sale.halt).Reconciles 0 := h.now.same (.of_tables rfl rfl rfl rfl rfl)
    exact ((hhalt.withdrawMakeup l).same (State.sameLedger_endStrokes _ _)).finish

theorem State.Balanced.collect (l : Lane) : (collect l s).1.Balanced := by
  unfold Machine.collect
  split
  · exact (h.now.closeSale l _).finish
  · exact h

/-- A bundle is of notes, which the note cashbox counts (R47). -/
theorem State.Balanced.retractNotes (l : Lane) : (retractNotes l s).1.Balanced := by
  rw [retractNotes_eq]
  split
  · have hnotes := h.now.retract l (ds := s.noteDenoms l) fun d hd => (State.mem_noteDenoms.mp hd).1
    exact State.Reconciles.closeEvent (hnotes.same (t := s.retracted l) (.of_tables rfl rfl rfl rfl rfl))
  · exact h

theorem State.Balanced.readCompletion (l : Lane) : (readCompletion l s).1.Balanced := by
  unfold Machine.readCompletion
  split
  · exact State.Reconciles.closeEvent (h.now.same (.of_tables rfl rfl rfl rfl rfl))
  · exact h

theorem State.Balanced.enterMode (l : Lane) (m : Mode) : (s.enterMode l m).Balanced := by
  unfold State.enterMode
  split
  · exact h
  · exact State.Reconciles.closeEvent (h.now.same (.of_tables rfl rfl rfl rfl rfl))

theorem State.Balanced.setLaneMode (p : Port) (payload : List Byte) : (setLaneMode p payload s).1.Balanced := by
  unfold Machine.setLaneMode
  split
  · unfold setModeFromLane
    split
    · exact h
    split
    · exact h
    split
    · exact h
    · exact h.enterMode _ _
  · unfold setModeFromOffice
    split
    · split
      · exact h
      · exact h.enterMode _ _
    · exact h
    · exact h
  · exact h

/-! ### The tables (R2, R5, R81, R146) -/

omit h in
/-- A denomination whose kind changes is nowhere: no store holds it, no cashbox counts it, no class names it. -/
theorem State.Reconciles.rekind {s t : State} (h : s.Reconciles 0) (hstores : t.stores = s.stores)
    (hboxes : t.boxes = s.boxes) (htotals : t.totals = s.totals)
    (hclasses : ∀ (k : Kind) (c : ClassCode) (d : Denom), (t.classes.get k)[c] = some d → (s.classes.get k)[c] = some d)
    (hkinds : ∀ d, (t.denom d).kind = (s.denom d).kind ∨ (∀ k, (s.store k).denom ≠ some d) ∧
      (∀ k, (s.box k).countOf d = 0) ∧ ∀ (k : Kind) (c : ClassCode), (t.classes.get k)[c] ≠ some d) :
    t.Reconciles 0 := by
  have hbox : t.box = s.box := funext (State.box_congr hboxes)
  have hstore : t.store = s.store := funext (State.store_congr hstores)
  refine ⟨fun hi => ?_, fun k d hd => ?_, fun k c d hc => ?_, fun k d hd => ?_, ?_, ?_⟩
  · rw [← h.imbalance (htotals ▸ hi)]
    funext d
    have hcount : (t.box (t.denom d).kind).pieces d = (s.box (s.denom d).kind).pieces d := by
      rw [hbox]
      rcases hkinds d with hkind | ⟨-, hnone, -⟩
      · rw [hkind]
      · rw [Cashbox.pieces, Cashbox.pieces, hnone, hnone]
    have hcounters : t.counters d = s.counters d := by unfold State.counters; rw [htotals]
    rw [State.imbalance_eq, State.imbalance_eq, State.holdings_eq, State.holdings_eq, hcount, hstore, hcounters,
      htotals]
  · rw [hstore] at hd
    rcases hkinds d with hkind | ⟨hnone, -, -⟩
    · rw [hkind]; exact h.stores k d hd
    · exact absurd hd (hnone k)
  · rcases hkinds d with hkind | ⟨-, -, hnone⟩
    · rw [hkind]; exact h.classes k c d (hclasses k c d hc)
    · exact absurd hc (hnone k c)
  · rw [hbox] at hd
    rcases hkinds d with hkind | ⟨-, hnone, -⟩
    · rw [hkind]; exact h.boxes k d hd
    · exact absurd (hnone k) hd
  · rw [hstore]; exact h.absent
  · rw [hstore]; exact h.fills

omit h in
theorem State.Reconciles.writeEntry {s : State} (h : s.Reconciles 0) {d : Denom} {value : Nat} {k : Kind} (e : Bool)
    (hpieces : k ≠ (s.denom d).kind → s.hasPieces d ≠ true) (hassigned : k ≠ (s.denom d).kind → s.isAssigned d ≠ true) :
    (s.writeEntry d value k e).Reconciles 0 := by
  obtain ⟨hown, hothers, hclasses, heq⟩ := s.writeEntry_spec d value k e
  refine h.rekind (by rw [heq]) (by rw [heq]) (by rw [heq]) (fun j c d' hc => ?_) fun d' => ?_
  · rw [hclasses] at hc
    split at hc
    · exact absurd hc nofun
    · exact hc
  by_cases hd : d' = d
  · subst hd
    rw [hown]
    by_cases hkind : k = (s.denom d').kind
    · exact .inl hkind
    · have hnone := hpieces hkind
      rw [ne_eq, s.hasPieces_iff, not_or] at hnone
      refine .inr ⟨fun j hj => hassigned hkind ((s.isAssigned_iff d').mpr ⟨j, hj⟩),
        fun j => not_not.mp fun hj => hnone.2 ⟨j, hj⟩, fun j c hc => ?_⟩
      rw [hclasses] at hc
      split at hc
      · exact absurd hc nofun
      · rename_i hstands; exact hstands ⟨.inr hkind, hc⟩
  · rw [hothers d' hd]
    exact .inl rfl

theorem State.Balanced.writeDenomination (payload : List Byte) : (writeDenomination payload s).1.Balanced := by
  unfold Machine.writeDenomination
  split
  · dsimp only
    split
    · exact h
    split
    · split
      · exact h
      split
      · exact h
      split
      · exact h
      rename_i hpieces
      split
      · exact h
      · rename_i hassigned
        exact (h.now.writeEntry _ (fun hk hp => hpieces ⟨.inr hk, hp⟩)
          fun hk ha => hassigned ⟨.inr hk, ha⟩).closeEvent
    · exact h
  · exact h

omit h in
/-- What a class entry names was there, or is what is written. -/
theorem State.classes_setClass (s : State) {k j : Kind} {c c' : ClassCode} {e : Option Denom} {d : Denom}
    (hc : ((s.setClass k c e).classes.get j)[c'] = some d) :
    (s.classes.get j)[c'] = some d ∨ j = k ∧ e = some d := by
  by_cases hjk : j = k
  · subst hjk
    have hset : ((s.setClass j c e).classes.get j) = (s.classes.get j).set c.val e c.isLt :=
      PerKind.get_set_self _ _ _
    rw [hset, Fin.getElem_fin, Vector.getElem_set] at hc
    split at hc
    · exact .inr ⟨rfl, hc⟩
    · exact .inl hc
  · have hother : ((s.setClass k c e).classes.get j) = s.classes.get j := PerKind.get_set_ne _ _ _ _ hjk
    exact .inl (hother ▸ hc)

omit h in
theorem State.Reconciles.setClass {s : State} (h : s.Reconciles 0) {k : Kind} {e : Option Denom}
    (hallowed : s.entryAllowed k e = true) (c : ClassCode) : (s.setClass k c e).Reconciles 0 := by
  refine ⟨h.imbalance, h.stores, fun j c' d hc => ?_, h.boxes, h.absent, h.fills⟩
  rcases s.classes_setClass hc with hold | ⟨rfl, hnew⟩
  · exact h.classes j c' d hold
  · exact ((s.entryAllowed_iff j e).mp hallowed d hnew).2

theorem State.Balanced.writeClassEntry (payload : List Byte) : (writeClassEntry payload s).1.Balanced := by
  unfold Machine.writeClassEntry
  split
  · split
    · exact h
    split
    · split
      · exact (h.now.setClass ‹_› _).closeEvent
      · exact h
    · exact h
  · exact h

omit h in
/-- A store that counts nothing and awaits nothing is given a denomination of its kind, or none (R146). -/
theorem State.Reconciles.assign {s : State} (h : s.Reconciles 0) {k : StoreId} {d : Option Denom} {f : Store → Store}
    (hallowed : s.assignable k d = true) (hempty : (s.store k).physical = 0) (hfills : (s.store k).fills = [])
    (hdenom : (f (s.store k)).denom = d) (hcount : (f (s.store k)).physical = (s.store k).physical)
    (hpending : (f (s.store k)).fills = (s.store k).fills) : (s.modStore k f).Reconciles 0 := by
  refine (h.modStore (fun e he => ((s.assignable_iff k d).mp hallowed e (hdenom.symm.trans he)).2)
    (fun _ => hcount.trans hempty) fun g hg => ?_).of_eq ?_
  · rw [hpending, hfills] at hg
    exact absurd hg List.not_mem_nil
  · simp only [Store.pieces, hcount, hempty, Nat.cast_zero, inDenom_zero, add_zero, sub_zero]

theorem State.Balanced.assignStore (payload : List Byte) : (assignStore payload s).1.Balanced := by
  unfold Machine.assignStore
  split
  · dsimp only
    split
    · exact h
    split
    · split
      · exact h
      rename_i hrange
      split
      · exact h
      rename_i hempty
      split
      · exact h
      rename_i hpending
      split
      · exact h
      · simp only [not_or, Bool.not_eq_true', Bool.not_eq_false] at hrange
        exact (h.now.assign hrange.2.2 (not_not.mp hempty) (List.length_eq_zero_iff.mp (not_not.mp hpending))
          rfl rfl rfl).closeEvent
    · exact h
  · exact h

theorem State.Balanced.writeLimits (payload : List Byte) : (writeLimits payload s).1.Balanced := by
  unfold Machine.writeLimits
  split
  · split
    · exact h
    · have hlimits (x : Limits) : ({ s with limits := x }).Reconciles 0 := h.now.same (.of_tables rfl rfl rfl rfl rfl)
      exact (((hlimits _).same (State.sameLedger_modBox _ rfl)).same (State.sameLedger_modBox _ rfl)).closeEvent
  · exact h

/-! ### Store service (R14, R15, R22, R144, R145) -/

theorem State.Balanced.putStore (k : StoreId) {x : StoreState} (hx : x ≠ .absent) : (s.putStore k x).Balanced :=
  (h.now.same (s.sameLedger_modStore (f := fun y => { y with state := x })
    (.of_fields rfl rfl (fun ha => absurd ha hx) rfl))).closeEvent

theorem State.Balanced.disableOne (k : StoreId) : (disableOne k s).1.Balanced := by
  unfold Machine.disableOne
  split
  · exact h
  · exact h
  · exact h
  all_goals
    split
    · exact h.putStore k nofun
    · exact h

theorem State.Balanced.enableOne (k : StoreId) : (enableOne k s).1.Balanced := by
  unfold Machine.enableOne
  split
  · exact h.putStore k nofun
  · exact h

theorem State.Balanced.clearJamOne (k : StoreId) : (clearJamOne k s).1.Balanced := by
  unfold Machine.clearJamOne
  split
  · exact h.putStore k nofun
  · exact h

/-- What a count is exchanged by is booked ADJUSTED (R144). -/
theorem State.Balanced.declare (k : StoreId) (n : Nat) : (s.declare k n).Balanced := by
  have hcount : (s.recounted k n).Reconciles _ := h.now.recount (k := k)
    (f := fun x => { x with physical := n, state := .ready }) rfl rfl nofun
  rw [State.declare_eq]
  refine State.Reconciles.closeEvent ((hcount.bookAdjustedStore k _).settled (d := (s.store k).denom)
    (m := (n : Int) - (s.store k).physical) ?_ rfl)
  rw [State.denom_recounted]

theorem State.Balanced.declareCount (payload : List Byte) : (declareCount payload s).1.Balanced := by
  unfold Machine.declareCount
  split
  · split
    · exact h
    split
    · exact h
    split
    · exact h
    split
    · exact h
    · exact h.declare _ _
  · exact h

theorem State.Balanced.cashboxEmptied (payload : List Byte) : (cashboxEmptied payload s).1.Balanced := by
  unfold Machine.cashboxEmptied
  split
  · split
    · exact h
    split
    · exact (h.now.emptyBox _).closeEvent
    · exact h
  · exact h

/-! ### Shifts (R153–R157) -/

omit h in
/-- A shift opens at the holdings as they stand (R154). -/
theorem State.Reconciles.closeTotals {s : State} (h : s.Reconciles 0) : s.closeTotals.Reconciles 0 :=
  ⟨fun _ => funext s.imbalance_closeTotals, h.stores, h.classes, h.boxes, h.absent, h.fills⟩

omit h in
/-- Unassigned stores hold nothing of any denomination; a cashbox stands (R157). -/
theorem State.holdings_clearTables (s : State) (d : Denom) :
    s.clearTables.holdings d = (s.box (s.denom d).kind).countOf d := by
  have hnone : ∀ k, (s.clearTables.store k).pieces d = 0 := fun k => by
    rw [s.store_clearTables]
    exact congrFun (inDenom_none _) d
  have hbox : (s.clearTables.box (s.clearTables.denom d).kind).pieces d = (s.box (s.denom d).kind).countOf d := by
    rw [s.denom_clearTables]
    rfl
  have hsum := s.clearTables.holdings_eq d
  simp only [hnone, hbox, List.map_const', List.sum_replicate, smul_zero, zero_add] at hsum
  exact Int.ofNat_inj.mp hsum

omit h in
/-- The tables of a part that holds nothing and awaits nothing are cleared (R157). -/
theorem State.Reconciles.clearTables {s : State} (h : s.Reconciles 0) (hempty : ∀ d, s.holdings d = 0)
    (hfills : ∀ k, (s.store k).fills = []) : s.clearTables.Reconciles 0 where
  imbalance hi := by
    rw [← h.imbalance hi]
    funext d
    have hbox : (s.box (s.denom d).kind).countOf d = 0 := Nat.eq_zero_of_le_zero (hempty d ▸ Nat.le_add_left _ _)
    have hcounters : s.clearTables.counters d = s.counters d := rfl
    have htotals : s.clearTables.totals = s.totals := rfl
    rw [State.imbalance_eq, State.imbalance_eq, s.holdings_clearTables, hbox, hempty, hcounters, htotals]
  stores k d hd := by
    rw [s.store_clearTables] at hd
    exact absurd hd nofun
  classes k c d hc := absurd ((s.classes_clearTables k c).symm.trans hc) nofun
  boxes k d hd := by
    rw [s.denom_clearTables]
    exact h.boxes k d hd
  absent k ha := by
    have hstate : (s.store k).state = .absent := by
      rw [s.store_clearTables] at ha
      by_contra hne
      exact absurd ((if_neg hne).symm.trans ha) nofun
    rw [s.store_clearTables]
    exact h.absent k hstate
  fills k f hf := by
    rw [s.store_clearTables] at hf
    exact absurd (hfills k ▸ hf : f ∈ []) List.not_mem_nil

theorem State.Balanced.closeShift : (closeShift s).1.Balanced := by
  unfold Machine.closeShift
  split
  · exact h
  · exact h.now.closeTotals.closeEvent

theorem State.Balanced.clearCurrency : (clearCurrency s).1.Balanced := by
  unfold Machine.clearCurrency
  split
  · exact h
  rename_i hallowed
  rw [Bool.not_eq_true', Bool.not_eq_false] at hallowed
  obtain ⟨-, -, hfills, -⟩ := s.clearAllowed_iff.mp hallowed
  split
  · exact h
  · rename_i hholds
    rw [s.anyHoldings_iff] at hholds
    exact (h.now.closeTotals.clearTables (fun d => not_not.mp fun hd => hholds ⟨d, hd⟩) hfills).closeEvent

/-! ### Skims and profiles (R136–R143) -/

theorem State.Balanced.beginSkim (q : SkimRequest) : (s.beginSkim q).Balanced := by
  rw [State.beginSkim_eq]
  exact State.Reconciles.finish (h.now.same (.of_tables rfl rfl rfl rfl rfl))

theorem State.Balanced.stopSkim : (stopSkim s).1.Balanced := by
  unfold Machine.stopSkim
  split
  · rw [State.withoutSkim_eq]
    have hstopped : s.withoutSkim.Reconciles 0 := h.now.same (.of_tables rfl rfl rfl rfl rfl)
    exact (hstopped.same (State.sameLedger_endStrokes _ _)).finish
  · exact h

theorem State.Balanced.writeProfileEntry (payload : List Byte) : (writeProfileEntry payload s).1.Balanced := by
  unfold Machine.writeProfileEntry
  split
  · split
    · exact h
    · exact h.of_same (.of_tables rfl rfl rfl rfl rfl) rfl
  · exact h

theorem State.Balanced.commitProfile : (commitProfile s).1.Balanced := by
  unfold Machine.commitProfile
  split
  · exact h
  · refine State.Reconciles.closeEvent (h.now.same ?_)
    exact .of_tables (by simp) (by simp) (by simp) (by simp) (by simp)

/-! ### Notices (R164, R165) -/

theorem State.Balanced.turnNotice (v : Bool) (p : Port) (payload : List Byte) :
    (turnNotice v p payload s).1.Balanced := by
  unfold Machine.turnNotice
  split
  · split
    · exact h.of_same (.of_tables rfl rfl rfl rfl rfl) rfl
    · exact h
  · split
    · exact h.of_same (.of_tables rfl rfl rfl rfl rfl) rfl
    · exact h
  · exact h

theorem State.Balanced.dismissNotice (p : Port) (payload : List Byte) : (dismissNotice p payload s).1.Balanced := by
  unfold Machine.dismissNotice
  split
  · split
    · split
      · exact h.of_same (.of_tables rfl rfl rfl rfl rfl) rfl
      · exact h
    · exact h
  · split
    · split
      · exact h.of_same (.of_tables rfl rfl rfl rfl rfl) rfl
      · exact h
    · exact h
  · exact h

/-! ### Every request -/

theorem State.Balanced.performRequest (r : Request) (p : Port) (payload : List Byte) :
    (performRequest r p payload s).1.Balanced := by
  have stands {t : State} (ht : t = s) : t.Balanced := ht ▸ h
  have skims (q : SkimRequest) : (if s.skimLive then (s, refuse .state) else (s.beginSkim q, accepted)).1.Balanced := by
    split
    · exact h
    · exact h.beginSkim q
  cases r with
  | openSale => exact onLane_keeps h (fun l => h.openSale l payload) p
  | readTender => exact onLane_keeps h (fun _ => h) p
  | settle => exact onLane_keeps h (fun l => h.settle l payload) p
  | cancelSale => exact onLane_keeps h h.cancelSale p
  | haltPayout => exact onLane_keeps h h.haltPayout p
  | collect => exact onLane_keeps h h.collect p
  | retractNotes => exact onLane_keeps h h.retractNotes p
  | readCompletion => exact onLane_keeps h h.readCompletion p
  | readStock => exact onLane_keeps h (fun _ => h) p
  | readPlan => exact stands (readPlan_state s p payload)
  | setLaneMode => exact h.setLaneMode p payload
  | readNotices => exact stands (by cases p <;> rfl)
  | enableNotice => exact h.turnNotice true p payload
  | disableNotice => exact h.turnNotice false p payload
  | dismissNotice => exact h.dismissNotice p payload
  | readStore => exact stands (readStore_state s payload)
  | readTotals => exact stands (readTotals_state s payload)
  | readProfile => exact stands (readProfile_state s payload)
  | writeDenomination => exact h.writeDenomination payload
  | writeClassEntry => exact h.writeClassEntry payload
  | assignStore => exact h.assignStore payload
  | writeLimits => exact h.writeLimits payload
  | writeProfileEntry => exact h.writeProfileEntry payload
  | commitProfile => exact h.commitProfile
  | skimToTarget => exact skims .toTarget
  | emptyStore => exact onStore_keeps h (fun k => skims (.emptyStore k)) payload
  | stopSkim => exact h.stopSkim
  | declareCount => exact h.declareCount payload
  | clearJam => exact onStore_keeps h h.clearJamOne payload
  | enableStore => exact onStore_keeps h h.enableOne payload
  | disableStore => exact onStore_keeps h h.disableOne payload
  | cashboxEmptied => exact h.cashboxEmptied payload
  | closeShift => exact h.closeShift
  | clearCurrency => exact h.clearCurrency
  | restart => exact stands (restart_state s)

end

end Sys2Proof.Machine
end

section
/-! SUPPORT. The books through an attempt that completes and through start-up (R91–R93, R184, R187–R189). -/

namespace Sys2Proof.Machine

/-! ### What an attempt hands back -/

section
variable (s : State)

theorem State.sameLedger_nextMakeup (l : Lane) : s.sameLedger (s.nextMakeup l) := by
  unfold State.nextMakeup
  split
  · exact .of_tables rfl rfl rfl rfl rfl
  · exact .refl s

theorem State.sameLedger_modSale (l : Lane) (f : Sale → Sale) : s.sameLedger (s.modSale l f) :=
  .of_tables rfl rfl rfl rfl rfl

theorem State.sameLedger_freePlanner : s.sameLedger s.freePlanner := .of_tables rfl rfl rfl rfl rfl

theorem State.sameLedger_handBack (job : Job) (plan : Plan) : s.sameLedger (s.handBack job plan) := by
  unfold State.handBack
  split
  · exact s.sameLedger_modSale _ _
  · exact s.sameLedger_modSale _ _
  · exact (s.sameLedger_modSale _ _).trans (State.sameLedger_nextMakeup _ _)
  · exact .refl s

theorem State.sameLedger_handStockChanged (job : Job) (target : Nat) :
    s.sameLedger (s.handStockChanged job target) := by
  unfold State.handStockChanged
  split
  · exact .of_tables rfl rfl rfl rfl rfl
  · exact s.sameLedger_modSale _ _
  · exact (s.sameLedger_modSale _ _).trans (State.sameLedger_nextMakeup _ _)
  · exact .refl s

theorem State.sameLedger_completeWithdrawn (w : Work) : s.sameLedger (s.completeWithdrawn w) := by
  unfold State.completeWithdrawn
  split
  · exact .of_tables (by simp) (by simp) (by simp) (by simp) (by simp)
  · exact .refl s
  · exact s.sameLedger_modSale _ _
  · exact .refl s

theorem State.sameLedger_completeRefused (w : Work) : s.sameLedger (s.completeRefused w) := by
  unfold State.completeRefused
  split
  · exact .of_tables rfl rfl rfl rfl rfl
  · exact .refl s

theorem State.sameLedger_recompute (w : Work) : s.sameLedger (s.recompute w) := by
  unfold State.recompute
  split
  · exact .of_tables rfl rfl rfl rfl rfl
  · exact s.sameLedger_freePlanner.trans (State.sameLedger_handStockChanged _ _ _)

theorem State.sameLedger_layDown (job : Job) (plan : Plan) : s.sameLedger (s.layDown job plan) := by
  have hstores : (s.layDown job plan).stores = s.stores := by cases job <;> rfl
  refine ⟨fun d => by cases job <;> rfl, by cases job <;> rfl, fun k => ?_, fun k d => ?_, by cases job <;> rfl⟩
  · rw [State.store_congr hstores]; exact .refl _
  · rw [State.box_layDown]; rfl

end

theorem State.sameLedger_reserveAll {s t : State} {xs : List Planned} (h : s.reserveAll xs = some t) :
    s.sameLedger t := by
  obtain ⟨heq, hst, -⟩ := State.reserveAll_some h
  refine ⟨fun d => by rw [heq]; rfl, by rw [heq], fun k => ?_, fun k d => by rw [heq]; rfl, by rw [heq]⟩
  rw [hst]
  exact .of_fields rfl rfl id rfl

/-- ATTEMPT_COMPLETION reserves and promises, and moves no piece (R91). -/
theorem State.sameLedger_completeAttempt {s t : State} {w : Work} (ht : s.completeAttempt w = some t) :
    s.sameLedger t := by
  unfold State.completeAttempt at ht
  dsimp only at ht
  split at ht
  · cases ht; exact s.sameLedger_freePlanner.trans (State.sameLedger_completeWithdrawn _ w)
  split at ht
  · cases ht; exact s.sameLedger_freePlanner.trans (State.sameLedger_completeRefused _ w)
  split at ht
  · cases ht; exact s.sameLedger_freePlanner.trans (State.sameLedger_handBack _ _ _)
  split at ht
  · cases ht; exact s.sameLedger_recompute w
  · rename_i u hu
    split at hu
    · split at ht
      · cases ht
        have hlaid := (State.sameLedger_reserveAll hu).trans (u.sameLedger_layDown w.job (w.plan s.limits))
        exact (hlaid.trans (State.sameLedger_freePlanner _)).trans (State.sameLedger_handBack _ _ _)
      · exact absurd ht nofun
    · exact absurd hu nofun

/-! ### Start-up -/

section
variable {s : State} (h : s.Reconciles 0)
include h

theorem State.Reconciles.recoverMarker (k : StoreId) : (s.recoverMarker k).Reconciles 0 := by
  unfold State.recoverMarker
  split
  · exact h.same (s.sameLedger_modStore (.of_fields rfl rfl nofun rfl))
  · exact h

theorem State.Reconciles.recoverFills (k : StoreId) : (s.recoverFills k).Reconciles 0 := by
  unfold State.recoverFills
  split
  · exact h
  · refine (h.resolveFills k).same (State.sameLedger_modStore _ (.of_fields rfl rfl (fun ha => ?_) rfl))
    dsimp only at ha
    split at ha
    · exact absurd ha nofun
    · exact ha

theorem State.Reconciles.recoverPresence (k : StoreId) : (s.recoverPresence k).Reconciles 0 := by
  unfold State.recoverPresence
  split
  · split
    · exact h.newCassette ‹_›
    · exact h
  · split
    · exact h
    · exact h.pullCassette k

theorem State.Reconciles.recoverBox (k : Kind) : (s.recoverBox k).Reconciles 0 := by
  refine h.same (s.sameLedger_modBox ?_)
  split <;> rfl

theorem State.Reconciles.recoverLevel (k : StoreId) : (s.recoverLevel k).Reconciles 0 := by
  unfold State.recoverLevel
  split
  · exact h.same (s.sameLedger_levelReported k)
  · exact h

omit h in
/-- A recovery step that keeps the books at each store keeps them over all stores (R187). -/
theorem State.Reconciles.recoverAll {step : State → StoreId → State}
    (hstep : ∀ t k, State.Reconciles t 0 → (step t k).Reconciles 0) (h : s.Reconciles 0) (ks : List StoreId) :
    (ks.foldl step s).Reconciles 0 := by
  induction ks generalizing s with
  | nil => exact h
  | cons k ks ih => exact ih (hstep s k h)

theorem State.Reconciles.recover : s.recover.Reconciles 0 := by
  have hmarkers := recoverAll (fun _ k h => h.recoverMarker k) h allStores
  have hfills := recoverAll (fun _ k h => h.recoverFills k) hmarkers allStores
  have hpresence := recoverAll (fun _ k h => h.recoverPresence k) hfills allStores
  exact recoverAll (fun _ k h => h.recoverLevel k) ((hpresence.recoverBox .coin).recoverBox .note) allStores

end

/-- The notices and the INTERRUPTED records that start-up leaves are no part of the books (R158, R188). -/
theorem State.sameLedger_recoverRest (s : State) :
    s.sameLedger ((s.recoverNotices.recoverLane .one).recoverLane .two) := by
  rw [State.recoverLanes_eq]
  exact .of_tables rfl rfl rfl rfl rfl

/-- START_UP recovers the books that Retained Memory holds (R184–R189). -/
theorem State.Reconciles.startedUp {s : State} (h : s.fromMemory.Reconciles 0) :
    (startedUp s.retained s.pins s.pending).Balanced := by
  have hrecovered := h.recover.same (State.sameLedger_recoverRest _)
  exact hrecovered.closeEvent

end Sys2Proof.Machine
end

section
/-! PROOF. The holdings and the books at every event (O12). -/

namespace Sys2Proof.Machine

theorem State.Balanced.holdingsFollow {s : State} (h : s.Balanced) : s.holdingsFollow :=
  s.holdingsFollow_iff.mpr ⟨fun _ => h.now, h.memory⟩

/-- What a step is given: the books, with the strokes and the stock in step. -/
structure State.Reckoned (s : State) : Prop where
  sound : s.phase = .running → s.Sound
  follow : s.holdingsFollow

/-- The holdings are read off the phase, the tables and Retained Memory. -/
theorem State.holdingsFollow.of_same {s t : State} (h : s.holdingsFollow)
    (hphase : t.phase = .running → s.phase = .running)
    (same : s.sameLedger t) (hret : t.retained = s.retained) : t.holdingsFollow := by
  obtain ⟨now, memory⟩ := s.holdingsFollow_iff.mp h
  exact t.holdingsFollow_iff.mpr
    ⟨fun hp => (now (hphase hp)).same same, memory.same (State.sameLedger_fromMemory hret)⟩

theorem balanced_requestsKeep : RequestsKeep State.Balanced State.holdingsFollow where
  portBefore _ _ _ h := h.of_same (.of_tables rfl rfl rfl rfl rfl) rfl
  portAfter _ _ _ h := h.of_same id (.of_tables rfl rfl rfl rfl rfl) rfl
  still _ h := h.holdingsFollow
  restarts _ h := h.holdingsFollow.of_same nofun (.of_tables rfl rfl rfl rfl rfl) rfl
  performs _ r p payload h := (h.performRequest r p payload).holdingsFollow

/-! ### The events -/

theorem State.sameLedger_shutPresenter (s : State) (l : Lane) (k : Kind) (occupied : Bool) :
    s.sameLedger (s.shutPresenter l k occupied) := by
  unfold State.shutPresenter
  split
  · exact .of_tables rfl rfl rfl rfl rfl
  · exact .refl s

theorem State.sameLedger_closeIfClear (s : State) (l : Lane) : s.sameLedger (s.closeIfClear l) :=
  .of_tables (by simp) (by simp) (by simp) (by simp) (by simp)

variable {s t : State}

/-- A driving stroke still holds a piece of its store (R17, R97). -/
theorem State.Sound.physical_pos_of_driving {k : StoreId} {slot : SlotId} {ms : Nat} {r : Stroke} (sound : s.Sound)
    (hmem : r ∈ s.pool.records) (hstore : r.store = k) (hrun : r.state = .running)
    (hc : (s.store k).channel = .driving slot ms) : 0 < (s.store k).physical := by
  subst hstore
  have hholds : (s.store r.store).channel.holdsNothing = false := by rw [hc]; rfl
  obtain ⟨-, -, -, hfigures⟩ := sound.stocked.records r hmem
  have hleft : r.delivered < r.count := (hfigures hrun).2 hholds
  calc 0 < r.count - r.delivered := Nat.sub_pos_of_lt hleft
    _ = s.heldBy r := (State.heldBy_driving hholds).symm
    _ ≤ s.sumStrokes (fun q => q.store == r.store) s.heldBy := le_sumOver _ hmem (beq_self_eq_true _)
    _ = (s.store r.store).reserved := (sound.stocked.figures.reserved _).symm
    _ ≤ (s.store r.store).physical := sound.stocked.stores _

/-- A stroke pays into the path of its store's denomination (R5, R97). -/
theorem State.Reconciles.kind_eq_path {off : Denom → Int} {r : Stroke} {d : Denom} (h : s.Reconciles off)
    (sound : s.Sound) (hmem : r ∈ s.pool.records) (hd : (s.store r.store).denom = some d) :
    (s.denom d).kind = r.path := by
  obtain ⟨hpath, -⟩ := sound.stocked.records r hmem
  exact (h.stores r.store d hd).trans hpath.symm

/-- An event of the running part that keeps the books. -/
theorem State.Reckoned.event {e : State → State} (h : s.Reckoned) (keeps : s.Sound → s.Balanced → (e s).Balanced)
    (ht : s.whileRunning e = .next t) : t.holdingsFollow := by
  obtain ⟨now, memory⟩ := s.holdingsFollow_iff.mp h.follow
  exact State.whileRunning_keeps (fun hp => (keeps (h.sound hp) ⟨now hp, memory⟩).holdingsFollow) (fun _ => h.follow) ht

section
variable (h : s.Reckoned)
include h

/-- A sensor's report alone. -/
theorem State.Reckoned.withPins (pins : Pins) : ({ s with pins := pins }).Reckoned where
  sound hp := (h.sound hp).of_same rfl rfl rfl rfl rfl rfl
  follow := h.follow.of_same id (.of_tables rfl rfl rfl rfl rfl) rfl

theorem State.Reckoned.rehomeComplete {path : Kind} (ht : execRehomeComplete path s = .next t) :
    t.holdingsFollow := by
  unfold execRehomeComplete at ht
  refine h.event (fun _ hb => ?_) ht
  split
  · exact State.Reconciles.finish (hb.now.same (.of_tables rfl rfl rfl rfl rfl))
  · exact hb

theorem State.Reckoned.managerKeyChange {l : Lane} {turned : Bool}
    (ht : execManagerKeyChange l turned s = .next t) : t.holdingsFollow := by
  unfold execManagerKeyChange at ht
  obtain rfl := Host.Outcome.next.inj ht
  exact (h.withPins _).follow

theorem State.Reckoned.headStrobe {l : Lane} {k : Kind} {code : ClassCode}
    (ht : execHeadStrobe l k code s = .next t) : t.holdingsFollow := by
  unfold execHeadStrobe at ht
  refine h.event (fun _ hb => ?_) ht
  split
  · exact hb.of_same (.of_tables rfl rfl rfl rfl rfl) rfl
  · exact hb

/-- ROUTE_DECISION (R54–R62). -/
theorem State.Reckoned.routeDecision {l : Lane} {k : Kind} (ht : execRouteDecision l k s = .next t) :
    t.holdingsFollow := by
  unfold execRouteDecision at ht
  refine h.event (fun _ hb => ?_) ht
  split
  · exact hb
  · rename_i code _
    have hset (x : Head) : ((s.applyRoute l k (s.route l k code)).setHead l k x).Reconciles 0 :=
      (hb.now.applyRoute l k code).same (.of_tables rfl rfl rfl rfl rfl)
    generalize s.route l k code = way at hset ⊢
    cases way with
    | refuse => exact (hset _).closeEvent
    | noRoom => exact (hset _).closeEvent
    | store => exact (hset _).finish
    | cashbox => exact (hset _).finish

theorem State.Reckoned.entryPulse {k : StoreId} (ht : execEntryPulse k s = .next t) : t.holdingsFollow := by
  unfold execEntryPulse at ht
  refine h.event (fun _ hb => ?_) ht
  split
  · exact (hb.now.confirmFill ‹_›).finish
  · exact (hb.now.strayEntry k).finish

theorem State.Reckoned.routeWindowExpiry {k : StoreId} (ht : execRouteWindowExpiry k s = .next t) :
    t.holdingsFollow := by
  unfold execRouteWindowExpiry at ht
  refine h.event (fun _ hb => ?_) ht
  split
  · exact (hb.now.expireFill ‹_›).finish
  · exact hb

theorem State.Reckoned.cassetteOut {k : StoreId} (ht : execCassetteOut k s = .next t) : t.holdingsFollow := by
  unfold execCassetteOut at ht
  have hpin : (s.setCassettePin k false).Reckoned := h.withPins _
  refine hpin.event (fun _ hb => ?_) ht
  split
  · exact hb
  · exact (hb.now.pullCassette k).finish

theorem State.Reckoned.cassetteIn {k : StoreId} (ht : execCassetteIn k s = .next t) : t.holdingsFollow := by
  unfold execCassetteIn at ht
  have hpin : (s.setCassettePin k true).Reckoned := h.withPins _
  refine hpin.event (fun _ hb => ?_) ht
  split
  · exact (hb.now.newCassette ‹_›).closeEvent
  · exact hb

theorem State.Reckoned.emptyLevelReport {k : StoreId} (ht : execEmptyLevelReport k s = .next t) :
    t.holdingsFollow := by
  unfold execEmptyLevelReport at ht
  split at ht
  · obtain rfl := Host.Outcome.next.inj ht
    exact h.follow
  · have hpin : (s.setLevelPin k true).Reckoned := h.withPins _
    exact hpin.event (fun _ hb => (hb.now.same (State.sameLedger_levelReported _ k)).finish) ht

theorem State.Reckoned.emptyLevelNotEmpty {k : StoreId} (ht : execEmptyLevelNotEmpty k s = .next t) :
    t.holdingsFollow := by
  unfold execEmptyLevelNotEmpty at ht
  obtain rfl := Host.Outcome.next.inj ht
  exact (h.withPins _).follow

/-- PIECE_PULSE (R16, R120, R122). -/
theorem State.Reckoned.piecePulse {k : StoreId} (ht : execPiecePulse k s = .next t) : t.holdingsFollow := by
  unfold execPiecePulse at ht
  refine h.event (fun sound hb => ?_) ht
  split
  · exact (hb.now.unbidden k).finish
  · rename_i slot ms hc
    split
    · rename_i r d hr
      obtain ⟨hmem, -, hstore, hrun⟩ := sound.channelStroke (by rw [hc]; rfl) hr
      have hd := State.channelStroke_denom hr
      exact (hb.now.drivePiece (sound.physical_pos_of_driving hmem hstore hrun hc) hd
        (hb.now.kind_eq_path sound hmem (hstore ▸ hd))).closeEvent
    · exact hb
  · rename_i slot ms hc
    split
    · rename_i r d hr
      obtain ⟨hmem, -, hstore, -⟩ := sound.channelStroke (by rw [hc]; rfl) hr
      have hd := State.channelStroke_denom hr
      exact (hb.now.overPay hd (hb.now.kind_eq_path sound hmem (hstore ▸ hd))).finish
    · exact hb

theorem State.Reckoned.afterRunWindowClose {k : StoreId} (ht : execAfterRunWindowClose k s = .next t) :
    t.holdingsFollow := by
  unfold execAfterRunWindowClose at ht
  refine h.event (fun _ hb => ?_) ht
  split
  · exact hb
  · exact hb
  · have hended (x : Store) : x.sameCount x.ended := by
      refine .of_fields rfl rfl (fun ha => ?_) rfl
      unfold Store.ended at ha
      dsimp only at ha
      split at ha <;> exact absurd ha nofun
    exact ((hb.now.same (State.sameLedger_endStrokes _ _)).same (State.sameLedger_modStore _ (hended _))).finish

theorem State.Reckoned.strokeDeadlineExpiry {k : StoreId} (ht : execStrokeDeadlineExpiry k s = .next t) :
    t.holdingsFollow := by
  unfold execStrokeDeadlineExpiry at ht
  refine h.event (fun _ hb => ?_) ht
  split
  · exact hb
  · exact hb
  · have hjam (x : Store) : x.sameCount x.jam :=
      .of_fields rfl rfl (fun (ha : StoreState.jammed = .absent) => absurd ha nofun) rfl
    exact ((hb.now.same (State.sameLedger_endStrokes _ _)).same (State.sameLedger_modStore _ (hjam _))).finish

theorem State.Reckoned.cashboxOut {k : Kind} (ht : execCashboxOut k s = .next t) : t.holdingsFollow := by
  unfold execCashboxOut at ht
  have hpin : (s.setBoxPin k false).Reckoned := h.withPins _
  exact hpin.event (fun _ hb => (hb.now.same (State.sameLedger_cashboxOut _ k)).finish) ht

theorem State.Reckoned.cashboxIn {k : Kind} (ht : execCashboxIn k s = .next t) : t.holdingsFollow := by
  unfold execCashboxIn at ht
  have hpin : (s.setBoxPin k true).Reckoned := h.withPins _
  exact hpin.event (fun _ hb => (hb.now.same (State.sameLedger_modBox _ rfl)).closeEvent) ht

theorem State.Reckoned.strokeStart {path : Kind} (ht : execStrokeStart path s = .next t) : t.holdingsFollow := by
  unfold execStrokeStart at ht
  refine h.event (fun _ hb => ?_) ht
  split
  · exact hb
  · rename_i x _
    split
    · have hrecord : s.sameLedger (s.modRecord x.slot (fun r => { r with state := .running })) :=
        .of_tables rfl rfl rfl rfl rfl
      have hstart := hrecord.trans (State.sameLedger_modStore _ (k := x.store)
        (f := fun y => y.start x.slot (Config.deadlineMs path (s.slotCount x.slot))) (.of_fields rfl rfl nofun rfl))
      exact State.Reconciles.closeEvent ((hb.now.same hstart).same (.of_tables rfl rfl rfl rfl rfl))
    · exact hb

theorem State.Reckoned.diverterMoveComplete {path : Kind} (ht : execDiverterMoveComplete path s = .next t) :
    t.holdingsFollow := by
  unfold execDiverterMoveComplete at ht
  refine h.event (fun _ hb => ?_) ht
  split
  · exact hb
  · exact hb.of_same (.of_tables (by simp) (by simp) (by simp) (by simp) (by simp)) (by simp)

theorem State.Reckoned.chuteSensorChange {l : Lane} {k : Kind} {occupied : Bool}
    (ht : execChuteSensorChange l k occupied s = .next t) : t.holdingsFollow := by
  unfold execChuteSensorChange at ht
  have hpin : (s.setChutePin l k occupied).Reckoned := h.withPins _
  refine hpin.event (fun _ hb => ?_) ht
  exact ((hb.now.same (State.sameLedger_shutPresenter _ l k occupied)).same (State.sameLedger_closeIfClear _ l)).finish

theorem State.Reckoned.presentTimerExpiry {l : Lane} (ht : execPresentTimerExpiry l s = .next t) :
    t.holdingsFollow := by
  unfold execPresentTimerExpiry at ht
  exact h.event (fun _ hb => (hb.now.same (s.sameLedger_modSale l _)).closeEvent) ht

theorem State.Reckoned.attemptCompletion (ht : execAttemptCompletion s = .next t) : t.holdingsFollow := by
  obtain ⟨now, -⟩ := s.holdingsFollow_iff.mp h.follow
  unfold execAttemptCompletion at ht
  split at ht
  · rename_i w hp hw
    split at ht
    · rename_i u hu
      obtain rfl := Host.Outcome.next.inj ht
      exact ((now hp).same (State.sameLedger_completeAttempt hu)).finish.holdingsFollow
    · exact absurd ht nofun
  all_goals
    obtain rfl := Host.Outcome.next.inj ht
    exact h.follow

theorem State.Reckoned.startUp (ht : execStartUp s = .next t) : t.holdingsFollow := by
  obtain ⟨-, memory⟩ := s.holdingsFollow_iff.mp h.follow
  obtain rfl := Host.Outcome.next.inj ht
  exact memory.startedUp.holdingsFollow

/-- POWER_LOSS leaves Retained Memory as it stands (R185). -/
theorem State.Reckoned.powerLoss (ht : execPowerLoss s = .next t) : t.holdingsFollow := by
  obtain ⟨-, memory⟩ := s.holdingsFollow_iff.mp h.follow
  obtain rfl := Host.Outcome.next.inj ht
  exact (State.holdingsFollow_iff _).mpr ⟨nofun, memory.same (State.sameLedger_fromMemory rfl)⟩

theorem exec_holdingsFollow (i : Instr) (ht : exec i s = .next t) : t.holdingsFollow := by
  have keep := balanced_requestsKeep
  obtain ⟨now, memory⟩ := s.holdingsFollow_iff.mp h.follow
  have runs : s.phase = .running → s.Balanced := fun hp => ⟨now hp, memory⟩
  have idles : s.phase ≠ .running → s.holdingsFollow := fun _ => h.follow
  cases i
  case unknownCode => exact keep.unknownCode runs idles ht
  case frameComplete => exact keep.frameComplete runs idles ht
  case interByteGapExpiry => exact keep.interByteGapExpiry runs idles ht
  case replyTransmitEnd => exact keep.replyTransmitEnd runs idles ht
  case byteReceived => exact keep.byteReceived runs idles ht
  case startUp => exact h.startUp ht
  case powerLoss => exact h.powerLoss ht
  case rehomeComplete => exact h.rehomeComplete ht
  case managerKeyChange => exact h.managerKeyChange ht
  case headStrobe => exact h.headStrobe ht
  case routeDecision => exact h.routeDecision ht
  case entryPulse => exact h.entryPulse ht
  case routeWindowExpiry => exact h.routeWindowExpiry ht
  case cassetteOut => exact h.cassetteOut ht
  case cassetteIn => exact h.cassetteIn ht
  case emptyLevelReport => exact h.emptyLevelReport ht
  case emptyLevelNotEmpty => exact h.emptyLevelNotEmpty ht
  case piecePulse => exact h.piecePulse ht
  case afterRunWindowClose => exact h.afterRunWindowClose ht
  case strokeDeadlineExpiry => exact h.strokeDeadlineExpiry ht
  case cashboxOut => exact h.cashboxOut ht
  case cashboxIn => exact h.cashboxIn ht
  case strokeStart => exact h.strokeStart ht
  case diverterMoveComplete => exact h.diverterMoveComplete ht
  case chuteSensorChange => exact h.chuteSensorChange ht
  case presentTimerExpiry => exact h.presentTimerExpiry ht
  case attemptCompletion => exact h.attemptCompletion ht
  all_goals exact keep.requestArrives runs idles ht

end

end Sys2Proof.Machine

namespace Sys2Proof
open Machine

/-- Settles O12, command by command: what an event counts it books, or it moves a piece from a store to where it
counts (`State.Reconciles`); the close of the event copies the books to Retained Memory as they stand. -/
theorem holdingsBalanceKept : Obligations.HoldingsBalanceKept := by
  rintro s t ⟨partition, lanes, follow, ⟨stock, -⟩, holdings⟩ hstep
  have hsound : s.phase = .running → s.Sound := fun hp =>
    ⟨partition, lanes, follow, s.stockHeld_iff.mp (stock hp)⟩
  unfold step at hstep
  split at hstep
  · obtain rfl := Host.Outcome.next.inj hstep
    exact holdings
  · rename_i c rest _
    have hrest : (s.withPending rest).Reckoned := ⟨fun hp => (hsound hp).of_same rfl rfl rfl rfl rfl rfl,
      holdings.of_same id (.of_tables rfl rfl rfl rfl rfl) rfl⟩
    exact exec_holdingsFollow hrest c hstep

end Sys2Proof
end
